-- ==== Sys2Proof/Word.lean ====
section
/-!
DEFINITION. The plain words of the Fescora N40 model: bytes, bit strings, characters and fixed tables of records.
Quantities the manual counts (segments, lines, deci-seconds, charge points) are `Nat` or `Int`; only what the manual
treats as bits (page bytes, check values, code words) is a bit vector or a bit list.
-/

namespace Sys2Proof

/-- A byte of the page memory, of a block body, of a frame body or of a character string. -/
abbrev Byte := BitVec 8

/-- A bit string, first bit first: code words, coded lines, the bits of a page in the order of R56. -/
abbrev Bits := List Bool

/-- A string of one-byte characters (section 4.5 and R193). -/
abbrev Text := List Byte

/-- A line of pixels from column 0 rightwards: `true` is black (section 4.4, R61). -/
abbrev PixelLine := List Bool

/-- One of the four line channels LCH0 to LCH3. -/
abbrev LineNo := Fin 4

/-- Record number `i` of a table of `n` records; a number beyond the table reads as `d`. -/
def tget {α : Type} {n : Nat} (v : Vector α n) (i : Nat) (d : α) : α :=
  if h : i < n then v[i] else d

/-- The table with record number `i` replaced; a number beyond the table changes nothing. -/
def tset {α : Type} {n : Nat} (v : Vector α n) (i : Nat) (x : α) : Vector α n :=
  if h : i < n then v.set i x h else v

end Sys2Proof
end

