-- ==== Sys2Proof/Config.lean ====
section
/-!
DEFINITION. What the part fixes (the capacities of section 4.9 and the constants of the rules) and the free values: the
values the manual leaves open, each an opaque constant that no proof can see.
-/

namespace Sys2Proof

/-- The disposition a DOC_RECEIVED notice reports (R146). -/
inductive Disposition where
  | printing | printingHeld | held | discarded
deriving DecidableEq, Repr, Inhabited

namespace Config

/-- Page memory segments (section 4.9, R1). -/
abbrev segments : Nat := 2048
/-- Bytes of one segment (R1). -/
abbrev segmentBytes : Nat := 1024
/-- Page records (R5). -/
abbrev pages : Nat := 256
/-- Document records (R12). -/
abbrev docs : Nat := 64
/-- Pages of one document (R13). -/
abbrev pagesPerDoc : Nat := 64
/-- Free segments a SCAN or BOARD grant needs: it leaves the reserve of 64 (R3). -/
abbrev scanGrantNeeds : Nat := 65
/-- MEMORY_LOW is raised below this free count (R19). -/
abbrev lowThreshold : Nat := 128
/-- MEMORY_LOW is armed again at this free count (R19). -/
abbrev rearmThreshold : Nat := 192
/-- Free segments the answer test asks for (R86). -/
abbrev answerNeeds : Nat := 32
/-- Scanner columns (section 2 of the scanning chapter). -/
abbrev columns : Nat := 2048
/-- Jobs of the job table (R118). -/
abbrev jobs : Nat := 32
/-- Destinations of one job (R119). -/
abbrev destinations : Nat := 16
/-- Entries of the print queue (R149). -/
abbrev entries : Nat := 32
/-- Desks (R164). -/
abbrev desks : Nat := 16
/-- Tariffs (R171). -/
abbrev tariffs : Nat := 16
/-- Places of the charge record queue, reservations included (R179). -/
abbrev recordPlaces : Nat := 64
/-- Places of the notice queue (R188). -/
abbrev noticePlaces : Nat := 32
/-- Places of the reply queue (R184). -/
abbrev replyPlaces : Nat := 8
/-- Longest block body (R183). -/
abbrev maxBody : Nat := 4096
/-- The upper value of dispatcher time (R120). -/
abbrev maxDispatcherTime : Nat := 4294967295
/-- Deci-seconds of a day (R168). -/
abbrev dsPerDay : Nat := 864000
/-- The highest balance (R164). -/
abbrev maxBalance : Int := 2147483647
/-- The part code of START notices (R192). -/
abbrev partCode : Nat := 0x4E40
/-- The revision of START notices (R192). -/
abbrev revision : Nat := 1
/-- The command code in the replies to downstream DATA blocks (R193). -/
abbrev docLinesCode : Nat := 36

/-- FREE VALUE (log entry 3): the disposition of a received document that has no print entry and no board hold and was
not freed at its close, a case the table of R146 does not give. The argument is the State's counter of free values. -/
opaque unlistedDisposition : Nat → Disposition

/-- FREE VALUE (log entry 4): the block type byte of a STATUS block. R193 numbers the types of the four upstream kinds
it names, and STATUS (R187, R189) is none of them. -/
opaque statusBlockType : Byte

/-- FREE VALUE (log entry 5): the desk of a document made by BOARD_PAGE_BEGIN. R12 gives every document a desk, and
R60's command names none. The argument is the State's counter of free values. -/
opaque boardDesk : Nat → Fin 16

end Config
end Sys2Proof
end

