-- ==== Sys2Proof/Syntax.lean ====
section
/-!
DEFINITION. The commands of the part: one constructor of `Instr` per row of spec/opcode_table.json, with the operands
the row's rule gives it. Board commands carry their block's tag and their fields as the board sent them, judged by the
owner's rule; events carry the line they happen on and what the pins or the pump brought.
-/

namespace Sys2Proof

/-- The fields of a board command: as its layout gives them, or a body whose length (or whose flag byte) does not agree
with the command's layout, which R184 answers BAD_FIELD. -/
inductive Args (α : Type) where
  | fields (a : α)
  | malformed
deriving DecidableEq, Repr

/-- What ended in the hard reset: power-on or the reset pin (R192). -/
inductive HardCause where
  | power | pin
deriving DecidableEq, Repr

/-- DOC_FETCH (R22). -/
structure DocFetchArgs where
  document : Nat
  index    : Nat
deriving DecidableEq, Repr

/-- SCAN_START (R38). `density` is the density byte: 0 STD, 1 FINE. -/
structure ScanStartArgs where
  document     : Nat
  desk         : Nat
  width        : Nat
  density      : Nat
  autoCal      : Bool
  copy         : Bool
  copyPriority : Nat
  copies       : Nat
deriving DecidableEq, Repr

/-- SCAN_CONFIG (R27). `band` is the enumeration byte, 0 SMALL and 1 LARGE; `nDark` and `nWhite` are the numbers of
lines the enumeration names. -/
structure ScanConfigArgs where
  clockDivider : Nat
  target       : Nat
  band         : Nat
  weakLimit    : Nat
  nDark        : Nat
  nWhite       : Nat
  beta         : Nat
  thr          : Nat
  hys          : Nat
  speckMin     : Nat
  scanWait     : Nat
deriving DecidableEq, Repr

/-- One entry of LOAD_CODE_SET (R193): the word's length and its bits, left-aligned. -/
structure CodeEntry where
  length : Nat
  bits   : BitVec 16
deriving DecidableEq, Repr

/-- LOAD_CODE_SET (R51). -/
structure LoadCodeSetArgs where
  slot    : Nat
  number  : Nat
  count   : Nat
  entries : List CodeEntry
deriving DecidableEq, Repr

/-- BOARD_PAGE_BEGIN (R60). -/
structure BoardPageBeginArgs where
  document : Nat
  width    : Nat
  density  : Nat
deriving DecidableEq, Repr

/-- CODER_CONFIG (R53). `coding` is the enumeration byte, 0 PLAIN and 1 DIFF. -/
structure CoderConfigArgs where
  slot   : Nat
  coding : Nat
  k      : Nat
deriving DecidableEq, Repr

/-- LINE_CONFIG (R74). `metering` is 0 TARIFF, 1 PULSE; `parity` is 0 NONE, 1 EVEN, 2 ODD; `bitOrder` is 0 LSB_FIRST,
1 MSB_FIRST; `stopBits` is the number of stop bits. -/
structure LineConfigArgs where
  line         : Nat
  enableIn     : Bool
  enableOut    : Bool
  ringCount    : Nat
  ringOnMin    : Nat
  ringGapMax   : Nat
  metering     : Nat
  pulseOnMin   : Nat
  pulseCp      : Nat
  maxStep      : Nat
  accessPrefix : Text
  dialToneWait : Nat
  answerWait   : Nat
  frameReply   : Nat
  releaseGuard : Nat
  parity       : Nat
  stopBits     : Nat
  bitOrder     : Nat
  rateDivider  : Nat
deriving DecidableEq, Repr

/-- LINE_CONTROL (R92). `action` is 0 ENABLE, 1 DISABLE. -/
structure LineControlArgs where
  line   : Nat
  action : Nat
deriving DecidableEq, Repr

/-- STATION_CONFIG (R75). -/
structure StationConfigArgs where
  tag       : Text
  keepRatio : Nat
  maxConsec : Nat
  k         : Nat
deriving DecidableEq, Repr

/-- JOB_SUBMIT (R121). -/
structure JobSubmitArgs where
  jobTag       : Nat
  document     : Nat
  desk         : Nat
  priority     : Nat
  maxAttempts  : Nat
  redial       : Nat
  destinations : List Text
deriving DecidableEq, Repr

/-- One rule of LOAD_ROUTES (R137). `mask` has bit n for line n. -/
structure RouteRule where
  tagPrefix : Text
  mask      : Nat
  desk      : Nat
  priority  : Nat
  copies    : Nat
  hold      : Bool
deriving DecidableEq, Repr

/-- LOAD_ROUTES (R138). -/
structure LoadRoutesArgs where
  count : Nat
  rules : List RouteRule
deriving DecidableEq, Repr

/-- PRINT_DOC (R151). -/
structure PrintDocArgs where
  document : Nat
  copies   : Nat
  priority : Nat
deriving DecidableEq, Repr

/-- DESK_SET (R165). `kind` is 0 INDEPENDENT, 1 MEMBER, 2 POOL; `classes` has bit i for the i-th of LOCAL, NATIONAL,
INTL, PREMIUM. -/
structure DeskSetArgs where
  desk    : Nat
  kind    : Nat
  pool    : Nat
  weight  : Nat
  classes : Nat
  margin  : Nat
deriving DecidableEq, Repr

/-- DESK_CREDIT (R166). -/
structure DeskCreditArgs where
  desk   : Nat
  amount : Int
deriving DecidableEq, Repr

/-- DESK_PERIOD_CLOSE (R167). An absent allowance is 0xFFFFFFFF. -/
structure DeskPeriodCloseArgs where
  desk      : Nat
  allowance : Nat
deriving DecidableEq, Repr

/-- One rule of LOAD_DIAL_PLAN (R170). `cls` is 0 LOCAL, 1 NATIONAL, 2 INTL, 3 PREMIUM, 4 BLOCKED. -/
structure DialRuleArgs where
  digits  : Text
  cls     : Nat
  tariff  : Nat
  strip   : Nat
  prepend : Text
deriving DecidableEq, Repr

/-- LOAD_DIAL_PLAN (R170). -/
structure LoadDialPlanArgs where
  count : Nat
  rules : List DialRuleArgs
deriving DecidableEq, Repr

/-- One entry of LOAD_TARIFFS (R171). -/
structure TariffArgs where
  id       : Nat
  setupCp  : Nat
  stepCp   : Nat
  stepDs0  : Nat
  stepDs1  : Nat
  stepDs2  : Nat
  stepDs3  : Nat
  minSteps : Nat
deriving DecidableEq, Repr

/-- LOAD_TARIFFS (R171). -/
structure LoadTariffsArgs where
  count   : Nat
  entries : List TariffArgs
deriving DecidableEq, Repr

/-- SET_CLOCK (R168). -/
structure SetClockArgs where
  day  : Nat
  time : Nat
deriving DecidableEq, Repr

/-- REPORT_MODE (R189). `mode` is 0 EVENTS, 1 STREAM. -/
structure ReportModeArgs where
  mode   : Nat
  period : Nat
deriving DecidableEq, Repr

/-- The fields of an OFFER frame (R96, R193), as received or as sent. -/
structure OfferFields where
  tag       : Text
  codes     : List Nat
  diff      : Bool
  std       : Bool
  fine      : Bool
  receiveOk : Bool
  maxWidth  : Nat
  maxStep   : Nat
  maxPages  : Nat
deriving DecidableEq, Repr

/-- The fields of a CHOOSE frame (R96, R193). `coding` is 0 for PLAIN and k for DIFF; `density` is 0 STD, 1 FINE. -/
structure ChooseFields where
  tag     : Text
  code    : Nat
  coding  : Nat
  width   : Nat
  density : Nat
  step    : Nat
  pages   : Nat
deriving DecidableEq, Repr

/-- The commands: what the board controller sends (each checked, whole block), what happens at the pins, the pump links
and the mechanisms, and what the part's timers do. One constructor per row of spec/opcode_table.json. -/
inductive Instr where
  /-- HARD_RESET: the end of power-on or of the reset pin's assertion (R192). -/
  | hardReset (cause : HardCause)
  /-- SOFT_RESET (R191). -/
  | softReset (tag : Nat) (a : Args Unit)
  /-- BAD_BLOCK: a downstream block whose check failed or whose type is not taken (R183). -/
  | badBlock (tag : Nat)
  /-- BLOCK_LENGTH_DISCARD: the four header bytes of a block whose stated length is above 4096 (R183). -/
  | blockLengthDiscard (type tag lenHi lenLo : Byte)
  /-- UNKNOWN_COMMAND: a CONTROL block whose body is empty (`none`) or begins with an unknown code (R184). -/
  | unknownCommand (tag : Nat) (code : Option Nat)
  /-- BLOCK_SENT: the last check byte of an upstream block has gone (R187). -/
  | blockSent
  /-- REPORT_TIMER_EXPIRY (R189). -/
  | reportTimerExpiry
  /-- DOC_HOLD (R20). -/
  | docHold (tag : Nat) (a : Args Nat)
  /-- DOC_RELEASE (R20). -/
  | docRelease (tag : Nat) (a : Args Nat)
  /-- DOC_CLOSE (R21). -/
  | docClose (tag : Nat) (a : Args Nat)
  /-- DOC_FETCH (R22). -/
  | docFetch (tag : Nat) (a : Args DocFetchArgs)
  /-- DOC_QUERY (R23). -/
  | docQuery (tag : Nat) (a : Args Nat)
  /-- CALIBRATE (R28). -/
  | calibrate (tag : Nat) (a : Args Unit)
  /-- SCAN_START (R38). -/
  | scanStart (tag : Nat) (a : Args ScanStartArgs)
  /-- SCAN_STOP (R47). -/
  | scanStop (tag : Nat) (a : Args Unit)
  /-- SCAN_CONFIG (R27). -/
  | scanConfig (tag : Nat) (a : Args ScanConfigArgs)
  /-- LOAD_CODE_SET (R51). -/
  | loadCodeSet (tag : Nat) (a : Args LoadCodeSetArgs)
  /-- BOARD_PAGE_BEGIN (R60). -/
  | boardPageBegin (tag : Nat) (a : Args BoardPageBeginArgs)
  /-- BOARD_PAGE_END(abandon) (R62). -/
  | boardPageEnd (tag : Nat) (a : Args Bool)
  /-- CODER_CONFIG (R53). -/
  | coderConfig (tag : Nat) (a : Args CoderConfigArgs)
  /-- DOC_LINES: a downstream DATA block and its body (R61, R184). -/
  | docLines (tag : Nat) (body : List Byte)
  /-- LINE_CONFIG (R74). -/
  | lineConfig (tag : Nat) (a : Args LineConfigArgs)
  /-- LINE_CONTROL (R92). -/
  | lineControl (tag : Nat) (a : Args LineControlArgs)
  /-- STATION_CONFIG (R75). -/
  | stationConfig (tag : Nat) (a : Args StationConfigArgs)
  /-- JOB_SUBMIT (R121). -/
  | jobSubmit (tag : Nat) (a : Args JobSubmitArgs)
  /-- JOB_CANCEL (R133). -/
  | jobCancel (tag : Nat) (a : Args Nat)
  /-- JOB_QUERY (R135). -/
  | jobQuery (tag : Nat) (a : Args Nat)
  /-- LOAD_ROUTES (R138). -/
  | loadRoutes (tag : Nat) (a : Args LoadRoutesArgs)
  /-- PRINT_DOC (R151). -/
  | printDoc (tag : Nat) (a : Args PrintDocArgs)
  /-- PRINT_CANCEL (R161). -/
  | printCancel (tag : Nat) (a : Args Nat)
  /-- PRINT_CONFIG (R162). -/
  | printConfig (tag : Nat) (a : Args Nat)
  /-- DESK_SET (R165). -/
  | deskSet (tag : Nat) (a : Args DeskSetArgs)
  /-- DESK_CREDIT (R166). -/
  | deskCredit (tag : Nat) (a : Args DeskCreditArgs)
  /-- DESK_PERIOD_CLOSE (R167). -/
  | deskPeriodClose (tag : Nat) (a : Args DeskPeriodCloseArgs)
  /-- LOAD_DIAL_PLAN (R170). -/
  | loadDialPlan (tag : Nat) (a : Args LoadDialPlanArgs)
  /-- LOAD_TARIFFS (R171). -/
  | loadTariffs (tag : Nat) (a : Args LoadTariffsArgs)
  /-- LOAD_BANDS (R169). -/
  | loadBands (tag : Nat) (a : Args (List Nat))
  /-- SET_CLOCK (R168). -/
  | setClock (tag : Nat) (a : Args SetClockArgs)
  /-- NOTICE_MASK (R188). Bit i of the mask is the enable flag of notice kind i + 1. -/
  | noticeMask (tag : Nat) (a : Args Nat)
  /-- REPORT_MODE (R189). -/
  | reportMode (tag : Nat) (a : Args ReportModeArgs)
  /-- STATUS_QUERY (R190). -/
  | statusQuery (tag : Nat) (a : Args Unit)
  /-- START_ACK (R186). -/
  | startAck (tag : Nat) (a : Args Unit)
  /-- CLOCK_TICK: a tenth of a second has passed (R168). -/
  | clockTick
  /-- DISPATCHER_TIME_TICK: a second has passed (R120). -/
  | dispatcherTimeTick
  /-- TRAY_PAPER_SENSOR_ACTIVE: the tray-paper sensor takes `level`; `true` is the row's event (R40). -/
  | trayPaperSensorActive (level : Bool)
  /-- EDGE_SENSOR_ACTIVE: the edge sensor takes `level`; `true` is the row's event (R40). -/
  | edgeSensorActive (level : Bool)
  /-- CAL_LINE_TAKEN: the samples of a calibration line (R29, R30). -/
  | calLineTaken (samples : List Byte)
  /-- SCAN_LINE_TAKEN: the samples of a page line (R41). -/
  | scanLineTaken (samples : List Byte)
  /-- JAM_TIMER_EXPIRY (R44). -/
  | jamTimerExpiry
  /-- MEMORY_WAIT_EXPIRY (R46). -/
  | memoryWaitExpiry
  /-- RING_INPUT_CHANGE: the ring input takes `level` (R79). -/
  | ringInputChange (line : LineNo) (level : Bool)
  /-- RING_BURST_QUALIFIED: the ring qualification timer expires (R79, R86). -/
  | ringBurstQualified (line : LineNo)
  /-- RING_GAP_EXPIRY (R86). -/
  | ringGapExpiry (line : LineNo)
  /-- LOOP_CHECK: the loop-current input as read 300 ms after the hook closed (R80). -/
  | loopCheck (line : LineNo) (current : Bool)
  /-- METER_INPUT_CHANGE: the meter input takes `level` (R81). -/
  | meterInputChange (line : LineNo) (level : Bool)
  /-- METER_PULSE_QUALIFIED (R81). -/
  | meterPulseQualified (line : LineNo)
  /-- DIAL_TONE from the pump (R83, R84). -/
  | dialTone (line : LineNo)
  /-- BUSY_TONE from the pump (R84, R85). -/
  | busyTone (line : LineNo)
  /-- FAR_ANSWER from the pump (R85). -/
  | farAnswer (line : LineNo)
  /-- DIAL_TONE_WAIT_EXPIRY (R83, R84). -/
  | dialToneWaitExpiry (line : LineNo)
  /-- PAUSE_EXPIRY (R84). -/
  | pauseExpiry (line : LineNo)
  /-- ANSWER_WAIT_EXPIRY (R85). -/
  | answerWaitExpiry (line : LineNo)
  /-- PUMP_CHARACTER_SENT: the pump link finishes carrying a character (R78, R84). -/
  | pumpCharacterSent (line : LineNo)
  /-- DATA_CHARACTER_RECEIVED: a data character and whether it was received in error (R76 to R78). -/
  | dataCharacterReceived (line : LineNo) (byte : Byte) (parityError : Bool)
  /-- DATA_READY from the pump (R78). -/
  | dataReady (line : LineNo)
  /-- TRAIN_FAIL from the pump (R106). -/
  | trainFail (line : LineNo)
  /-- CARRIER_LOST from the pump (R88). -/
  | carrierLost (line : LineNo)
  /-- FRAME_BEGIN from the pump (R77, R78). -/
  | frameBegin (line : LineNo)
  /-- OFFER: an OFFER frame is delivered (R101). -/
  | offer (line : LineNo) (f : OfferFields)
  /-- CHOOSE: a CHOOSE frame is delivered (R102). -/
  | choose (line : LineNo) (f : ChooseFields)
  /-- ACCEPT (R104). -/
  | accept (line : LineNo)
  /-- DECLINE with its reason byte (R104, R108). -/
  | decline (line : LineNo) (reason : Nat)
  /-- PAGE_HEAD(page number, attempt, step) (R107). -/
  | pageHead (line : LineNo) (number attempt step : Nat)
  /-- PAGE_TAIL(line count, byte count, check) (R111). -/
  | pageTail (line : LineNo) (lines bytes : Nat) (check : BitVec 16)
  /-- PAGE_ACK(page number, verdict byte, bad lines) (R113). -/
  | pageAck (line : LineNo) (number verdict bad : Nat)
  /-- END(pages sent) (R115). -/
  | endFrame (line : LineNo) (pages : Nat)
  /-- END_ACK (R114). -/
  | endAck (line : LineNo)
  /-- FRAME_REPLY_EXPIRY (R98). -/
  | frameReplyExpiry (line : LineNo)
  /-- RELEASE_GUARD_EXPIRY (R91). -/
  | releaseGuardExpiry (line : LineNo)
  /-- DUE_TIMER_EXPIRY of destination `dest` of job `job` (R120). -/
  | dueTimerExpiry (job : Fin 32) (dest : Fin 16)
  /-- STEP_BOUNDARY (R176). -/
  | stepBoundary (line : LineNo)
  /-- PAPER_PRESENT_CHANGE: the paper present input takes `level` (R154, R160). -/
  | paperPresentChange (level : Bool)
  /-- ENGINE_READY: the engine ready input takes `level`; `true` is the row's event (R158). -/
  | engineReady (level : Bool)
  /-- LINE_TAKEN (R158). -/
  | lineTaken
  /-- PRINT_LINE_DECODED: the print decoder finishes an output line (R157). -/
  | printLineDecoded
  /-- CUT_DONE (R159). -/
  | cutDone
  /-- RESET_PIN_ASSERTED: power-on or the reset pin starts a hard reset (R192). -/
  | resetPinAsserted
  /-- FRAME_END from the pump (R77). -/
  | frameEnd (line : LineNo)
  /-- PACE_INTERVAL_EXPIRY (R78). -/
  | paceIntervalExpiry (line : LineNo)
deriving DecidableEq, Repr

end Sys2Proof
end

