-- ==== Sys2Proof/Machine/State.lean ====
section
/-!
DEFINITION. The state of the Fescora N40 as plain data: every record, queue, timer, port and flag the manual gives the
nine blocks, the queue of waiting commands, and the reset state. A `Timer` holds the value it was started with while it
runs; its expiry is a command of its own. Records default to their empty (FREE, reset) values.
-/

namespace Sys2Proof.Machine

/-- A timer: `none` stopped, `some v` running since it was started with the value `v`. -/
abbrev Timer := Option Nat

/-- A day and a time of day in ds, as read from the clock (R168). -/
structure Stamp where
  day  : Nat := 0
  time : Nat := 0
deriving DecidableEq, Repr

/-! ## Enumerations -/

/-- Line density of a page (section 4.4). -/
inductive Density where
  | std | fine
deriving DecidableEq, Repr

/-- Line coding: PLAIN, or DIFF with refresh k (R5, R55). -/
inductive Coding where
  | plain
  | diff (k : Nat)
deriving DecidableEq, Repr

/-- State of a page record (R5). -/
inductive PageState where
  | free | filling | complete | damaged
deriving DecidableEq, Repr

/-- Who supplied a page's data (R5). -/
inductive Source where
  | scan | board | received
deriving DecidableEq, Repr

/-- Kinds of reader (R10). -/
inductive ReaderKind where
  | transmission | print | fetch
deriving DecidableEq, Repr

/-- State of a document record (R12); `opened` is OPEN. -/
inductive DocState where
  | free | opened | closed
deriving DecidableEq, Repr

/-- Origin of a document (R12). -/
inductive Origin where
  | scan | board | received | copy
deriving DecidableEq, Repr

/-- Filler of a document (R12, R15). -/
inductive Filler where
  | none | scn | lcd
  | lch (line : LineNo)
deriving DecidableEq, Repr

/-- The scan unit's request that waits for memory (R18). -/
inductive ScanRequest where
  | grant | openPage
deriving DecidableEq, Repr

/-- The five states of the scan unit (section 2.5). -/
inductive ScanState where
  | idle | calibrating | waitPaper | scanning | pausedMemory
deriving DecidableEq, Repr

/-- The motor output: off, stepped continuously, or stepped after each line (R25). -/
inductive Motor where
  | off | running | perLine
deriving DecidableEq, Repr

/-- How a page in progress ends (R42, R43). -/
inductive PageEnd where
  | edge | length
deriving DecidableEq, Repr

/-- Passes of a calibration (R29, R30). -/
inductive CalPass where
  | dark | white
deriving DecidableEq, Repr

/-- Outcome of a calibration (R28, R33, R47). No rule lists all four: their bytes in CAL_RESULT, INSTALLED 0, CAL_FAIL 1,
SKIPPED 2 and ABORTED 3, are a DESIGN CHOICE (log entry 20). -/
inductive CalOutcome where
  | installed | calFail | skipped | aborted
deriving DecidableEq, Repr

/-- Reason of a session end (R48). -/
inductive ScanReason where
  | scanDone | docFull | jam | memory | stopped
deriving DecidableEq, Repr

/-- Mode of the line coder (section 3.3). -/
inductive CoderMode where
  | idle | scan | board
deriving DecidableEq, Repr

/-- Where a decoder stands in the bit stream (R64): searching, about to read a tag bit, or reading runs. -/
inductive DecPhase where
  | hunt | tag | runs
deriving DecidableEq, Repr

/-- Work of a channel codec (section 3.6). -/
inductive CodecWork where
  | idle | verify | pass | recode
deriving DecidableEq, Repr

/-- The twelve states of a line (R82). -/
inductive LineState where
  | outOfService | idle | ringing | answering | seized | dialing | awaitAnswer
  | negotiating | sending | receiving | closing | releasing
deriving DecidableEq, Repr

/-- Metering mode of a line (R74). -/
inductive Metering where
  | tariff | pulse
deriving DecidableEq, Repr

/-- Parity of the pump link (R74). -/
inductive Parity where
  | none | even | odd
deriving DecidableEq, Repr

/-- Bit order of the pump link (R74). -/
inductive BitOrder where
  | lsbFirst | msbFirst
deriving DecidableEq, Repr

/-- What DIALING waits for (R84): the link to carry a digit, a pause to end, or a dial tone at a W. -/
inductive DialWait where
  | carried | pause | tone
deriving DecidableEq, Repr

/-- Direction of a call (R93). -/
inductive Direction where
  | out | inbound
deriving DecidableEq, Repr

/-- Direction of a data phase (R78). -/
inductive PhaseDir where
  | send | receive
deriving DecidableEq, Repr

/-- Reason of a DECLINE frame (R96). -/
inductive DeclineReason where
  | noMemory | unsupported | notReceiving
deriving DecidableEq, Repr

/-- Release reason of a call (R90). -/
inductive EndReason where
  | completed | busy | noAnswer | noDialTone | trainFail | protocolTimeout | carrierLost | noCommonCode
  | declined (r : DeclineReason)
  | memory | funds | reset
deriving DecidableEq, Repr

/-- First failing condition of the answer test (R86). -/
inductive AnswerFail where
  | notEnabled | noRecordSlot | noMemory | noCodeSet
deriving DecidableEq, Repr

/-- Cause of a LINE_STATE notice (R92). -/
inductive LineCause where
  | command | loopFault | reset
deriving DecidableEq, Repr

/-- Role of a station in a session (R97). -/
inductive Role where
  | caller | callee
deriving DecidableEq, Repr

/-- Stage of the session exchange (R97). -/
inductive Stage where
  | waitOffer | waitReply | training | sendingData | waitAck | waitEndAck
  | offered | declined | waitHead | receivingData | waitTail | linger
deriving DecidableEq, Repr

/-- Why the caller decided to send END (R97, R101). -/
inductive CloseCause where
  | lastPage | closingFlag | noCommonCode
  | declined (r : DeclineReason)
deriving DecidableEq, Repr

/-- Verdict of the receiver on a page (R111). -/
inductive Verdict where
  | keep | resend | keepPoor
deriving DecidableEq, Repr

/-- State of a job (R118). -/
inductive JobState where
  | active | done | cancelled
deriving DecidableEq, Repr

/-- State of a destination (R119). -/
inductive DestState where
  | pending | inCall | waitRetry | waitFunds | done | failed | cancelled
deriving DecidableEq, Repr

/-- Last reason of a destination, in the order of the table of R131. -/
inductive LastReason where
  | completed | cancelled
  | busy | noAnswer | trainFail | protocolTimeout | carrierLost | funds
  | declinedNoMemory | declinedUnsupported | declinedNotReceiving
  | noCommonCode | noDialTone | lineFault | fundsClosing
  | noRoute | barred | noFunds
  | noPages | noDocument
deriving DecidableEq, Repr

/-- Source of a print entry (R149). -/
inductive EntrySource where
  | board | copy | route
deriving DecidableEq, Repr

/-- State of a print entry (R149). -/
inductive EntryState where
  | blocked | waiting | printing | done
deriving DecidableEq, Repr

/-- State of the print engine (R154). -/
inductive EngineState where
  | idle | printing | held
deriving DecidableEq, Repr

/-- Phase of a page being printed (R154). -/
inductive PrintPhase where
  | lines | cut
deriving DecidableEq, Repr

/-- Kind of a desk (R164). -/
inductive DeskKind where
  | independent | member | pool
deriving DecidableEq, Repr

/-- Class of a dialled number (R170). -/
inductive NumberClass where
  | localCall | national | intl | premium | blocked
deriving DecidableEq, Repr

/-- State of the receive parser (R183). -/
inductive RxPhase where
  | hunt | header | body | check
deriving DecidableEq, Repr

/-- Result code of a reply, in the order of the table of R185. -/
inductive ResultCode where
  | ok | okClamped | badBlock | unknownCommand | badField | busy | noSpace | notFound
  | state | tableInvalid | inUse | noCodeSet
deriving DecidableEq, Repr

/-- Notice kinds, in the order of R188. -/
inductive NoticeKind where
  | start | memoryLow | calResult | scanEnd | lineState | missedCall | destResult | jobDone
  | printQueueFull | docReceived | printDone | paper
deriving DecidableEq, Repr

/-- Cause of a START notice (R191, R192). No rule lists all three: their bytes, POWER 0, PIN 1 and SOFT 2, are a DESIGN
CHOICE (log entry 20). -/
inductive StartCause where
  | power | pin | soft
deriving DecidableEq, Repr

/-- Report mode (R189). -/
inductive ReportMode where
  | events | stream
deriving DecidableEq, Repr

/-! ## Page memory manager (chapter 1) -/

/-- Bytes of the page memory that differ from what an unlisted address reads as: rising addresses. -/
abbrev Memory := List Host.Cell

/-- A page as a writer or a reader names it: its record and the reset generation it was given with (R24). -/
structure PageRef where
  page : Nat
  gen  : Nat
deriving DecidableEq, Repr

/-- A page record (R5); its defaults are the values of a FREE record. -/
structure PageRec where
  state         : PageState := .free
  document      : Option Nat := none
  index         : Nat := 0
  source        : Source := .scan
  slot          : Nat := 0
  coding        : Coding := .plain
  width         : Nat := 0
  density       : Density := .std
  lineCount     : Nat := 0
  byteCount     : Nat := 0
  first         : Option Nat := none
  last          : Option Nat := none
  transmissions : Nat := 0
  prints        : Nat := 0
  fetches       : Nat := 0
  badLines      : Nat := 0
  poor          : Bool := false
  uncalibrated  : Bool := false
  final         : Bool := false
  check         : BitVec 16 := 0xFFFF
deriving DecidableEq, Repr

/-- A document record (R12); its defaults are a free record. -/
structure DocRec where
  state     : DocState := .free
  origin    : Origin := .scan
  pages     : List Nat := []
  boardHold : Bool := false
  sendHold  : Nat := 0
  printHold : Nat := 0
  filler    : Filler := .none
  desk      : Nat := 0
  senderTag : Option Text := none
  created   : Stamp := {}
deriving DecidableEq, Repr

/-- A running DOC_FETCH (R22): the command's tag, the page, the number of its DATA blocks and how many have been
chosen for sending. -/
structure Fetch where
  tag    : Nat
  page   : PageRef
  blocks : Nat
  next   : Nat
deriving DecidableEq, Repr

/-- The page memory manager. -/
structure Pmm where
  links        : Vector (Option Nat) 2048 := Vector.replicate 2048 none
  freeList     : List Nat := List.range 2048
  pages        : Vector PageRec 256 := Vector.replicate 256 {}
  docs         : Vector DocRec 64 := Vector.replicate 64 {}
  slotUse      : Vector Nat 2 := Vector.replicate 2 0
  pendingScan  : Option ScanRequest := none
  memLowArmed  : Bool := true
  fetch        : Option Fetch := none
  generation   : Nat := 0
  mem          : Memory := []
deriving DecidableEq, Repr

/-! ## Scan unit (chapter 2) -/

/-- The scan configuration and its hard-reset defaults (R27). `large` is the band LARGE. -/
structure ScanConfig where
  clockDivider : Nat := 5
  target       : Nat := 220
  large        : Bool := false
  weakLimit    : Nat := 16
  nDark        : Nat := 8
  nWhite       : Nat := 16
  beta         : Nat := 4
  thr          : Nat := 64
  hys          : Nat := 32
  speckMin     : Nat := 2
  scanWait     : Nat := 60
deriving DecidableEq, Repr

/-- A calibration in progress (R28 to R30): its pass, the lines it has taken, the working sums and the working dark
table D′. -/
structure Calibration where
  pass  : CalPass := .dark
  taken : Nat := 0
  sums  : List Nat := []
  dark  : List Nat := []
deriving DecidableEq, Repr

/-- The session fields (section 2.5). `feeding` is the feeding phase of WAIT_PAPER; `resume` is the state to return to
while paused; `ending` is set while a page end waits for its padding byte; `completed` counts the session's pages. -/
structure ScanSession where
  document  : Nat
  desk      : Nat
  copy      : Bool
  width     : Nat
  density   : Density
  slot      : Nat
  coding    : Coding
  page      : Option PageRef := none
  lineCount : Nat := 0
  jamTimer  : Timer := none
  memWait   : Timer := none
  feeding   : Bool := false
  resume    : Option ScanState := none
  ending    : Option PageEnd := none
  completed : Nat := 0
deriving DecidableEq, Repr

/-- The scan unit: configuration, tables, background, session, and its port (sensors, lamp, motor, line request). -/
structure Scn where
  config      : ScanConfig := {}
  dark        : List Nat := List.replicate 2048 0
  gain        : List Nat := List.replicate 2048 256
  valid       : Bool := false
  bg          : List Nat := List.replicate 2048 56320
  state       : ScanState := .idle
  cal         : Option Calibration := none
  session     : Option ScanSession := none
  tray        : Bool := false
  edge        : Bool := false
  lamp        : Bool := false
  motor       : Motor := .off
  motorSteps  : Nat := 0
  lineRequest : Option Nat := none
deriving DecidableEq, Repr

/-! ## Line coder and codecs (chapter 3) -/

/-- A loaded code set (R50). -/
structure CodeSet where
  number    : Nat
  mark      : Bits
  whiteTerm : List Bits
  whiteBulk : List Bits
  blackTerm : List Bits
  blackBulk : List Bits
deriving DecidableEq, Repr

/-- CODER_CONFIG values and their hard-reset defaults (R53). -/
structure CoderConfig where
  slot : Nat := 0
  diff : Bool := true
  k    : Nat := 4
deriving DecidableEq, Repr

/-- The page being coded (section 3.3). -/
structure CoderPage where
  ref       : PageRef
  slot      : Nat
  coding    : Coding
  width     : Nat
  lineCount : Nat := 0
deriving DecidableEq, Repr

/-- The held line (R58): its unstored bytes, the bits that stay pending after them, and the line they code, absent for
a padding byte (R59). -/
structure HeldLine where
  bytes : List Byte
  tail  : Bits
  line  : Option PixelLine
deriving DecidableEq, Repr

/-- The open board page's document and density (section 3.3). -/
structure BoardPage where
  document : Nat
  density  : Density
deriving DecidableEq, Repr

/-- The line coder. -/
structure Lcd where
  slots     : Vector (Option CodeSet) 2 := Vector.replicate 2 none
  config    : CoderConfig := {}
  mode      : CoderMode := .idle
  job       : Option CoderPage := none
  reference : PixelLine := List.replicate 2048 false
  bits      : Bits := []
  held      : Option HeldLine := none
  board     : Option BoardPage := none
deriving DecidableEq, Repr

/-- A decoder's state (R64): the bits read since the last word boundary or of the search, the kind of the line, the
current table, an open bulk word, and the runs read, last first. -/
structure Dec where
  phase : DecPhase := .hunt
  buf   : Bits := []
  plain : Bool := true
  black : Bool := false
  bulk  : Option Nat := none
  sum   : Nat := 0
  runs  : List (Bool × Nat) := []
deriving DecidableEq, Repr

/-- A channel codec (section 3.6): its work and bound slot; in VERIFY the decoder and the counters of R70; in PASS and
RECODE the page read, the bytes handed over, the line count to report, the running check and the replaced lines. -/
structure Codec where
  work        : CodecWork := .idle
  slot        : Option Nat := none
  dec         : Dec := {}
  found       : Nat := 0
  bad         : Nat := 0
  run         : Nat := 0
  longest     : Nat := 0
  suspect     : Bool := false
  suspectNext : Bool := false
  page        : Option PageRef := none
  pos         : Nat := 0
  lines       : Nat := 0
  check       : BitVec 16 := 0xFFFF
  replaced    : Nat := 0
deriving DecidableEq, Repr

/-! ## Line channels and the session protocol (chapters 4 and 5) -/

/-- A line's configuration and its hard-reset defaults (R74). -/
structure LineConfig where
  enableIn     : Bool := true
  enableOut    : Bool := true
  ringCount    : Nat := 2
  ringOnMin    : Nat := 200
  ringGapMax   : Nat := 8
  metering     : Metering := .tariff
  pulseOnMin   : Nat := 40
  pulseCp      : Nat := 10
  maxStep      : Nat := 5
  accessPrefix : Text := []
  dialToneWait : Nat := 30
  answerWait   : Nat := 600
  frameReply   : Nat := 60
  releaseGuard : Nat := 20
  parity       : Parity := .even
  stopBits     : Nat := 1
  bitOrder     : BitOrder := .lsbFirst
  rateDivider  : Nat := 208
deriving DecidableEq, Repr

/-- The station configuration and its hard-reset defaults (R75). -/
structure Station where
  tag       : Text := []
  keepRatio : Nat := 4
  maxConsec : Nat := 8
  k         : Nat := 4
deriving DecidableEq, Repr

/-- A session frame (R96, R193): its fields as sent or as received, judged by R96 where they are taken. -/
inductive Frame where
  | offer (f : OfferFields)
  | choose (f : ChooseFields)
  | accept
  | decline (reason : Nat)
  | pageHead (number attempt step : Nat)
  | pageTail (lines bytes : Nat) (check : BitVec 16)
  | pageAck (number verdict bad : Nat)
  | endCall (pages : Nat)
  | endAck
deriving DecidableEq, Repr

/-- A character the part gives its pump (R193): page or frame data, or a pump control character. -/
inductive PumpChar where
  | data (b : Byte)
  | dialDigit (c : Byte)
  | dataStart (step : Nat) (dir : PhaseDir)
  | dataStop
  | frameBegin
  | frameEnd
deriving DecidableEq, Repr

/-- A data phase (R78): its direction, its step, and whether the pump has answered DATA_READY. -/
structure DataPhase where
  dir   : PhaseDir
  step  : Nat
  ready : Bool := false
deriving DecidableEq, Repr

/-- A frame body being assembled (R77): its characters, and whether one carried a parity error mark. -/
structure FrameBody where
  bytes  : List Byte := []
  marked : Bool := false
deriving DecidableEq, Repr

/-- The captured values of a tariff (R171, R172): `stepDs` for bands 0 to 3. -/
structure Tariff where
  setupCp  : Nat
  stepCp   : Nat
  stepDs   : List Nat
  minSteps : Nat
deriving DecidableEq, Repr

/-- The last request sent and not yet answered, with the number of times it has been sent (R97). -/
structure Request where
  frame : Frame
  sent  : Nat
deriving DecidableEq, Repr

/-- The session record (R97). `expiries` counts the timer's expiries since the stage's last frame (R98, R99);
`offered` is the OFFER the callee sent; `headSince` is set when a PAGE_HEAD has been taken since the stored reply was
sent (R99); `endPages` is the pages sent field of an END taken (R115); `page` and `reader` are the page being received
and the page being read. R97 gives `step` no value before the choice: it is 0 then, and a caller whose call ends before
one hands 0 on (R117), a DESIGN CHOICE (log entry 48). -/
structure Session where
  role         : Role := .caller
  stage        : Stage := .waitOffer
  request      : Option Request := none
  storedReply  : Option Frame := none
  step         : Nat := 0
  base         : Nat := 0
  settled      : Nat := 0
  trainFails   : Nat := 0
  closeCause   : Option CloseCause := none
  memExhausted : Bool := false
  farTag       : Text := []
  recoded      : Nat := 0
  expiries     : Nat := 0
  offered      : Option OfferFields := none
  declined     : Option DeclineReason := none
  headSince    : Bool := false
  endPages     : Option Nat := none
  page         : Option PageRef := none
  reader       : Option PageRef := none
deriving DecidableEq, Repr

/-- The negotiated parameters of a call (R93): the choice, and the station values copied at NEGOTIATING. -/
structure Negotiated where
  code      : Nat := 0
  coding    : Coding := .plain
  width     : Nat := 0
  density   : Density := .std
  step      : Nat := 0
  pages     : Nat := 0
  station   : Station := {}
deriving DecidableEq, Repr

/-- The call context (R93), with the session record of R97. `counted` names the desk and pool the call is counted
active for (R164); `elapsedOn` says that the elapsed count runs; `nextDue` is absent when no boundary is timed. What the
table of R93 leaves unwritten at the start reads as the defaults here, the metering mode of an inbound call TARIFF and the
negotiated parameters 0, PLAIN and STD before the choice: a DESIGN CHOICE (log entry 41). -/
structure Ctx where
  callId         : Nat := 0
  dir            : Direction := .out
  job            : Option (Nat × Nat) := none
  jobTag         : Nat := 0
  desk           : Option Nat := none
  pool           : Option Nat := none
  counted        : Option (Nat × Option Nat) := none
  cls            : Option NumberClass := none
  tariffId       : Option Nat := none
  tariff         : Option Tariff := none
  metering       : Metering := .tariff
  start          : Stamp := {}
  answer         : Option Stamp := none
  nextDue        : Option Nat := none
  steps          : Nat := 0
  pulses         : Nat := 0
  charge         : Int := 0
  poolShare      : Int := 0
  unrecovered    : Int := 0
  poolUnrecovered : Int := 0
  elapsed        : Nat := 0
  elapsedOn      : Bool := false
  clockUnset     : Bool := false
  closing        : Bool := false
  params         : Negotiated := {}
  page           : Option Nat := none
  attempt        : Option Nat := none
  confirmed      : Nat := 0
  reservation    : Bool := false
  dial           : Text := []
  senderTag      : Option Text := none
  reason         : Option EndReason := none
  releaseTime    : Option Stamp := none
  sess           : Option Session := none
deriving DecidableEq, Repr

/-- A line's ringing record (R86): ring time, bursts counted, the reason the last answer test kept, and whether the
ring time was read with the clock unset. -/
structure RingRecord where
  time   : Stamp
  bursts : Nat
  reason : Option AnswerFail
  unset  : Bool
deriving DecidableEq, Repr

/-- A line channel: configuration, state, pins, timers, call context, pump link and codec. `tx` holds the characters
handed to the pump link, the one being carried first; `dial` the dial characters still to send; `toneSeen` a DIAL_TONE
remembered before the loop check; `pace` the interval since the last data character's start; `renewed` says that the
training bound's expiry renewed the send phase (R106, log entry 43). -/
structure Line where
  config       : LineConfig := {}
  enabled      : Bool := false
  state        : LineState := .outOfService
  hookClosed   : Bool := false
  ringInput    : Bool := false
  meterInput   : Bool := false
  ringQual     : Timer := none
  ringGap      : Timer := none
  ringing      : Option RingRecord := none
  loopTimer    : Timer := none
  loopFound    : Bool := false
  toneSeen     : Bool := false
  dialToneWait : Timer := none
  pause        : Timer := none
  answerWait   : Timer := none
  frameReply   : Timer := none
  releaseGuard : Timer := none
  meterQual    : Timer := none
  dial         : Text := []
  dialWait     : Option DialWait := none
  ctx          : Option Ctx := none
  frame        : Option FrameBody := none
  phase        : Option DataPhase := none
  renewed      : Bool := false
  pace         : Timer := none
  tx           : List PumpChar := []
  codec        : Codec := {}
deriving DecidableEq, Repr

/-! ## Dispatcher (chapter 6) -/

/-- A destination record (R119). `timer` is its due timer (R120). -/
structure Dest where
  dial      : Text
  state     : DestState := .pending
  due       : Option Nat := none
  line      : Option LineNo := none
  attempts  : Nat := 0
  calls     : Nat := 0
  confirmed : Nat := 0
  last      : Option LastReason := none
  timer     : Bool := false
deriving DecidableEq, Repr

/-- A job record in use (R118); its number is its place in the table. -/
structure Job where
  tag         : Nat
  seq         : Nat
  document    : Nat
  desk        : Nat
  priority    : Nat
  maxAttempts : Nat
  redial      : Nat
  submitTime  : Nat
  state       : JobState := .active
  cancel      : Bool := false
  dests       : List Dest
deriving DecidableEq, Repr

/-- The dispatcher (R118 to R120). -/
structure Dsp where
  jobs    : Vector (Option Job) 32 := Vector.replicate 32 none
  order   : List Nat := []
  counter : Nat := 0
  time    : Nat := 0
deriving DecidableEq, Repr

/-! ## Reception router (chapter 7) -/

/-- A reception record in ROUTED state (R142). `rule` is absent for the default route. -/
structure Reception where
  callId    : Nat
  document  : Nat
  rule      : Option Nat
  desk      : Nat
  pool      : Option Nat
  priority  : Nat
  copies    : Nat
  hold      : Bool
  entry     : Option Nat
  queueFull : Bool
deriving DecidableEq, Repr

/-- The reception router (R137, R142). -/
structure Rtr where
  table     : List RouteRule := []
  reception : Vector (Option Reception) 4 := Vector.replicate 4 none
deriving DecidableEq, Repr

/-! ## Print unit (chapter 8) -/

/-- A print entry in use (R149); its id is its place in the table. -/
structure Entry where
  seq       : Nat
  source    : EntrySource
  document  : Nat
  priority  : Nat
  copies    : Nat
  remaining : Nat
  next      : Nat := 1
  state     : EntryState
  finalCount : Option Nat
  printed   : Nat := 0
  replaced  : Nat := 0
deriving DecidableEq, Repr

/-- The page being printed with its decoder and line feed (R154 to R158): the page, the captured head width, N, the
output lines decoded and taken, and slots A and B. `reader` is set while the print reader is held. -/
structure PrintPage where
  document  : Nat
  index     : Nat
  ref       : PageRef
  headWidth : Nat
  total     : Nat
  decoded   : Nat := 0
  taken     : Nat := 0
  slotA     : Option PixelLine := none
  slotB     : Option PixelLine := none
  reader    : Bool := true
deriving DecidableEq, Repr

/-- The print unit: queue, engine and engine port. While the engine is PRINTING, `current` is the entry printed, absent
after a cancel or a soft reset. -/
structure Prt where
  entries    : Vector (Option Entry) 32 := Vector.replicate 32 none
  order      : List Nat := []
  counter    : Nat := 0
  headWidth  : Nat := 1728
  engine     : EngineState := .idle
  phase      : PrintPhase := .lines
  current    : Option Nat := none
  page       : Option PrintPage := none
  paper      : Bool := true
  ready      : Bool := false
  cutRequest : Bool := false
deriving DecidableEq, Repr

/-! ## Charge unit (chapter 9) -/

/-- A set of permitted classes (R164). -/
structure ClassSet where
  localCall : Bool := false
  national  : Bool := false
  intl      : Bool := false
  premium   : Bool := false
deriving DecidableEq, Repr

/-- A desk record and its hard-reset values (R164). -/
structure Desk where
  kind        : DeskKind := .independent
  pool        : Option Nat := none
  weight      : Nat := 0
  classes     : ClassSet := {}
  balance     : Int := 0
  margin      : Int := 0
  opening     : Int := 0
  credits     : Int := 0
  metered     : Int := 0
  charged     : Int := 0
  unrecovered : Int := 0
  calls       : Nat := 0
  active      : Nat := 0
deriving DecidableEq, Repr

/-- A rule of the dial plan (R170). -/
structure DialRule where
  digits  : Text
  cls     : NumberClass
  tariff  : Nat
  strip   : Nat
  prepend : Text
deriving DecidableEq, Repr

/-- A charge record (R180). -/
structure ChargeRecord where
  seq             : Nat
  callId          : Nat
  line            : LineNo
  dir             : Direction
  desk            : Nat
  pool            : Option Nat
  dialled         : Text
  cls             : Option NumberClass
  tariffId        : Option Nat
  start           : Stamp
  answer          : Option Stamp
  duration        : Nat
  steps           : Nat
  pulses          : Nat
  charge          : Int
  poolShare       : Int
  unrecovered     : Int
  poolUnrecovered : Int
  pages           : Nat
  reason          : EndReason
  jobTag          : Nat
  dest            : Option Nat
  senderTag       : Text
  clockUnset      : Bool
deriving DecidableEq, Repr

/-- The time-of-day clock (R168). -/
structure Clock where
  now : Stamp := {}
  set : Bool := false
deriving DecidableEq, Repr

/-- The charge unit (R164 to R182). An empty band table is `[]`. -/
structure Chg where
  desks        : Vector Desk 16 := Vector.replicate 16 {}
  clock        : Clock := {}
  bands        : List Nat := []
  plan         : List DialRule := []
  tariffs      : Vector (Option Tariff) 16 := Vector.replicate 16 none
  counter      : Nat := 0
  queue        : List ChargeRecord := []
  reservations : Nat := 0
deriving DecidableEq, Repr

/-! ## Board link interface (chapter 10) -/

/-- The receive parser (R183): its state and the bytes of the block collected after its sync. -/
structure Rx where
  phase : RxPhase := .hunt
  got   : List Byte := []
deriving DecidableEq, Repr

/-- The event summary (R187): one flag per notice kind, and REPLY_LOST. -/
structure Summary where
  kinds     : Vector Bool 12 := Vector.replicate 12 false
  replyLost : Bool := false
deriving DecidableEq, Repr

/-- What STATUS_QUERY reports (R190): for each line its state and, in a call, its call id and direction. -/
structure StatusBody where
  summary      : Summary
  lines        : List (LineState × Option (Nat × Direction))
  freeCount    : Nat
  noticeDepth  : Nat
  recordDepth  : Nat
  reservations : Nat
  printDepth   : Nat
  engine       : EngineState
  jobs         : Nat
  scan         : ScanState
  clock        : Clock
  mode         : ReportMode
deriving DecidableEq, Repr

/-- One summary line of DOC_QUERY(255) (R23). -/
structure DocLine where
  id        : Nat
  origin    : Origin
  state     : DocState
  pages     : Nat
  boardHold : Bool
  sendHold  : Nat
  printHold : Nat
  filler    : Filler
deriving DecidableEq, Repr

/-- One line of JOB_QUERY(255) (R135): `counts` gives the number of destinations in each destination state. -/
structure JobLine where
  id       : Nat
  tag      : Nat
  seq      : Nat
  document : Nat
  priority : Nat
  state    : JobState
  counts   : List Nat
deriving DecidableEq, Repr

/-- One desk's figures in the reply of DESK_PERIOD_CLOSE (R167). -/
structure PeriodLine where
  opening     : Int
  credits     : Int
  metered     : Int
  charged     : Int
  unrecovered : Int
  calls       : Nat
  balance     : Int
deriving DecidableEq, Repr

/-- A command's own reply fields (R185). -/
inductive ReplyBody where
  | none
  | fetch (bytes lines : Nat) (state : PageState) (check : BitVec 16)
  | document (id : Nat) (d : DocRec) (pages : List (Nat × PageRec))
  | documents (ds : List DocLine)
  | docId (id : Nat)
  | codeFault (black : Bool) (bulk : Bool) (run : Nat)
  | boardPage (doc index : Nat)
  | boardEnd (index lines bytes : Nat)
  | boardAbandoned (index : Nat)
  | linesTaken (n : Nat)
  | jobAccepted (id seq : Nat)
  | faultAt (index : Nat)
  | jobCancelled (atOnce inCalls : Nat)
  | job (time id : Nat) (j : Job) (callIds : List (Option Nat))
  | jobs (time : Nat) (ls : List JobLine)
  | ruleCount (n : Nat)
  | entry (id seq : Nat)
  | printCancelled (printed copies : Nat)
  | balance (b : Int)
  | periods (ds : List PeriodLine)
  | status (b : StatusBody)
deriving DecidableEq, Repr

/-- A REPLY (R185). -/
structure Reply where
  tag     : Nat
  code    : Nat
  result  : ResultCode
  unack   : Bool
  clamped : Nat
  body    : ReplyBody
deriving DecidableEq, Repr

/-- What a DEST_RESULT for an outcome adds (R131). Where the call never negotiated, `farTag` is empty, `step` absent and
`recoded` 0: a DESIGN CHOICE (log entry 53). -/
structure OutcomeInfo where
  callId    : Nat
  confirmed : Nat
  farTag    : Text
  step      : Option Nat
  recoded   : Nat
deriving DecidableEq, Repr

/-- The fields of a notice, by kind (R188). -/
inductive NoticeBody where
  | start (cause : StartCause) (part revision : Nat)
  | memoryLow (free : Nat)
  | calResult (outcome : CalOutcome) (weak : Nat)
  | scanEnd (reason : ScanReason) (doc completed pages : Nat)
  | lineState (line : LineNo) (state : LineState) (cause : LineCause)
  | missedCall (line : LineNo) (ring : Stamp) (bursts : Nat) (reason : Option AnswerFail)
  | destResult (job jobTag dest : Nat) (state : DestState) (attempts calls confirmed : Nat) (due : Option Nat)
      (reason : Option LastReason) (outcome : Option OutcomeInfo)
  | jobDone (job jobTag seq doc : Nat) (state : JobState)
      (dests : List (DestState × Nat × Nat × Nat × Option LastReason))
  | printQueueFull (line : LineNo) (callId doc : Nat) (tag : Text) (rule : Option Nat) (priority copies : Nat)
  | docReceived (line : LineNo) (callId doc : Nat) (tag : Text) (rule : Option Nat) (desk : Nat) (reason : EndReason)
      (settled : Nat) (sent : Option Nat) (complete poor damaged bad : Nat) (disposition : Disposition)
      (queueFull : Bool) (entry : Option Nat)
  | printDone (entry seq : Nat) (source : EntrySource) (doc copies printed replaced : Nat)
  | paper (state : EngineState) (abandoned : Option (Nat × Nat × Nat))
deriving DecidableEq, Repr

/-- A queued notice: its block's tag, its fields, and the clock at raising (R188). -/
structure Notice where
  tag  : Nat
  body : NoticeBody
  time : Stamp
deriving DecidableEq, Repr

/-- A block being sent upstream (R187). -/
inductive UpBlock where
  | reply (r : Reply)
  | record (r : ChargeRecord)
  | status (b : StatusBody)
  | notice (n : Notice)
  | data (tag : Nat) (bytes : List Byte)
deriving DecidableEq, Repr

/-- The board link interface (R183 to R190). -/
structure Bli where
  rx          : Rx := {}
  replies     : List Reply := []
  status      : Option StatusBody := none
  notices     : List Notice := []
  summary     : Summary := {}
  mask        : Vector Bool 12 := Vector.replicate 12 true
  mode        : ReportMode := .events
  period      : Nat := 1
  reportTimer : Timer := none
  unack       : Bool := true
  sending     : Option UpBlock := none
deriving DecidableEq, Repr

/-! ## The machine -/

/-- A report one block owes another at the event in progress: taken in order before the step ends (log entry 8). -/
inductive Report where
  | pageFinal (doc index : Nat)
  | docClosed (doc pages : Nat)
  | docFreed (doc : Nat) (sendHeld printHeld : Bool)
  | memoryFreed
  | evaluate
  | fundsChanged (desk : Nat)
  | arbiter
  | boundary
deriving DecidableEq, Repr

/-- The state of the part. `pending` is the queue of waiting commands, first in first out; `inReset` is set from power-on
or the assertion of the reset pin to the end of the hard reset (R192). `reports` (empty between steps) and `freeIndex`
(the counter of free values) are the model's own. -/
structure State where
  pending     : List Instr := []
  inReset     : Bool := false
  pmm         : Pmm := {}
  scn         : Scn := {}
  lcd         : Lcd := {}
  lines       : Vector Line 4 := Vector.replicate 4 {}
  station     : Station := {}
  callCounter : Nat := 0
  dsp         : Dsp := {}
  rtr         : Rtr := {}
  prt         : Prt := {}
  chg         : Chg := {}
  bli         : Bli := {}
  reports     : List Report := []
  freeIndex   : Nat := 0
deriving DecidableEq, Repr

/-- Faults. The manual gives every command an effect, and no access of the model leaves the page memory: no command
faults, and there is no fault to name (NOTES.md, '## Stops'). -/
inductive Fault where
deriving DecidableEq, Repr

/-- Refusals. `notModelled` is raised by `exec` alone, for a command without a meaning; it is safe: the machine stops
where the part goes on. -/
inductive Refusal where
  | notModelled (mnemonic : String)
deriving DecidableEq, Repr

/-- The START notice of a reset with its tag (R191, R192). -/
def startNotice (cause : StartCause) (tag : Nat) (now : Stamp) : Notice :=
  { tag := tag, body := .start cause Config.partCode Config.revision, time := now }

/-- The event summary with the START flag alone set (R187). -/
def Summary.startOnly : Summary := { kinds := tset (Vector.replicate 12 false) 0 true }

/-- The part at the end of power-on (R192): every block at its hard-reset values, and the START notice with cause POWER
and tag 0 already taken by the upstream selector. Pins and the page memory's bytes have the values of log entries 1
and 2. -/
def State.reset : State :=
  { bli := { summary := .startOnly, sending := some (.notice (startNotice .power 0 {})) } }

end Sys2Proof.Machine
end

