-- ==== Sys2Proof/Machine/Ops.lean ====
section
/-!
DEFINITION. The named operations over the page memory, the records and the reply queue, the CRC-16 of section 4.6, and
the small updates every block shares.
-/

namespace Sys2Proof.Machine

/-! ## Arithmetic of the manual -/

/-- clamp(x, lo, hi) of section 4.2. -/
def clampNat (x lo hi : Nat) : Nat := if x < lo then lo else if hi < x then hi else x

/-- clamp(x, lo, hi) of section 4.2, on signed integers. -/
def clampInt (x lo hi : Int) : Int := if x < lo then lo else if hi < x then hi else x

/-- ceil(a / b). -/
def ceilDiv (a b : Nat) : Nat := (a + b - 1) / b

/-- The next value of a counter that wraps from 65535 to 0. -/
def wrap16 (n : Nat) : Nat := if n < 65535 then n + 1 else 0

/-- A counter that stays at 65535 once reached. -/
def sat16 (n : Nat) : Nat := min n 65535

/-! ## Check value (section 4.6) -/

/-- One bit of the CRC-16 register: polynomial x^16 + x^12 + x^5 + 1, most significant bit first. -/
def crcShift (c : BitVec 16) : BitVec 16 :=
  if c.getLsbD 15 then (c <<< 1) ^^^ 0x1021#16 else c <<< 1

/-- The check value advanced by one byte, most significant bit first. -/
def crcByte (c : BitVec 16) (b : Byte) : BitVec 16 :=
  let c := c ^^^ (b.setWidth 16 <<< 8)
  crcShift (crcShift (crcShift (crcShift (crcShift (crcShift (crcShift (crcShift c)))))))

/-- The check value over a list of bytes, from all ones, with no final inversion. -/
def crc16 (bs : List Byte) : BitVec 16 := bs.foldl crcByte 0xFFFF#16

/-! ## Page memory bytes -/

/-- What a byte of page memory that nothing has written reads as (log entry 2). -/
def Memory.blank : Byte := 0

/-- The byte stored at an address. -/
def Memory.read : Memory → Nat → Byte
  | [], _ => Memory.blank
  | (x, c) :: m, a => if x = a then c else Memory.read m a

/-- The memory with a byte stored at an address, in canonical form. -/
def Memory.write : Memory → Nat → Byte → Memory
  | [], a, b => if b = Memory.blank then [] else [(a, b)]
  | (x, c) :: m, a, b =>
    if a < x then (if b = Memory.blank then (x, c) :: m else (a, b) :: (x, c) :: m)
    else if a = x then (if b = Memory.blank then m else (a, b) :: m)
    else (x, c) :: Memory.write m a b

/-- Canonical form: addresses strictly rising, and no entry equal to what an unlisted address reads as. -/
abbrev Memory.wf (m : Memory) : Prop :=
  m.Pairwise (fun x y => x.1 < y.1) ∧ ∀ x ∈ m, x.2 ≠ Memory.blank

/-- The page memory address of byte `off` of segment `seg` (section 1.1). -/
def segmentAddress (seg off : Nat) : Nat := seg * Config.segmentBytes + off % Config.segmentBytes

/-! ## Records -/

/-- Page record `p`. -/
def State.page (s : State) (p : Nat) : PageRec := tget s.pmm.pages p {}

/-- Page record `p` replaced. -/
def State.setPage (s : State) (p : Nat) (r : PageRec) : State :=
  { s with pmm := { s.pmm with pages := tset s.pmm.pages p r } }

/-- Document record `d`. -/
def State.doc (s : State) (d : Nat) : DocRec := tget s.pmm.docs d {}

/-- Document record `d` replaced. -/
def State.setDoc (s : State) (d : Nat) (r : DocRec) : State :=
  { s with pmm := { s.pmm with docs := tset s.pmm.docs d r } }

/-- The free count (R2). -/
def State.freeCount (s : State) : Nat := s.pmm.freeList.length

/-- Line channel `n`. -/
def State.line (s : State) (n : LineNo) : Line := s.lines[n]

/-- Line channel `n` updated. -/
def State.updLine (s : State) (n : LineNo) (f : Line → Line) : State :=
  { s with lines := s.lines.set n (f s.lines[n]) }

/-- The call context of line `n`, the empty one outside a call (R93). -/
def State.ctx (s : State) (n : LineNo) : Ctx := (s.line n).ctx.getD {}

/-- The call context of line `n` updated, where a call is in progress. -/
def State.updCtx (s : State) (n : LineNo) (f : Ctx → Ctx) : State :=
  s.updLine n fun l => { l with ctx := l.ctx.map f }

/-- The session record of line `n` (R97). -/
def State.sess (s : State) (n : LineNo) : Session := (s.ctx n).sess.getD {}

/-- The session record of line `n` updated, where one is filled. -/
def State.updSess (s : State) (n : LineNo) (f : Session → Session) : State :=
  s.updCtx n fun c => { c with sess := c.sess.map f }

/-- The codec of line `n` updated. -/
def State.updCodec (s : State) (n : LineNo) (f : Codec → Codec) : State :=
  s.updLine n fun l => { l with codec := f l.codec }

/-- Job record `j`. -/
def State.job (s : State) (j : Nat) : Option Job := tget s.dsp.jobs j none

/-- Job record `j` replaced. -/
def State.setJob (s : State) (j : Nat) (r : Option Job) : State :=
  { s with dsp := { s.dsp with jobs := tset s.dsp.jobs j r } }

/-- Desk record `d`. -/
def State.desk (s : State) (d : Nat) : Desk := tget s.chg.desks d {}

/-- Desk record `d` updated. -/
def State.updDesk (s : State) (d : Nat) (f : Desk → Desk) : State :=
  { s with chg := { s.chg with desks := tset s.chg.desks d (f (tget s.chg.desks d {})) } }

/-- Print entry `e`. -/
def State.entry (s : State) (e : Nat) : Option Entry := tget s.prt.entries e none

/-- Print entry `e` replaced. -/
def State.setEntry (s : State) (e : Nat) (r : Option Entry) : State :=
  { s with prt := { s.prt with entries := tset s.prt.entries e r } }

/-- Code slot `k` (R50). -/
def State.codeSet (s : State) (k : Nat) : Option CodeSet := tget s.lcd.slots k none

/-- The clock as it stands (R168). -/
def State.now (s : State) : Stamp := s.chg.clock.now

/-- The lowest number below `n` that passes a test. -/
def lowest (n : Nat) (p : Nat → Bool) : Option Nat := (List.range n).find? p

/-! ## Reports and replies -/

/-- A report to another block, taken after those already owed. -/
def State.report (s : State) (r : Report) : State := { s with reports := s.reports ++ [r] }

/-- A reply joins the reply queue, or is dropped with REPLY_LOST set when the queue holds 8 (R184). It carries the
reset-unacknowledged flag as it stands (R186). -/
def State.reply (s : State) (tag code : Nat) (result : ResultCode) (clamped : Nat := 0) (body : ReplyBody := .none) :
    State :=
  if s.bli.replies.length < Config.replyPlaces then
    { s with bli := { s.bli with
        replies := s.bli.replies ++
          [{ tag := tag, code := code, result := result, unack := s.bli.unack, clamped := clamped, body := body }] } }
  else { s with bli := { s.bli with summary := { s.bli.summary with replyLost := true } } }

/-- The reply of an accepted command: OK, or OK_CLAMPED with the number of fields clamped (R185). -/
def State.replyOk (s : State) (tag code clamped : Nat) (body : ReplyBody := .none) : State :=
  s.reply tag code (if clamped = 0 then .ok else .okClamped) clamped body

end Sys2Proof.Machine
end

