-- ==== Sys2Proof/Machine/Coding.lean ====
section
/-!
DEFINITION. Run coding (chapter 3): code words, the coding of runs and lines, packing, decoding with replacement, the fit
rule and density conversion. Every coder, codec and decoder of the part uses these.
-/

namespace Sys2Proof.Machine

/-! ## Bits and bytes (R56) -/

/-- The eight bits of a byte, bit 7 first. -/
def byteBits (b : Byte) : Bits :=
  [b.getLsbD 7, b.getLsbD 6, b.getLsbD 5, b.getLsbD 4, b.getLsbD 3, b.getLsbD 2, b.getLsbD 1, b.getLsbD 0]

/-- The value of a bit string, first bit most significant. -/
def bitsValue (bs : Bits) : Nat := bs.foldl (fun n b => 2 * n + b.toNat) 0

/-- The byte of eight bits, the first bit 7; fewer bits are followed by zeros. -/
def bitsByte (bs : Bits) : Byte := BitVec.ofNat 8 (bitsValue ((bs ++ List.replicate 8 false).take 8))

/-- The complete bytes of a bit string, `n` of them at most. -/
def packBytes : Nat → Bits → List Byte
  | 0, _ => []
  | n + 1, bs => bitsByte (bs.take 8) :: packBytes n (bs.drop 8)

/-- The complete bytes of a bit string and the bits that stay pending (R56). -/
def packComplete (bs : Bits) : List Byte × Bits :=
  (packBytes (bs.length / 8) bs, bs.drop (bs.length / 8 * 8))

/-- The bytes of a bit string, the last padded with zeros (R56, R59). -/
def packPadded (bs : Bits) : List Byte := packBytes (ceilDiv bs.length 8) bs

/-- The bits of a list of bytes. -/
def unpackBits (bs : List Byte) : Bits := bs.flatMap byteBits

/-! ## Runs (R54, R55) -/

/-- The maximal runs of a line, from left to right, each with its colour. -/
def runsOf : PixelLine → List (Bool × Nat)
  | [] => []
  | c :: rest =>
    match runsOf rest with
    | (d, n) :: more => if c = d then (d, n + 1) :: more else (c, 1) :: (d, n) :: more
    | [] => [(c, 1)]

/-- The pixels of a list of runs. -/
def expandRuns (rs : List (Bool × Nat)) : PixelLine := rs.flatMap fun r => List.replicate r.2 r.1

/-- The run lengths of a line, alternating from white: a line that starts black starts with a white run of 0 (R55). -/
def lineRuns (l : PixelLine) : List Nat :=
  match runsOf l with
  | (true, n) :: more => 0 :: n :: more.map Prod.snd
  | rs => rs.map Prod.snd

/-- The terminal words of a colour. -/
def CodeSet.term (c : CodeSet) (black : Bool) : List Bits := if black then c.blackTerm else c.whiteTerm

/-- The bulk words of a colour. -/
def CodeSet.bulk (c : CodeSet) (black : Bool) : List Bits := if black then c.blackBulk else c.whiteBulk

/-- The words of a run of one colour (R54). -/
def CodeSet.runWord (c : CodeSet) (black : Bool) (r : Nat) : Bits :=
  if 32 ≤ r then (c.bulk black).getD (r / 32 - 1) [] ++ (c.term black).getD (r % 32) []
  else (c.term black).getD r []

/-- The words of alternating runs, the first of the given colour. -/
def CodeSet.runWords (c : CodeSet) : Bool → List Nat → Bits
  | _, [] => []
  | black, r :: rs => c.runWord black r ++ c.runWords (!black) rs

/-- Pixel-by-pixel exclusive-or of a line with its reference line, of which pixels beyond its end are white. -/
def xorLine : PixelLine → PixelLine → PixelLine
  | [], _ => []
  | p :: ps, [] => p :: xorLine ps []
  | p :: ps, q :: qs => (p ^^ q) :: xorLine ps qs

/-- Line number `i` of a page coded against its reference (R55). -/
def CodeSet.codeLine (c : CodeSet) (coding : Coding) (i : Nat) (reference l : PixelLine) : Bits :=
  match coding with
  | .plain => c.mark ++ c.runWords false (lineRuns l)
  | .diff k =>
    if i % k = 0 then c.mark ++ [true] ++ c.runWords false (lineRuns l)
    else c.mark ++ [false] ++ c.runWords false (lineRuns (xorLine l reference))

/-- All lines of a page coded in order from line `i`, each the reference of the next (R55, R73). -/
def CodeSet.codeLines (c : CodeSet) (coding : Coding) : Nat → PixelLine → List PixelLine → Bits
  | _, _, [] => []
  | i, reference, l :: ls => c.codeLine coding i reference l ++ c.codeLines coding (i + 1) l ls

/-! ## Decoding (R64, R65) -/

/-- What a decoder reports: a mark word that begins a line, a good line with its kind and runs, or a bad line. -/
inductive DecEvent where
  | found
  | good (plain : Bool) (runs : List (Bool × Nat))
  | bad
deriving DecidableEq, Repr

/-- The longest end of the bits searched that may still begin the mark word: the search advances one bit after each
failure (R64). -/
def huntTail (mark : Bits) : Bits → Bits
  | [] => []
  | b :: bs => if (b :: bs).isPrefixOf mark then b :: bs else huntTail mark bs

/-- The phase after a mark word (R64): a tag bit in a DIFF page, runs in a PLAIN page. -/
def Dec.afterMark (diff : Bool) : Dec := { phase := if diff then .tag else .runs }

/-- The decoder back in its search. -/
def Dec.hunting : Dec := {}

/-- The run a terminal word ends (R64), and what that makes of the line: good at `w`, bad beyond it (R65). -/
def Dec.terminal (w : Nat) (d : Dec) (t : Nat) : Dec × List DecEvent :=
  let r := d.bulk.getD 0 + t
  let runs := (d.black, r) :: d.runs
  let sum := d.sum + r
  if sum = w then (Dec.hunting, [.good d.plain runs.reverse])
  else if w < sum then (Dec.hunting, [.bad])
  else ({ d with buf := [], black := !d.black, bulk := none, sum := sum, runs := runs }, [])

/-- One bit read inside a line, `buf` holding the bits since the last word boundary with this one: the mark word first,
then the words of the current table; bits that begin neither fail the line at this bit (R64, R65). -/
def Dec.runBit (c : CodeSet) (diff : Bool) (w : Nat) (d : Dec) : Dec × List DecEvent :=
  if d.buf = c.mark then (Dec.afterMark diff, [.bad, .found])
  else match (c.term d.black).findIdx? (· == d.buf) with
    | some t => d.terminal w t
    | none =>
      match (c.bulk d.black).findIdx? (· == d.buf) with
      | some k =>
        if d.bulk.isSome then (Dec.hunting, [.bad])
        else ({ d with buf := [], bulk := some (32 * (k + 1)) }, [])
      | none =>
        if d.buf.isPrefixOf c.mark || (c.term d.black).any (d.buf.isPrefixOf ·) || (c.bulk d.black).any (d.buf.isPrefixOf ·)
        then (d, [])
        else (Dec.hunting, [.bad])

/-- One bit read by a decoder under a code set, a coding and a width. -/
def Dec.bit (c : CodeSet) (diff : Bool) (w : Nat) (d : Dec) (b : Bool) : Dec × List DecEvent :=
  match d.phase with
  | .hunt =>
    let buf := huntTail c.mark (d.buf ++ [b])
    if buf = c.mark then (Dec.afterMark diff, [.found]) else ({ d with buf := buf }, [])
  | .tag => ({ d with phase := .runs, plain := b }, [])
  | .runs => Dec.runBit c diff w { d with buf := d.buf ++ [b] }

/-- The end of the data (R65): a line in progress is bad. -/
def Dec.finish (d : Dec) : List DecEvent := if d.phase = .hunt then [] else [.bad]

/-- All events of a bit string, its end included. -/
def Dec.events (c : CodeSet) (diff : Bool) (w : Nat) : Dec → Bits → List DecEvent
  | d, [] => d.finish
  | d, b :: bs => let r := Dec.bit c diff w d b; r.2 ++ Dec.events c diff w r.1 bs

/-- Whether a page's coding is DIFF. -/
def Coding.isDiff : Coding → Bool
  | .plain => false
  | .diff _ => true

/-! ## Replacement (R66) -/

/-- The lines a decoder produces from its events, each with whether it was replaced. A bad line is replaced by the last
line produced, which is the last good one or white, and stands as the reference of the next (R66). -/
def decodedLines (w : Nat) : PixelLine → List DecEvent → List (Bool × PixelLine)
  | _, [] => []
  | last, .found :: es => decodedLines w last es
  | last, .bad :: es => (true, last) :: decodedLines w last es
  | last, .good plain runs :: es =>
    let l := if plain then expandRuns runs else xorLine (expandRuns runs) last
    (false, l) :: decodedLines w l es

/-- A white line. -/
def whiteLine (w : Nat) : PixelLine := List.replicate w false

/-- The lines that fill the page up to its recorded count, each counted bad (R66). -/
def missingLines (w n : Nat) (ls : List (Bool × PixelLine)) : List (Bool × PixelLine) :=
  List.replicate (n - ls.length) (true, (ls.getLast?.map Prod.snd).getD (whiteLine w))

/-- Exactly the `n` output lines of a stored page, each with whether it was replaced (R66). -/
def decodePage (c : CodeSet) (coding : Coding) (w n : Nat) (bits : Bits) : List (Bool × PixelLine) :=
  let ls := (decodedLines w (whiteLine w) (Dec.events c coding.isDiff w {} bits)).take n
  ls ++ missingLines w n ls

/-- The count of replaced lines of a decoded page (R66). -/
def replacedCount (ls : List (Bool × PixelLine)) : Nat := ls.countP Prod.fst

/-! ## Fit and density (R67, R68) -/

/-- A line fitted to a width (R67). -/
def fitLine (l : PixelLine) (b : Nat) : PixelLine :=
  let a := l.length
  if b < a then (l.drop ((a - b) / 2)).take b
  else whiteLine ((b - a) / 2) ++ l ++ whiteLine (b - a - (b - a) / 2)

/-- Lines 0, 2, 4 and so on (R68). -/
def evenLines : List PixelLine → List PixelLine
  | [] => []
  | [l] => [l]
  | l :: _ :: ls => l :: evenLines ls

/-- Each line twice in succession (R68). -/
def doubleLines (ls : List PixelLine) : List PixelLine := ls.flatMap fun l => [l, l]

/-- Density conversion of a page's fitted lines (R68). -/
def convertDensity : Density → Density → List PixelLine → List PixelLine
  | .fine, .std, ls => evenLines ls
  | .std, .fine, ls => doubleLines ls
  | _, _, ls => ls

/-! ## Code sets (R51) -/

/-- The word of a load entry: the first `length` bits from bit 15 down (R193). -/
def entryWord (length : Nat) (bits : BitVec 16) : Bits :=
  (List.range length).map fun i => bits.getLsbD (15 - i)

/-- Whether one of two words is a prefix of the other, identical words included. -/
def wordsConflict (a b : Bits) : Bool := a.isPrefixOf b || b.isPrefixOf a

/-- The position of the first word of one colour that conflicts with the mark word or with a word before it (R51). -/
def firstConflict (mark : Bits) : List Bits → List Bits → Nat → Option Nat
  | _, [], _ => none
  | before, wd :: rest, i =>
    if wordsConflict mark wd || before.any (wordsConflict wd) then some i
    else firstConflict mark (before ++ [wd]) rest (i + 1)

/-- Whether the words of a code set pass the prefix checks of R51. -/
def CodeSet.prefixFree (c : CodeSet) : Bool :=
  (firstConflict c.mark [] (c.whiteTerm ++ c.whiteBulk) 0).isNone &&
    (firstConflict c.mark [] (c.blackTerm ++ c.blackBulk) 0).isNone

end Sys2Proof.Machine
end

