-- ==== Sys2Proof/Machine/Flags.lean ====
section
/-!
DEFINITION. The flags of the board link: notice kinds and their enable flags, the event summary, the raising of
notices, and the attention line.
-/

namespace Sys2Proof.Machine

/-- Number of a notice kind in the order of R188, counting from 0. -/
def NoticeKind.index : NoticeKind → Nat
  | .start => 0 | .memoryLow => 1 | .calResult => 2 | .scanEnd => 3 | .lineState => 4 | .missedCall => 5
  | .destResult => 6 | .jobDone => 7 | .printQueueFull => 8 | .docReceived => 9 | .printDone => 10 | .paper => 11

/-- The kind of a notice. -/
def NoticeBody.kind : NoticeBody → NoticeKind
  | .start .. => .start
  | .memoryLow .. => .memoryLow
  | .calResult .. => .calResult
  | .scanEnd .. => .scanEnd
  | .lineState .. => .lineState
  | .missedCall .. => .missedCall
  | .destResult .. => .destResult
  | .jobDone .. => .jobDone
  | .printQueueFull .. => .printQueueFull
  | .docReceived .. => .docReceived
  | .printDone .. => .printDone
  | .paper .. => .paper

/-- The summary with the flag of a kind set (R187). -/
def Summary.mark (m : Summary) (k : NoticeKind) : Summary := { m with kinds := tset m.kinds k.index true }

/-- Whether a kind is enabled in the notice mask; START always is (R188). -/
def Bli.enabled (b : Bli) (k : NoticeKind) : Bool := k == .start || tget b.mask k.index false

/-- A notice is raised: its summary flag is set (R187), and it is queued when its kind is enabled and the queue holds
fewer than 32 notices (R188). It carries the clock at raising. -/
def State.raise (s : State) (body : NoticeBody) (tag : Nat := 0) : State :=
  let b := { s.bli with summary := s.bli.summary.mark body.kind }
  if b.enabled body.kind && decide (b.notices.length < Config.noticePlaces) then
    { s with bli := { b with notices := b.notices ++ [{ tag := tag, body := body, time := s.now }] } }
  else { s with bli := b }

/-- Whether any upstream source holds a block (R187). -/
def State.sourceHolds (s : State) : Bool :=
  !s.bli.replies.isEmpty || !s.chg.queue.isEmpty || s.bli.status.isSome || !s.bli.notices.isEmpty ||
    (match s.pmm.fetch with
     | some f => decide (f.next < f.blocks)
     | none => false)

/-- The attention line: asserted while any source holds a block or a block is being sent (R187), released during a hard
reset (R192). -/
def State.attention (s : State) : Bool := !s.inReset && (s.bli.sending.isSome || s.sourceHolds)

/-- Whether a line is in a call: any state from SEIZED or ANSWERING through RELEASING (R74, R93). -/
def LineState.inCall : LineState → Bool
  | .outOfService | .idle | .ringing => false
  | _ => true

/-- The states in which session frames are delivered (R77, R82). -/
def LineState.takesFrames : LineState → Bool
  | .negotiating | .sending | .receiving | .closing => true
  | _ => false

end Sys2Proof.Machine
end

