-- ==== Sys2Proof/Machine/Operands.lean ====
section
/-!
DEFINITION. How the fields of commands and frames are judged: the ranges of structural fields, the clamping of tuning
values (section 4.7, R185), the characters of strings, and the enumerations behind their bytes (R193).
-/

namespace Sys2Proof.Machine

/-! ## Clamping of tuning values -/

/-- 1 where a tuning value lies out of range, so that it counts as a clamped field, 0 otherwise. -/
def clampedField (x lo hi : Nat) : Nat := if x < lo ∨ hi < x then 1 else 0

/-! ## Characters (section 4.5) -/

/-- A decimal digit. -/
def isDigit (b : Byte) : Bool := decide (0x30 ≤ b.toNat) && decide (b.toNat ≤ 0x39)

/-- The dial character P, a pause. -/
def charP : Byte := 0x50
/-- The dial character W, a wait for dial tone. -/
def charW : Byte := 0x57
/-- The dial character * -/
def charStar : Byte := 0x2A
/-- The dial character # -/
def charHash : Byte := 0x23

/-- A character of a dial string that is dialled: a digit, * or #. -/
def isKeyChar (b : Byte) : Bool := isDigit b || b == charStar || b == charHash

/-- A character of a dial string. -/
def isDialChar (b : Byte) : Bool := isKeyChar b || b == charP || b == charW

/-- A printable character. -/
def isPrintable (b : Byte) : Bool := decide (0x20 ≤ b.toNat) && decide (b.toNat ≤ 0x7E)

/-- A station tag or a tag prefix: at most 20 printable characters (R75, R138). -/
def tagOk (t : Text) : Bool := decide (t.length ≤ 20) && t.all isPrintable

/-- A dial string of JOB_SUBMIT (R121). -/
def dialStringOk (t : Text) : Bool := decide (1 ≤ t.length) && decide (t.length ≤ 32) && t.all isDialChar

/-! ## Structural ranges -/

/-- A page width: 256..2048 in multiples of 32 (section 4.4). -/
def widthOk (w : Nat) : Bool := decide (256 ≤ w) && decide (w ≤ 2048) && w % 32 == 0

/-- A print head width: 512..2048 in multiples of 32 (R162). -/
def headWidthOk (w : Nat) : Bool := decide (512 ≤ w) && decide (w ≤ 2048) && w % 32 == 0

/-- A document field that names a document or asks for a new one with 255 (R38, R60). -/
def docFieldOk (d : Nat) : Bool := decide (d ≤ 63) || d == 255

/-- The maximum line count of a page (section 4.4). -/
def Density.maxLines : Density → Nat
  | .std => 2200
  | .fine => 4400

/-! ## Enumerations -/

/-- The density behind its byte: 0 STD, 1 FINE. -/
def Density.ofCode : Nat → Option Density
  | 0 => some .std
  | 1 => some .fine
  | _ => none

/-- The metering mode behind its byte (R74). -/
def Metering.ofCode : Nat → Option Metering
  | 0 => some .tariff
  | 1 => some .pulse
  | _ => none

/-- The parity behind its byte (R74). -/
def Parity.ofCode : Nat → Option Parity
  | 0 => some .none
  | 1 => some .even
  | 2 => some .odd
  | _ => none

/-- The bit order behind its byte (R74). -/
def BitOrder.ofCode : Nat → Option BitOrder
  | 0 => some .lsbFirst
  | 1 => some .msbFirst
  | _ => none

/-- The desk kind behind its byte (R165). -/
def DeskKind.ofCode : Nat → Option DeskKind
  | 0 => some .independent
  | 1 => some .member
  | 2 => some .pool
  | _ => none

/-- The class behind its byte (R170). -/
def NumberClass.ofCode : Nat → Option NumberClass
  | 0 => some .localCall
  | 1 => some .national
  | 2 => some .intl
  | 3 => some .premium
  | 4 => some .blocked
  | _ => none

/-- The set of classes behind its byte: bit i for the class listed i-th (R193); a bit that names none refuses. -/
def ClassSet.ofMask (m : Nat) : Option ClassSet :=
  if m < 16 then
    some { localCall := m.testBit 0, national := m.testBit 1, intl := m.testBit 2, premium := m.testBit 3 }
  else none

/-- Whether a class is in a desk's permitted classes (R172); BLOCKED never is. -/
def ClassSet.permits (c : ClassSet) : NumberClass → Bool
  | .localCall => c.localCall
  | .national => c.national
  | .intl => c.intl
  | .premium => c.premium
  | .blocked => false

/-- The decline reason behind its byte: 1 NO_MEMORY, 2 UNSUPPORTED, 3 NOT_RECEIVING (R193). -/
def DeclineReason.ofCode : Nat → Option DeclineReason
  | 1 => some .noMemory
  | 2 => some .unsupported
  | 3 => some .notReceiving
  | _ => none

/-- The byte of a decline reason (R193). -/
def DeclineReason.code : DeclineReason → Nat
  | .noMemory => 1
  | .unsupported => 2
  | .notReceiving => 3

/-- The verdict behind its byte: 1 KEEP, 2 RESEND, 3 KEEP_POOR (R193). -/
def Verdict.ofCode : Nat → Option Verdict
  | 1 => some .keep
  | 2 => some .resend
  | 3 => some .keepPoor
  | _ => none

/-- The byte of a verdict (R193). -/
def Verdict.code : Verdict → Nat
  | .keep => 1
  | .resend => 2
  | .keepPoor => 3

/-- The coding byte of CHOOSE: 0 PLAIN, k for DIFF (R193). -/
def Coding.code : Coding → Nat
  | .plain => 0
  | .diff k => k

/-- The coding behind its CHOOSE byte; above 8 it is declined by R102. -/
def Coding.ofCode (c : Nat) : Coding := if c = 0 then .plain else .diff c

/-- The density byte (R193). -/
def Density.code : Density → Nat
  | .std => 0
  | .fine => 1

/-! ## Received frames (R96) -/

/-- Whether the fields of a received frame lie in the ranges of R96. The value fields of CHOOSE and PAGE_TAIL are not
judged here; the tags of OFFER and CHOOSE are checked for length alone. -/
def Frame.inRange : Frame → Bool
  | .offer f =>
    decide (f.tag.length ≤ 20) && (f.codes.length == 1 || f.codes.length == 2) && f.codes.all (fun c => decide (c ≤ 65535)) &&
      (f.std || f.fine) && widthOk f.maxWidth && decide (f.maxStep ≤ 5) && decide (1 ≤ f.maxPages) &&
      decide (f.maxPages ≤ 64)
  | .choose f => decide (f.tag.length ≤ 20)
  | .accept => true
  | .decline r => (DeclineReason.ofCode r).isSome
  | .pageHead n a st => decide (1 ≤ n) && decide (n ≤ 64) && (a == 1 || a == 2) && decide (st ≤ 5)
  | .pageTail .. => true
  | .pageAck n v _ => decide (1 ≤ n) && decide (n ≤ 64) && (Verdict.ofCode v).isSome
  | .endCall n => decide (n ≤ 64)
  | .endAck => true

end Sys2Proof.Machine
end

