-- ==== Sys2Proof/Machine/PageMemory.lean ====
section
/-!
DEFINITION. The page memory manager's operations (chapter 1): grants and frees of segments, the life of page and document
records, readers, holds and the free test. A request names a page with the generation it was given (R24).
-/

namespace Sys2Proof.Machine

/-! ## Segments (R1 to R4) -/

/-- Whether a grant of a page's class succeeds at a free count (R3). -/
def Source.grantAllowed (src : Source) (free : Nat) : Bool :=
  match src with
  | .received => decide (1 ≤ free)
  | .scan | .board => decide (Config.scanGrantNeeds ≤ free)

/-- MEMORY_LOW after a grant (R19). -/
def State.lowCheck (s : State) : State :=
  if s.pmm.memLowArmed && decide (s.freeCount < Config.lowThreshold) then
    { s with pmm := { s.pmm with memLowArmed := false } }.raise (.memoryLow s.freeCount)
  else s

/-- A segment grant to page `p` (R1, R3): the head of the free list becomes the page's last segment. -/
def State.grant (s : State) (p : Nat) : Option State :=
  if (s.page p).source.grantAllowed s.freeCount then
    match s.pmm.freeList with
    | [] => none
    | g :: rest =>
      let r := s.page p
      let links := match r.last with
        | some l => tset s.pmm.links l (some g)
        | none => s.pmm.links
      let s := { s with pmm := { s.pmm with links := tset links g none, freeList := rest } }
      some (s.setPage p { r with first := some (r.first.getD g), last := some g }).lowCheck
  else none

/-- The segments of a chain from one of them on, along the links (R1). -/
def chainFrom (links : Vector (Option Nat) 2048) : Nat → Option Nat → List Nat
  | 0, _ => []
  | _, none => []
  | k + 1, some g => g :: chainFrom links k (tget links g none)

/-- The chain of page `p`, first segment first. -/
def State.chain (s : State) (p : Nat) : List Nat := chainFrom s.pmm.links Config.segments (s.page p).first

/-- The chain of page `p` is freed (R4): its segments join the tail of the free list in chain order; a free that leaves
the count at 192 or above arms MEMORY_LOW (R19), and the rise is reported (R18). -/
def State.freeChain (s : State) (p : Nat) : State :=
  match s.chain p with
  | [] => s
  | c =>
    let s := { s with pmm := { s.pmm with freeList := s.pmm.freeList ++ c } }
    let armed := s.pmm.memLowArmed || decide (Config.rearmThreshold ≤ s.freeCount)
    let s := { s with pmm := { s.pmm with memLowArmed := armed } }
    (s.setPage p { s.page p with first := none, last := none }).report .memoryFreed

/-! ## Bytes (R7) -/

/-- What became of an append (R7). -/
inductive Append where
  | stored | noSegment | refused
deriving DecidableEq, Repr

/-- Whether a request is of the present generation (R24). -/
def State.current (s : State) (r : PageRef) : Bool := r.gen == s.pmm.generation

/-- One byte appended to a FILLING page (R7): where its count is a multiple of 1024 a segment is granted first. -/
def State.append (s : State) (r : PageRef) (b : Byte) : State × Append :=
  if s.current r && (s.page r.page).state == .filling then
    let granted := if (s.page r.page).byteCount % Config.segmentBytes = 0 then s.grant r.page else some s
    match granted with
    | none => (s, .noSegment)
    | some s =>
      let g := s.page r.page
      let s := { s with pmm := { s.pmm with
        mem := s.pmm.mem.write (segmentAddress (g.last.getD 0) g.byteCount) b } }
      (s.setPage r.page { g with byteCount := g.byteCount + 1, check := crcByte g.check b }, .stored)
  else (s, .refused)

/-- Byte `off` of a page, reached through its chain; nothing at or beyond the byte count (R7), and nothing where the
read names a page of before a reset (R24). -/
def State.readByte (s : State) (r : PageRef) (off : Nat) : Option Byte :=
  if s.current r && decide (off < (s.page r.page).byteCount) then
    (s.chain r.page)[off / Config.segmentBytes]?.map fun g => s.pmm.mem.read (segmentAddress g off)
  else none

/-- The bytes of a page in page order; none where the read names a page of before a reset (R24). -/
def State.pageBytes (s : State) (r : PageRef) : List Byte :=
  if s.current r then
    let c := s.chain r.page
    (List.range (s.page r.page).byteCount).map fun off =>
      s.pmm.mem.read (segmentAddress (c.getD (off / Config.segmentBytes) 0) off)
  else []

/-! ## User counts (R17) -/

/-- The user count of a code slot raised. -/
def State.raiseUse (s : State) (k : Nat) : State :=
  { s with pmm := { s.pmm with slotUse := tset s.pmm.slotUse k (tget s.pmm.slotUse k 0 + 1) } }

/-- The user count of a code slot lowered. -/
def State.lowerUse (s : State) (k : Nat) : State :=
  { s with pmm := { s.pmm with slotUse := tset s.pmm.slotUse k (tget s.pmm.slotUse k 0 - 1) } }

/-! ## Pages (R6, R8, R9, R11) -/

/-- Why a page open is refused (R6). -/
inductive OpenRefusal where
  | state | docFull | noRecord
deriving DecidableEq, Repr

/-- What a page open names (R6). -/
structure OpenRequest where
  filler       : Filler
  document     : Nat
  source       : Source
  slot         : Nat
  coding       : Coding
  width        : Nat
  density      : Density
  uncalibrated : Bool := false
deriving DecidableEq, Repr

/-- The lowest FREE page record. -/
def State.freePageRecord (s : State) : Option Nat :=
  lowest Config.pages fun p => (s.page p).state == .free

/-- A page is opened FILLING at the end of its document's page list, or the open is refused (R6). -/
def State.openPage (s : State) (q : OpenRequest) : State × Except OpenRefusal PageRef :=
  let d := s.doc q.document
  if d.state != .opened || d.pages.any (fun p => (s.page p).state == .filling) || d.filler != q.filler then
    (s, .error .state)
  else if Config.pagesPerDoc ≤ d.pages.length then (s, .error .docFull)
  else match s.freePageRecord with
    | none => (s, .error .noRecord)
    | some p =>
      let s := s.setPage p
        { state := .filling, document := some q.document, index := d.pages.length + 1, source := q.source, slot := q.slot,
          coding := q.coding, width := q.width, density := q.density, uncalibrated := q.uncalibrated }
      let s := s.setDoc q.document { d with pages := d.pages ++ [p] }
      (s.raiseUse q.slot, .ok { page := p, gen := s.pmm.generation })

/-- The final flag of page `p` is reported to the print unit (R8). -/
def State.reportFinal (s : State) (p : Nat) : State :=
  match (s.page p).document with
  | some d => s.report (.pageFinal d (s.page p).index)
  | none => s

/-- Completion of a FILLING page (R8). -/
def State.completePage (s : State) (r : PageRef) (lines : Nat) (bad : Nat := 0) (poor : Bool := false) : State :=
  let g := s.page r.page
  if s.current r && g.state == .filling then
    (s.setPage r.page { g with state := .complete, lineCount := lines, badLines := bad, poor := poor, final := true }).reportFinal
      r.page
  else s

/-- Damage of a FILLING page (R8). -/
def State.damagePage (s : State) (r : PageRef) (lines bad : Nat) : State :=
  let g := s.page r.page
  if s.current r && g.state == .filling then
    (s.setPage r.page { g with state := .damaged, lineCount := lines, badLines := bad, final := true }).reportFinal r.page
  else s

/-- Reset discard (R9): the page becomes an empty FILLING page again. -/
def State.resetDiscard (s : State) (r : PageRef) : State :=
  if s.current r && (s.page r.page).state == .filling then
    let s := s.freeChain r.page
    s.setPage r.page { s.page r.page with byteCount := 0, lineCount := 0, check := 0xFFFF }
  else s

/-- Page record `p` becomes FREE with the values of R5; the freed record is reported (R18). -/
def State.freeRecord (s : State) (p : Nat) : State :=
  let k := (s.page p).slot
  ((s.lowerUse k).setPage p {}).report .memoryFreed

/-- Full discard (R9): the page leaves its document's list and its record becomes FREE. -/
def State.fullDiscard (s : State) (r : PageRef) : State :=
  if s.current r && (s.page r.page).state == .filling then
    let s := s.freeChain r.page
    let s := match (s.page r.page).document with
      | some d => s.setDoc d { s.doc d with pages := (s.doc d).pages.erase r.page }
      | none => s
    s.freeRecord r.page
  else s

/-- A COMPLETE or DAMAGED page is freed (R11). -/
def State.freePage (s : State) (p : Nat) : State := (s.freeChain p).freeRecord p

/-! ## Readers (R10) -/

/-- The number of a page's readers, of all kinds. -/
def PageRec.readers (g : PageRec) : Nat := g.transmissions + g.prints + g.fetches

/-- The number of a page's readers of a kind. -/
def PageRec.readersOf (g : PageRec) : ReaderKind → Nat
  | .transmission => g.transmissions
  | .print => g.prints
  | .fetch => g.fetches

/-- The page record with the number of a kind changed. -/
def PageRec.setReaders (g : PageRec) (k : ReaderKind) (n : Nat) : PageRec :=
  match k with
  | .transmission => { g with transmissions := n }
  | .print => { g with prints := n }
  | .fetch => { g with fetches := n }

/-- The limit of a kind (R10). -/
def ReaderKind.limit : ReaderKind → Nat
  | .transmission => 4
  | .print => 1
  | .fetch => 1

/-- Whether a page is COMPLETE or DAMAGED. -/
def PageState.readable : PageState → Bool
  | .complete | .damaged => true
  | .free | .filling => false

/-- A reader is acquired on page `p`, or the acquire is refused (R10). -/
def State.acquire (s : State) (k : ReaderKind) (p : Nat) : State × Option PageRef :=
  let g := s.page p
  if g.state.readable && g.document.isSome && decide (g.readersOf k < k.limit) then
    (s.setPage p (g.setReaders k (g.readersOf k + 1)), some { page := p, gen := s.pmm.generation })
  else (s, none)

/-- A reader is released (R10); the page is freed if its document is absent and no reader remains (R11). -/
def State.release (s : State) (k : ReaderKind) (r : PageRef) : State :=
  let g := s.page r.page
  if s.current r && decide (0 < g.readersOf k) then
    let g := g.setReaders k (g.readersOf k - 1)
    let s := s.setPage r.page g
    if g.state.readable && g.document.isNone && g.readers == 0 then s.freePage r.page else s
  else s

/-! ## Documents (R12 to R16) -/

/-- The lowest free document record. -/
def State.freeDocRecord (s : State) : Option Nat :=
  lowest Config.docs fun d => (s.doc d).state == .free

/-- A document is created OPEN (R12). The board hold is set for SCAN and BOARD, clear for COPY and as named for
RECEIVED. -/
def State.createDoc (s : State) (origin : Origin) (desk : Nat) (filler : Filler) (tag : Option Text := none)
    (hold : Bool := false) : State × Option Nat :=
  match s.freeDocRecord with
  | none => (s, none)
  | some d =>
    let board := match origin with
      | .scan | .board => true
      | .copy => false
      | .received => hold
    let r : DocRec :=
      { state := .opened, origin := origin, boardHold := board, filler := filler, desk := desk, senderTag := tag,
        created := s.now }
    (s.setDoc d r, some d)

/-- One page of a document being freed (R16): freed at once without readers, marked document absent with them. -/
def State.dropPage (s : State) (p : Nat) : State :=
  if (s.page p).readers = 0 then s.freePage p else s.setPage p { s.page p with document := none }

/-- A document is freed (R16): its pages in page-list order, then its record; its holders are told. -/
def State.freeDoc (s : State) (d : Nat) : State :=
  let r := s.doc d
  let s := (r.pages.foldl State.dropPage s).setDoc d {}
  if 0 < r.sendHold ∨ 0 < r.printHold then
    s.report (.docFreed d (decide (0 < r.sendHold)) (decide (0 < r.printHold)))
  else s

/-- Whether the free test finds a document to be freed (R16). -/
def State.freeable (s : State) (d : Nat) : Bool :=
  let r := s.doc d
  r.state == .closed &&
    ((!r.boardHold && r.sendHold == 0 && r.printHold == 0) ||
     (r.origin == .received && !r.pages.any fun p => (s.page p).state.readable))

/-- The free test (R16). -/
def State.freeTest (s : State) (d : Nat) : State := if s.freeable d then s.freeDoc d else s

/-- A filler unbinds (R15). -/
def State.unbind (s : State) (d : Nat) : State := s.setDoc d { s.doc d with filler := .none }

/-- An OPEN document is closed and the free test run (R15). A close that leaves the document in place is reported to the
dispatcher and the print unit where they hold it (R124, R153). -/
def State.closeDoc (s : State) (d : Nat) : State :=
  let r := s.doc d
  if r.state == .opened then
    let s := s.setDoc d { r with state := .closed }
    if s.freeable d then s.freeDoc d
    else if 0 < r.sendHold ∨ 0 < r.printHold then s.report (.docClosed d r.pages.length)
    else s
  else s

/-- The send hold raised (R14). -/
def State.raiseSendHold (s : State) (d : Nat) : State :=
  s.setDoc d { s.doc d with sendHold := (s.doc d).sendHold + 1 }

/-- The send hold lowered and the free test run (R14). -/
def State.lowerSendHold (s : State) (d : Nat) : State :=
  (s.setDoc d { s.doc d with sendHold := (s.doc d).sendHold - 1 }).freeTest d

/-- The print hold raised (R14). -/
def State.raisePrintHold (s : State) (d : Nat) : State :=
  s.setDoc d { s.doc d with printHold := (s.doc d).printHold + 1 }

/-- The print hold lowered and the free test run (R14). -/
def State.lowerPrintHold (s : State) (d : Nat) : State :=
  (s.setDoc d { s.doc d with printHold := (s.doc d).printHold - 1 }).freeTest d

/-- Whether a document's record is in use. -/
def State.docInUse (s : State) (d : Nat) : Bool := (s.doc d).state != .free

/-- The page of a document at an index, counting from 1 (R13). -/
def State.docPage (s : State) (d index : Nat) : Option Nat :=
  if index = 0 then none else (s.doc d).pages[index - 1]?

end Sys2Proof.Machine
end

