-- ==== Sys2Proof/Machine/Codec.lean ====
section
/-!
DEFINITION. The channel codec (section 3.6): its binding, the verification of received data with the counters of R70, the
choice of PASS or RECODE (R71), and the stream of a page sent (R72, R73).
-/

namespace Sys2Proof.Machine

/-! ## Binding (R69) -/

/-- The codec bound to a slot, IDLE (R69). -/
def Codec.bound (k : Nat) : Codec := { slot := some k }

/-- The codec IDLE between pages, still bound (R69). -/
def Codec.idle (q : Codec) : Codec := { slot := q.slot }

/-- The code set of line `n`'s codec, from its bound slot. -/
def State.boundSet (s : State) (n : LineNo) : Option CodeSet := (s.line n).codec.slot.bind s.codeSet

/-! ## Verification (R65, R70) -/

/-- VERIFY from the PAGE_HEAD of an attempt: the counters and the decoder start afresh (R70). -/
def Codec.verifying (q : Codec) : Codec := { work := .verify, slot := q.slot }

/-- One bad line counted. -/
def Codec.countBad (q : Codec) : Codec :=
  { q with bad := q.bad + 1, run := q.run + 1, longest := max q.longest (q.run + 1), suspect := false }

/-- A decoder's report counted (R70): a suspect line is bad however it decodes (R65). -/
def Codec.event (q : Codec) : DecEvent → Codec
  | .found => { q with found := q.found + 1, suspect := q.suspectNext, suspectNext := false }
  | .good _ _ => if q.suspect then q.countBad else { q with run := 0 }
  | .bad => q.countBad

/-- A parity error mark (R70): on the line in progress, or on the next line found. -/
def Codec.markSuspect (q : Codec) : Codec :=
  if q.dec.phase = .hunt then { q with suspectNext := true } else { q with suspect := true }

/-- One received bit verified. -/
def Codec.verifyBit (c : CodeSet) (diff : Bool) (w : Nat) (q : Codec) (b : Bool) : Codec :=
  let r := Dec.bit c diff w q.dec b
  r.2.foldl Codec.event { q with dec := r.1 }

/-- One received page character verified, its error mark taken first (R70). -/
def Codec.verifyByte (c : CodeSet) (diff : Bool) (w : Nat) (q : Codec) (b : Byte) (marked : Bool) : Codec :=
  (byteBits b).foldl (Codec.verifyBit c diff w) (if marked then q.markSuspect else q)

/-- The data of the attempt has ended (R70): a line in progress is bad. -/
def Codec.finish (q : Codec) : Codec := q.dec.finish.foldl Codec.event { q with dec := Dec.hunting }

/-- A received page character read by line `n`'s codec. -/
def State.verifyChar (s : State) (n : LineNo) (b : Byte) (marked : Bool) : State :=
  match s.boundSet n with
  | none => s
  | some c =>
    let x := (s.ctx n).params
    s.updCodec n fun q => q.verifyByte c x.coding.isDiff x.width b marked

/-! ## Sending (R71 to R73) -/

/-- Whether a page is passed verbatim under the negotiated parameters (R71). -/
def State.passes (s : State) (n : LineNo) (g : PageRec) : Bool :=
  let x := (s.ctx n).params
  (match s.codeSet g.slot with
   | some c => c.number == x.code
   | none => false) && g.coding == x.coding && g.width == x.width && g.density == x.density

/-- What a codec hands over for a page: its bytes, the line count of PAGE_TAIL and the lines its decoder replaced. -/
structure SendStream where
  bytes    : List Byte
  lines    : Nat
  replaced : Nat
deriving DecidableEq, Repr

/-- A stored page decoded, fitted, converted and coded afresh under line `n`'s bound set (R73). -/
def State.recodeStream (s : State) (n : LineNo) (r : PageRef) : SendStream :=
  let g := s.page r.page
  let x := (s.ctx n).params
  match s.codeSet g.slot, s.boundSet n with
  | some own, some out =>
    let ls := decodePage own g.coding g.width g.lineCount (unpackBits (s.pageBytes r))
    let fitted := convertDensity g.density x.density (ls.map fun l => fitLine l.2 x.width)
    { bytes := packPadded (out.codeLines x.coding 0 (whiteLine x.width) fitted)
      lines := fitted.length
      replaced := replacedCount ls }
  | _, _ => { bytes := [], lines := 0, replaced := 0 }

/-- The stream of a page on line `n` for a codec work: the stored bytes in PASS (R72), the recoded ones otherwise. A page
of before a reset gives none (R24). -/
def State.sendStream (s : State) (n : LineNo) (work : CodecWork) (r : PageRef) : SendStream :=
  if !s.current r then { bytes := [], lines := 0, replaced := 0 }
  else if work = .pass then { bytes := s.pageBytes r, lines := (s.page r.page).lineCount, replaced := 0 }
  else s.recodeStream n r

/-- The codec's choice for a page about to be sent, made afresh for each attempt (R71). -/
def State.chooseWork (s : State) (n : LineNo) (r : PageRef) : State :=
  let work := if s.passes n (s.page r.page) then CodecWork.pass else .recode
  let st := s.sendStream n work r
  s.updCodec n fun q => { work := work, slot := q.slot, page := some r, lines := st.lines, replaced := st.replaced }

/-- The next byte line `n`'s codec hands over, if any is left. -/
def State.nextByte (s : State) (n : LineNo) : Option Byte :=
  let q := (s.line n).codec
  q.page.bind fun r => (s.sendStream n q.work r).bytes[q.pos]?

/-- A byte handed over: the byte count and the running check rise (R73). -/
def Codec.handed (q : Codec) (b : Byte) : Codec := { q with pos := q.pos + 1, check := crcByte q.check b }

/-- The line count, byte count and check value for PAGE_TAIL (R72, R73). -/
def State.tailValues (s : State) (n : LineNo) : Nat × Nat × BitVec 16 :=
  let q := (s.line n).codec
  match q.work, q.page with
  | .pass, some r => ((s.page r.page).lineCount, (s.page r.page).byteCount, (s.page r.page).check)
  | _, _ => (q.lines, q.pos, q.check)

end Sys2Proof.Machine
end

