-- ==== Sys2Proof/Machine/Coder.lean ====
section
/-!
DEFINITION. The line coder at work on one page (section 3.3): taking a page, coding and storing lines, the held line,
the padding byte and the page's completion.
-/

namespace Sys2Proof.Machine

/-- The line coder updated. -/
def State.updLcd (s : State) (f : Lcd → Lcd) : State := { s with lcd := f s.lcd }

/-- Page coding as CODER_CONFIG sets it (R53). -/
def CoderConfig.coding (c : CoderConfig) : Coding := if c.diff then .diff c.k else .plain

/-- The line coder takes a page just opened as the page being coded (R57, R60). -/
def State.takeCoderPage (s : State) (r : PageRef) (slot : Nat) (coding : Coding) (width : Nat) : State :=
  s.updLcd fun l =>
    { l with
      job := some { ref := r, slot := slot, coding := coding, width := width }
      reference := whiteLine Config.columns
      bits := []
      held := none }

/-- The line coder has no page being coded, no held line and no pending bits; the reference line stands until the next
page's open (R57, R59). -/
def State.leaveCoderPage (s : State) : State := s.updLcd fun l => { l with job := none, bits := [], held := none }

/-- The page being coded is dropped with its held line and pending bits, and the reference line becomes white (R58). -/
def State.dropCoderPage (s : State) : State :=
  s.leaveCoderPage.updLcd fun l => { l with reference := whiteLine Config.columns }

/-- Bytes stored in turn until one is refused for want of a segment: the bytes left over, that byte first (R57, R58). -/
def storeBytes (r : PageRef) : List Byte → State → State × List Byte
  | [], s => (s, [])
  | b :: bs, s =>
    match s.append r b with
    | (s, .stored) => storeBytes r bs s
    | (s, .noSegment) => (s, b :: bs)
    | (s, .refused) => (s, [])

/-- A line of the page being coded, or its padding byte, is stored as far as segments can be had: what cannot be stored
becomes the held line; a line stored whole is counted and becomes the reference line (R57, R58). The answer is whether
every byte was stored. -/
def State.storeLine (s : State) (j : CoderPage) (h : HeldLine) : State × Bool :=
  match storeBytes j.ref h.bytes s with
  | (s, []) =>
    (s.updLcd fun l =>
      { l with
        held := none
        bits := h.tail
        reference := h.line.getD l.reference
        job := some { j with lineCount := if h.line.isSome then j.lineCount + 1 else j.lineCount } }, true)
  | (s, left) => (s.updLcd fun l => { l with held := some { h with bytes := left }, bits := [] }, false)

/-- A final line is coded as the line numbered by the line count, behind the pending bits (R57). A line that arrives
with no page being coded is discarded. -/
def State.codeLine (s : State) (line : PixelLine) : State × Bool :=
  match s.lcd.job with
  | none => (s, true)
  | some j =>
    match s.codeSet j.slot with
    | none => (s, true)
    | some c =>
      let p := packComplete (s.lcd.bits ++ c.codeLine j.coding j.lineCount s.lcd.reference line)
      s.storeLine j { bytes := p.1, tail := p.2, line := some line }

/-- The held line is tried again (R58). With none, there is nothing to store. -/
def State.tryHeld (s : State) : State × Bool :=
  match s.lcd.job, s.lcd.held with
  | some j, some h => s.storeLine j h
  | _, _ => (s, true)

/-- The page is finished (R59): the pending bits padded and stored. The answer is whether the padding byte, if one was
needed, was stored. -/
def State.padPage (s : State) : State × Bool :=
  match s.lcd.job with
  | none => (s, true)
  | some j =>
    if s.lcd.bits.isEmpty then (s, true)
    else s.storeLine j { bytes := packPadded s.lcd.bits, tail := [], line := none }

/-- The page being coded is completed with its line count (R59), and the line coder has no page. -/
def State.completeCoderPage (s : State) : State :=
  match s.lcd.job with
  | none => s
  | some j => (s.completePage j.ref j.lineCount).leaveCoderPage

/-- The page being coded is fully discarded (R9, R58). -/
def State.discardCoderPage (s : State) : State :=
  match s.lcd.job with
  | none => s
  | some j => (s.fullDiscard j.ref).dropCoderPage

/-- The line count of the page being coded. -/
def State.coderLines (s : State) : Nat := (s.lcd.job.map (·.lineCount)).getD 0

/-- The lowest code slot that holds a code-set number (R50). -/
def State.slotOf (s : State) (number : Nat) : Option Nat :=
  lowest 2 fun k => match s.codeSet k with
    | some c => c.number == number
    | none => false

/-- Whether a code slot is loaded (R50). -/
def State.loaded (s : State) (k : Nat) : Bool := (s.codeSet k).isSome

end Sys2Proof.Machine
end

