-- ==== Sys2Proof/Machine/Charge.lean ====
section
/-!
DEFINITION. The charge unit's operations (chapter 9): the clock and bands, classification and the funds check, charges and
their clamp, reservations, the top-up at release and the charge records.
-/

namespace Sys2Proof.Machine

/-! ## Clock and bands (R168, R169) -/

/-- The clock advanced by 1 ds (R168). -/
def Stamp.tick (t : Stamp) : Stamp :=
  if t.time + 1 < Config.dsPerDay then { t with time := t.time + 1 }
  else { day := if t.day < 6 then t.day + 1 else 0, time := 0 }

/-- The band in force (R169): band 0 while the clock is unset or the table is empty. -/
def Chg.band (c : Chg) : Nat :=
  if c.clock.set then c.bands.getD (c.clock.now.day * 24 + c.clock.now.time / 36000) 0 else 0

/-- A time of line `n`'s call is read from the clock: read while the set flag is clear, it marks the context (R93,
R168). -/
def State.markClock (s : State) (n : LineNo) : State :=
  if s.chg.clock.set then s else s.updCtx n fun c => { c with clockUnset := true }

/-! ## Shares and charges (R173, R174) -/

/-- The share of a member's charge (R173). -/
def share (weight : Nat) (c : Int) : Int := (c * weight + 2048) / 4096

/-- The pool of a desk, if it is a MEMBER (R164). -/
def Desk.poolOf (d : Desk) : Option Nat := if d.kind == .member then d.pool else none

/-- A charge of `c` on a desk, of which `d` is debited and the rest written off (R174). -/
def Desk.charge (k : Desk) (c d : Int) : Desk :=
  { k with
    balance := k.balance - d
    metered := k.metered + c
    charged := k.charged + d
    unrecovered := k.unrecovered + (c - d) }

/-- The debit of an intended amount: the whole of a step charge, a mandatory charge only down to the margin (R174). -/
def Desk.debit (k : Desk) (mandatory : Bool) (c : Int) : Int := if mandatory then min c (k.balance + k.margin) else c

/-- The charge of an amount `c` to line `n`'s call (R174): desk, pool and context change, and the closing flag is set
where a balance is left at 0 or below. The answer is whether a mandatory charge wrote off any part. -/
def State.charge (s : State) (n : LineNo) (mandatory : Bool) (c : Int) : State × Bool :=
  let x := s.ctx n
  let dk := x.desk.getD 0
  let d := (s.desk dk).debit mandatory c
  match x.pool with
  | none =>
    let s := s.updDesk dk (·.charge c d)
    let broke := decide ((s.desk dk).balance ≤ 0)
    (s.updCtx n fun x =>
      { x with
        charge := x.charge + d
        unrecovered := x.unrecovered + (c - d)
        closing := x.closing || broke }, decide (d < c))
  | some p =>
    let sh := share (s.desk dk).weight c
    let dp := (s.desk p).debit mandatory sh
    let s := (s.updDesk dk (·.charge c d)).updDesk p (·.charge sh dp)
    let broke := decide ((s.desk dk).balance ≤ 0) || decide ((s.desk p).balance ≤ 0)
    (s.updCtx n fun x =>
      { x with
        charge := x.charge + d
        poolShare := x.poolShare + dp
        unrecovered := x.unrecovered + (c - d)
        poolUnrecovered := x.poolUnrecovered + (sh - dp)
        closing := x.closing || broke }, decide (d < c) || decide (dp < sh))

/-- The guard of a step boundary (R176): whether the desk and its pool can afford the step. -/
def State.guardPasses (s : State) (n : LineNo) (stepCp : Int) : Bool :=
  let x := s.ctx n
  let k := s.desk (x.desk.getD 0)
  decide (-k.margin ≤ k.balance - stepCp) &&
    (match x.pool with
     | none => true
     | some p => decide (-(s.desk p).margin ≤ (s.desk p).balance - share k.weight stepCp))

/-- Desk and pool of a call change their count of active calls (R164). -/
def State.countCall (s : State) (desk : Nat) (pool : Option Nat) (f : Nat → Nat) : State :=
  let s := s.updDesk desk fun k => { k with active := f k.active }
  match pool with
  | some p => s.updDesk p fun k => { k with active := f k.active }
  | none => s

/-! ## Classification (R172, R173) -/

/-- The key of a dial string: its P and W characters left out (R172). -/
def dialKey (t : Text) : Text := t.filter isKeyChar

/-- The longest rule of a dial plan whose prefix begins a key (R172). -/
def longestRule : List DialRule → Text → Option DialRule
  | [], _ => none
  | r :: rs, key =>
    match longestRule rs key with
    | some q => if r.digits.isPrefixOf key && decide (q.digits.length < r.digits.length) then some r else some q
    | none => if r.digits.isPrefixOf key then some r else none

/-- A dial string without its first `n` key characters and the P and W characters before the last of them (R172). -/
def stripKey : Nat → Text → Text
  | 0, t => t
  | _, [] => []
  | n + 1, c :: t => if isKeyChar c then stripKey n t else stripKey (n + 1) t

/-- The transformed dial string, or none where the transformation fails (R172). -/
def transformDial (r : DialRule) (t : Text) : Option Text :=
  let out := r.prepend ++ stripKey r.strip t
  if (dialKey t).length < r.strip then none
  else if !out.any isKeyChar || decide (24 < out.length) then none
  else some out

/-- What the charge unit captures at a pass (R172). -/
structure Pass where
  cls      : NumberClass
  tariffId : Nat
  tariff   : Tariff
  dial     : Text
  pool     : Option Nat
deriving DecidableEq, Repr

/-- The charge unit's answer to a classification (R125, R172). -/
inductive Classified where
  | noRoute
  | barred
  | noFunds
  | pass (p : Pass)
deriving DecidableEq, Repr

/-- The estimate E of the cost of beginning a call (R173). -/
def Tariff.estimate (t : Tariff) : Int := (t.setupCp + t.stepCp * max 1 t.minSteps : Nat)

/-- The funds check of a desk for a tariff (R173). -/
def State.fundsOk (s : State) (desk : Nat) (t : Tariff) : Bool :=
  let k := s.desk desk
  decide (t.estimate ≤ k.balance) &&
    (match k.poolOf with
     | none => true
     | some p => decide (share k.weight t.estimate ≤ (s.desk p).balance))

/-- Whether a desk and, for a MEMBER, its pool may dial a class (R172). -/
def State.permitted (s : State) (desk : Nat) (c : NumberClass) : Bool :=
  let k := s.desk desk
  k.classes.permits c &&
    (match k.poolOf with
     | none => true
     | some p => (s.desk p).classes.permits c)

/-- The classification of a dial string for a desk (R172). -/
def State.classify (s : State) (desk : Nat) (t : Text) : Classified :=
  match longestRule s.chg.plan (dialKey t) with
  | none => .noRoute
  | some r =>
    if r.cls = .blocked then .barred
    else match tget s.chg.tariffs r.tariff none, transformDial r t with
      | some tf, some out =>
        if !s.permitted desk r.cls then .barred
        else if !s.fundsOk desk tf then .noFunds
        else .pass { cls := r.cls, tariffId := r.tariff, tariff := tf, dial := out, pool := (s.desk desk).poolOf }
      | _, _ => .noRoute

/-- The test of a WAIT_FUNDS destination (R132, R173): the funds check with the tariff the dial plan gives its string as
it stands; where it gives none, the destination is left to its dispatch (log entry 12). -/
def State.fundsTest (s : State) (desk : Nat) (t : Text) : Bool :=
  match longestRule s.chg.plan (dialKey t) with
  | none => true
  | some r => match tget s.chg.tariffs r.tariff none with
    | none => true
    | some tf => s.fundsOk desk tf

/-! ## Reservations (R179) -/

/-- Whether a charge record slot can be reserved (R179). -/
def State.placeFree (s : State) : Bool := decide (s.chg.reservations + s.chg.queue.length < Config.recordPlaces)

/-- A reservation granted. -/
def State.reserve (s : State) : State :=
  { s with chg := { s.chg with reservations := s.chg.reservations + 1 } }

/-- A reservation returned unused; the place freed is reported to the dispatcher (R179). -/
def State.returnReservation (s : State) : State :=
  { s with chg := { s.chg with reservations := s.chg.reservations - 1 } }.report .evaluate

/-! ## Answer, release and record (R175, R178, R180) -/

/-- The answer of an outbound call (R175). The answer is whether the first charge was clamped. -/
def State.chargeAnswer (s : State) (n : LineNo) : State × Bool :=
  let s := s.updCtx n fun x => { x with elapsed := 0, elapsedOn := true }
  match (s.ctx n).metering, (s.ctx n).tariff with
  | .tariff, some t =>
    let (s, clamped) := s.charge n true ((t.setupCp + t.stepCp : Nat) : Int)
    (s.updCtx n fun x => { x with steps := 1, nextDue := some (t.stepDs.getD s.chg.band 0) }, clamped)
  | _, _ => (s, false)

/-- Missing steps applied one after another as mandatory charges (R178). -/
def topUp (n : LineNo) (stepCp : Int) : Nat → State → State
  | 0, s => s
  | k + 1, s => topUp n stepCp k ((s.charge n true stepCp).1.updCtx n fun x => { x with steps := x.steps + 1 })

/-- The release of a call at the charge unit (R178): boundaries and the elapsed count stop, and an answered TARIFF call
is topped up to its minimum of steps. -/
def State.chargeRelease (s : State) (n : LineNo) : State :=
  let s := s.updCtx n fun x => { x with nextDue := none, elapsedOn := false }
  let x := s.ctx n
  match x.dir, x.metering, x.tariff, x.answer with
  | .out, .tariff, some t, some _ => topUp n t.stepCp (t.minSteps - x.steps) s
  | _, _, _, _ => s

/-- Desk and pool a charge record names (R147, R180): those of the context, or desk 0 and its pool. -/
def State.recordDesk (s : State) (x : Ctx) : Nat × Option Nat :=
  match x.desk with
  | some d => (d, x.pool)
  | none => (0, (s.desk 0).poolOf)

/-- The charge record of line `n`'s call (R180). -/
def State.chargeRecord (s : State) (n : LineNo) : ChargeRecord :=
  let x := s.ctx n
  let dp := s.recordDesk x
  { seq := s.chg.counter, callId := x.callId, line := n, dir := x.dir, desk := dp.1, pool := dp.2,
    dialled := x.dial, cls := x.cls, tariffId := x.tariffId, start := x.start, answer := x.answer,
    duration := x.elapsed, steps := if x.metering == .tariff then x.steps else 0, pulses := x.pulses,
    charge := x.charge, poolShare := x.poolShare, unrecovered := x.unrecovered, poolUnrecovered := x.poolUnrecovered,
    pages := match x.dir with
      | .out => x.confirmed
      | .inbound => (x.sess.map (·.settled)).getD 0,
    reason := x.reason.getD .reset, jobTag := x.jobTag, dest := x.job.map Prod.snd,
    senderTag := x.senderTag.getD [], clockUnset := x.clockUnset }

/-- The record of line `n`'s call is completed and queued in place of its reservation (R178, R180). -/
def State.completeRecord (s : State) (n : LineNo) : State :=
  let r := s.chargeRecord n
  let counted := (s.ctx n).counted
  let chg := { s.chg with
    counter := wrap16 s.chg.counter
    queue := s.chg.queue ++ [r]
    reservations := s.chg.reservations - 1 }
  let s := { s with chg := chg }
  let s := match counted with
    | some (d, p) => s.countCall d p (· - 1)
    | none => s
  let s := s.updDesk r.desk fun k => { k with calls := sat16 (k.calls + 1) }
  match r.pool with
  | some p => s.updDesk p fun k => { k with calls := sat16 (k.calls + 1) }
  | none => s

end Sys2Proof.Machine
end

