-- ==== Sys2Proof/Machine/Dispatcher.lean ====
section
/-!
DEFINITION. The dispatcher's records (chapter 6): jobs and destinations, outcomes, completion, the reports of the page
memory manager and of the charge unit, and the dispatch order. The evaluation itself binds lines and stands in
Evaluate.lean.
-/

namespace Sys2Proof.Machine

/-! ## Destinations (R119, R131) -/

/-- The terminal states of a destination (R119). -/
def DestState.terminal : DestState → Bool
  | .done | .failed | .cancelled => true
  | _ => false

/-- The waiting states of a destination (R119). -/
def DestState.waits : DestState → Bool
  | .pending | .waitRetry | .waitFunds => true
  | _ => false

/-- Destination `d` of job `j`. -/
def State.dest (s : State) (j d : Nat) : Option Dest := (s.job j).bind fun r => r.dests[d]?

/-- Destination `d` of job `j` replaced. -/
def State.setDest (s : State) (j d : Nat) (x : Dest) : State :=
  s.setJob j ((s.job j).map fun r => { r with dests := r.dests.set d x })

/-- DEST_RESULT of a destination as it stands (R131). -/
def State.destResult (s : State) (j d : Nat) (outcome : Option OutcomeInfo) : State :=
  match s.job j, s.dest j d with
  | some r, some x =>
    s.raise (.destResult j r.tag d x.state x.attempts x.calls x.confirmed
      (if x.state == .waitRetry then x.due else none) x.last outcome)
  | _, _ => s

/-! ## Completion (R134) -/

/-- A job whose destinations are all terminal completes (R134): its state, its send hold lowered unless the document has
been freed, JOB_DONE, and its record freed. -/
def State.completeJob (s : State) (j : Nat) (lower : Bool) : State :=
  match s.job j with
  | none => s
  | some r =>
    if r.dests.all fun x => x.state.terminal then
      let final := if r.cancel then JobState.cancelled else JobState.done
      let s := s.setJob j (some { r with state := final })
      let s := if lower then s.lowerSendHold r.document else s
      let s := s.raise (.jobDone j r.tag r.seq r.document final
        (r.dests.map fun x => (x.state, x.attempts, x.calls, x.confirmed, x.last)))
      let s := s.setJob j none
      { s with dsp := { s.dsp with order := s.dsp.order.erase j } }
    else s

/-! ## Outcomes (R128 to R130) -/

/-- What a line hands back: a release, or a line fault at seize (R80, R128). -/
inductive CallOutcome where
  | released (r : EndReason)
  | lineFault
deriving DecidableEq, Repr

/-- The last reason of a release reason (R131). -/
def EndReason.last : EndReason → LastReason
  | .completed => .completed
  | .busy => .busy
  | .noAnswer => .noAnswer
  | .noDialTone => .noDialTone
  | .trainFail => .trainFail
  | .protocolTimeout => .protocolTimeout
  | .carrierLost => .carrierLost
  | .noCommonCode => .noCommonCode
  | .declined .noMemory => .declinedNoMemory
  | .declined .unsupported => .declinedUnsupported
  | .declined .notReceiving => .declinedNotReceiving
  | .memory => .declinedNoMemory
  | .funds => .funds
  | .reset => .cancelled

/-- The release reasons that count as a failure (R129). -/
def EndReason.counted : EndReason → Bool
  | .busy | .noAnswer | .trainFail | .protocolTimeout | .carrierLost | .declined .noMemory | .funds => true
  | _ => false

/-- A due time, held to the upper value of dispatcher time (R120). -/
def dueAt (now after : Nat) : Nat := min (now + after) Config.maxDispatcherTime

/-- A destination in WAIT_RETRY (R120). -/
def Dest.retryAt (x : Dest) (due : Nat) : Dest := { x with state := .waitRetry, due := some due, timer := true }

/-- The destination an outcome leaves, from the destination with the call's pages added (R128 to R130). `total` is the
document's page count and `now` dispatcher time. -/
def Dest.settle (x : Dest) (job : Job) (total now : Nat) (o : CallOutcome) : Dest :=
  let x := { x with line := none, due := none, timer := false }
  if x.confirmed = total then { x with state := .done, last := some .completed }
  else if job.cancel then { x with state := .cancelled, last := some .cancelled }
  else match o with
    | .lineFault => { x with state := .pending, last := some .lineFault }
    | .released .completed => { x with state := .waitFunds, last := some .fundsClosing }
    | .released .noDialTone => { x with last := some .noDialTone }.retryAt (dueAt now 10)
    | .released r =>
      if r.counted then
        let x := { x with attempts := x.attempts + 1, last := some r.last }
        if x.attempts < job.maxAttempts then x.retryAt (dueAt now job.redial) else { x with state := .failed }
      else { x with state := .failed, last := some r.last }

/-- An outcome is taken for destination `d` of job `j` (R128). A destination returned to PENDING, or due at once,
triggers an evaluation (R120, R123). -/
def State.takeOutcome (s : State) (j d : Nat) (o : CallOutcome) (info : OutcomeInfo) : State :=
  match s.job j, s.dest j d with
  | some r, some x =>
    let y := { x with confirmed := x.confirmed + info.confirmed }.settle r (s.doc r.document).pages.length s.dsp.time o
    let s := s.setDest j d y
    let s := s.destResult j d (some info)
    let s := if y.state == .pending || (y.state == .waitRetry && decide (y.due.getD 0 ≤ s.dsp.time)) then s.report .evaluate else s
    s.completeJob j true
  | _, _ => s

/-! ## Reports (R124, R132) -/

/-- Every waiting destination of a job becomes FAILED with a reason, each with its DEST_RESULT (R124). -/
def State.failWaiting (s : State) (j : Nat) (reason : LastReason) : State :=
  let step := fun (s : State) (d : Nat) => match s.dest j d with
    | some x =>
      if x.state.waits then
        (s.setDest j d { x with state := .failed, due := none, timer := false, last := some reason }).destResult j d none
      else s
    | none => s
  (List.range Config.destinations).foldl step s

/-- The jobs naming a document, in submission order. That a document's report takes them so is a DESIGN CHOICE (log entry
50). -/
def State.jobsNaming (s : State) (doc : Nat) : List Nat :=
  s.dsp.order.filter fun j => match s.job j with
    | some r => r.document == doc
    | none => false

/-- A document with a send hold has been closed (R124). -/
def State.jobDocClosed (s : State) (doc count : Nat) : State :=
  match s.jobsNaming doc with
  | [] => s
  | js =>
    if count = 0 then js.foldl (fun s j => (s.failWaiting j .noPages).completeJob j true) s
    else s.report .evaluate

/-- A document with a send hold has been freed (R124). -/
def State.jobDocFreed (s : State) (doc : Nat) : State :=
  (s.jobsNaming doc).foldl (fun s j => (s.failWaiting j .noDocument).completeJob j false) s

/-- The funds of a desk, or of a pool it belongs to, have changed (R132): WAIT_FUNDS destinations that pass the funds
check return to PENDING with their last reason standing (a DESIGN CHOICE, log entry 49), and an evaluation follows if any
did. -/
def State.jobFundsChanged (s : State) (desk : Nat) : State :=
  let one := fun (j : Nat) (s : State) (d : Nat) => match s.job j, s.dest j d with
    | some r, some x =>
      if x.state == .waitFunds && (r.desk == desk || (s.desk r.desk).poolOf == some desk) && s.fundsTest r.desk x.dial then
        (s.setDest j d { x with state := .pending }).report .evaluate
      else s
    | _, _ => s
  s.dsp.order.foldl (fun s j => (List.range Config.destinations).foldl (one j) s) s

/-! ## Readiness and the dispatch order (R123, R125) -/

/-- Whether a destination of a job is ready, the charge record place apart (R123). -/
def State.ready (s : State) (r : Job) (x : Dest) : Bool :=
  r.state == .active &&
    (x.state == .pending || (x.state == .waitRetry && decide (x.due.getD 0 ≤ s.dsp.time))) &&
    (s.doc r.document).state == .closed && !(s.doc r.document).pages.isEmpty

/-- A ready destination with what decides its place in the dispatch order. -/
structure Candidate where
  priority : Nat
  due      : Nat
  job      : Nat
  dest     : Nat
deriving DecidableEq, Repr

/-- The due time a destination counts with: a PENDING one its job's submit time (R125). -/
def Dest.dueFor (x : Dest) (r : Job) : Nat := if x.state == .pending then r.submitTime else x.due.getD 0

/-- The ready destinations, in the order of submission and index. -/
def State.candidates (s : State) : List Candidate :=
  s.dsp.order.flatMap fun j => match s.job j with
    | none => []
    | some r =>
      (List.range r.dests.length).filterMap fun d => match r.dests[d]? with
        | some x => if s.ready r x then some { priority := r.priority, due := x.dueFor r, job := j, dest := d } else none
        | none => none

/-- The earlier of two candidates in the dispatch order, the first where priority and due time are equal (R125). -/
def Candidate.earlier (a b : Candidate) : Candidate :=
  if b.priority < a.priority ∨ (b.priority = a.priority ∧ b.due < a.due) then b else a

/-- The first ready destination in the dispatch order (R125). -/
def State.nextCandidate (s : State) : Option Candidate :=
  match s.candidates with
  | [] => none
  | c :: cs => some (cs.foldl Candidate.earlier c)

/-- A destination is refused at dispatch (R125). -/
def State.refuseAtDispatch (s : State) (c : Candidate) (state : DestState) (reason : LastReason) : State :=
  match s.dest c.job c.dest with
  | some x =>
    ((s.setDest c.job c.dest { x with state := state, due := none, timer := false, last := some reason }).destResult c.job
      c.dest none).completeJob c.job true
  | none => s

end Sys2Proof.Machine
end

