-- ==== Sys2Proof/Machine/Pump.lean ====
section
/-!
DEFINITION. The pump link (section 4.2, R76 to R78, R193): the nine-bit characters and their framing, the session frame
encoding and its decoding, and what a channel hands to its link.
-/

namespace Sys2Proof.Machine

/-! ## Big-endian fields (R193) -/

/-- A number in `n` bytes, most significant first. -/
def beBytes : Nat → Nat → List Byte
  | 0, _ => []
  | n + 1, v => BitVec.ofNat 8 (v / 256 ^ n) :: beBytes n v

/-- The number in a list of bytes, most significant first. -/
def beNat (bs : List Byte) : Nat := bs.foldl (fun n b => 256 * n + b.toNat) 0

/-- A number read from the first `n` bytes, with the bytes after them. -/
def takeNat (n : Nat) (bs : List Byte) : Option (Nat × List Byte) :=
  if n ≤ bs.length then some (beNat (bs.take n), bs.drop n) else none

/-- A string as its length byte and its characters. -/
def textBytes (t : Text) : List Byte := BitVec.ofNat 8 t.length :: t

/-- A string read from its length byte on, with the bytes after it. -/
def takeText : List Byte → Option (Text × List Byte)
  | [] => none
  | n :: bs => if n.toNat ≤ bs.length then some (bs.take n.toNat, bs.drop n.toNat) else none

/-! ## Session frames (R193) -/

/-- The flags byte of OFFER. -/
def offerFlags (f : OfferFields) : Nat :=
  f.diff.toNat + 2 * f.std.toNat + 4 * f.fine.toNat + 8 * f.receiveOk.toNat

/-- The body of a session frame (R193). -/
def Frame.bytes : Frame → List Byte
  | .offer f =>
    1 :: (textBytes f.tag ++ beBytes 1 f.codes.length ++ f.codes.flatMap (beBytes 2) ++ beBytes 1 (offerFlags f) ++
      beBytes 2 f.maxWidth ++ beBytes 1 f.maxStep ++ beBytes 1 f.maxPages)
  | .choose f =>
    2 :: (textBytes f.tag ++ beBytes 2 f.code ++ beBytes 1 f.coding ++ beBytes 2 f.width ++ beBytes 1 f.density ++
      beBytes 1 f.step ++ beBytes 1 f.pages)
  | .accept => [3]
  | .decline r => 4 :: beBytes 1 r
  | .pageHead n a st => 5 :: (beBytes 1 n ++ beBytes 1 a ++ beBytes 1 st)
  | .pageTail l b c => 6 :: (beBytes 2 l ++ beBytes 4 b ++ beBytes 2 c.toNat)
  | .pageAck n v bad => 7 :: (beBytes 1 n ++ beBytes 1 v ++ beBytes 2 bad)
  | .endCall n => 8 :: beBytes 1 n
  | .endAck => [9]

/-- `n` two-byte numbers read in turn. -/
def takeCodes : Nat → List Byte → Option (List Nat × List Byte)
  | 0, bs => some ([], bs)
  | n + 1, bs => do
    let (c, bs) ← takeNat 2 bs
    let (cs, bs) ← takeCodes n bs
    pure (c :: cs, bs)

/-- The fields of an OFFER body after its kind byte. Bits 4 to 7 of the flags byte, which R96 and R193 do not name, are
ignored: a DESIGN CHOICE (log entry 47). -/
def offerOf (bs : List Byte) : Option Frame := do
  let (tag, bs) ← takeText bs
  let (n, bs) ← takeNat 1 bs
  let (codes, bs) ← takeCodes n bs
  let (fl, bs) ← takeNat 1 bs
  let (w, bs) ← takeNat 2 bs
  let (st, bs) ← takeNat 1 bs
  let (p, bs) ← takeNat 1 bs
  if bs = [] then
    some (.offer
      { tag := tag, codes := codes, diff := fl.testBit 0, std := fl.testBit 1, fine := fl.testBit 2,
        receiveOk := fl.testBit 3, maxWidth := w, maxStep := st, maxPages := p })
  else none

/-- The fields of a CHOOSE body after its kind byte. -/
def chooseOf (bs : List Byte) : Option Frame := do
  let (tag, bs) ← takeText bs
  let (code, bs) ← takeNat 2 bs
  let (cod, bs) ← takeNat 1 bs
  let (w, bs) ← takeNat 2 bs
  let (dn, bs) ← takeNat 1 bs
  let (st, bs) ← takeNat 1 bs
  let (p, bs) ← takeNat 1 bs
  if bs = [] then
    some (.choose { tag := tag, code := code, coding := cod, width := w, density := dn, step := st, pages := p })
  else none

/-- The frame a delivered body spells, or none where its kind is unknown or its length does not agree (R96). -/
def Frame.ofBytes : List Byte → Option Frame
  | [] => none
  | k :: bs =>
    match k.toNat, bs with
    | 1, _ => offerOf bs
    | 2, _ => chooseOf bs
    | 3, [] => some .accept
    | 4, [r] => some (.decline r.toNat)
    | 5, [n, a, st] => some (.pageHead n.toNat a.toNat st.toNat)
    | 6, [l1, l0, b3, b2, b1, b0, c1, c0] =>
      some (.pageTail (beNat [l1, l0]) (beNat [b3, b2, b1, b0]) (BitVec.ofNat 16 (beNat [c1, c0])))
    | 7, [n, v, b1, b0] => some (.pageAck n.toNat v.toNat (beNat [b1, b0]))
    | 8, [n] => some (.endCall n.toNat)
    | 9, [] => some .endAck
    | _, _ => none

/-! ## Characters (R76, R193) -/

/-- The argument of DIAL_DIGIT: 0..9 digits, 10 *, 11 # (R193). -/
def dialArgument (c : Byte) : Nat :=
  if c = charStar then 10 else if c = charHash then 11 else c.toNat - 0x30

/-- The nine bits of a control character with its code and argument (R193). -/
def controlBits (code arg : Nat) : BitVec 9 := BitVec.ofNat 9 (256 + 16 * code + arg)

/-- The nine bits of a character the part gives its pump (R193). -/
def PumpChar.bits9 : PumpChar → BitVec 9
  | .data b => b.setWidth 9
  | .dialDigit c => controlBits 1 (dialArgument c)
  | .dataStart step dir => controlBits 2 (step % 8 + match dir with
      | .send => 0
      | .receive => 8)
  | .dataStop => controlBits 3 0
  | .frameBegin => controlBits 4 0
  | .frameEnd => controlBits 5 0

/-- The nine character bits in the order the link sends them (R76). -/
def orderBits (o : BitOrder) (c : BitVec 9) : Bits :=
  let up := (List.range 9).map fun i => c.getLsbD i
  match o with
  | .lsbFirst => up
  | .msbFirst => up.reverse

/-- The parity bit over the nine character bits, if the format has one (R76). -/
def parityBits (p : Parity) (c : BitVec 9) : Bits :=
  let odd := (List.range 9).foldl (fun x i => x ^^ c.getLsbD i) false
  match p with
  | .none => []
  | .even => [odd]
  | .odd => [!odd]

/-- A character as framed on the link: start bit 0, the nine bits, parity, stop bits 1 (R76). -/
def LineConfig.frameChar (f : LineConfig) (c : BitVec 9) : Bits :=
  false :: (orderBits f.bitOrder c ++ parityBits f.parity c ++ List.replicate f.stopBits true)

/-- A framed character as received: its nine bits, and whether its parity bit or a stop bit is in error (R76). -/
def LineConfig.readChar (f : LineConfig) (bs : Bits) : BitVec 9 × Bool :=
  let body := (bs.drop 1).take 9
  let up := match f.bitOrder with
    | .lsbFirst => body
    | .msbFirst => body.reverse
  let c := BitVec.ofNat 9 (bitsValue up.reverse)
  (c, bs.drop 10 != parityBits f.parity c ++ List.replicate f.stopBits true)

/-! ## Handing characters to the link -/

/-- Characters join those the link has still to carry. -/
def State.sendChars (s : State) (n : LineNo) (cs : List PumpChar) : State :=
  s.updLine n fun l => { l with tx := l.tx ++ cs }

/-- A frame as the characters that carry it (R77). -/
def Frame.chars (f : Frame) : List PumpChar := .frameBegin :: (f.bytes.map .data ++ [.frameEnd])

/-- A session frame is sent (R96). -/
def State.sendFrame (s : State) (n : LineNo) (f : Frame) : State := s.sendChars n f.chars

/-- A data phase begins (R78): DATA_START, and the phase awaits training. -/
def State.startPhase (s : State) (n : LineNo) (step : Nat) (dir : PhaseDir) : State :=
  (s.sendChars n [.dataStart step dir]).updLine n fun l =>
    { l with phase := some { dir := dir, step := step }, renewed := false, pace := none }

/-- A data phase, if one runs or awaits training, is ended with DATA_STOP (R78). -/
def State.stopPhase (s : State) (n : LineNo) : State :=
  match (s.line n).phase with
  | none => s
  | some _ => (s.sendChars n [.dataStop]).updLine n fun l => { l with phase := none, renewed := false, pace := none }

/-- Whether a character is a DATA_START. -/
def PumpChar.isDataStart : PumpChar → Bool
  | .dataStart _ _ => true
  | _ => false

/-- The phase that awaits training (R78). A send phase that the training bound's expiry has renewed awaits it only once
the link has carried its DATA_START: until then an answer of the pump is the failed phase's (R106, log entry 43). -/
def Line.awaiting (l : Line) : Option DataPhase :=
  match l.phase with
  | some p => if p.ready || (p.dir == .send && l.renewed && l.tx.any PumpChar.isDataStart) then none else some p
  | none => none

/-- The frame reply timer started at the line's configured value (R88). -/
def State.startReply (s : State) (n : LineNo) : State :=
  s.updLine n fun l => { l with frameReply := some l.config.frameReply }

/-- The frame reply timer stopped. -/
def State.stopReply (s : State) (n : LineNo) : State := s.updLine n fun l => { l with frameReply := none }

/-- A request is sent: recorded with a send count of 1, the timer started (R98). -/
def State.sendRequest (s : State) (n : LineNo) (f : Frame) : State :=
  ((s.sendFrame n f).updSess n fun x => { x with request := some { frame := f, sent := 1 }, expiries := 0 }).startReply n

/-- The answer to the last request is taken (R98). -/
def State.answered (s : State) (n : LineNo) : State :=
  (s.stopReply n).updSess n fun x => { x with request := none, expiries := 0 }

/-- A stage is entered. -/
def State.enterStage (s : State) (n : LineNo) (g : Stage) : State := s.updSess n fun x => { x with stage := g }

/-- A line state is entered. -/
def State.enterState (s : State) (n : LineNo) (g : LineState) : State := s.updLine n fun l => { l with state := g }

/-- A stage with a watch is entered (R99). -/
def State.enterWatch (s : State) (n : LineNo) (g : Stage) : State :=
  ((s.enterStage n g).updSess n fun x => { x with expiries := 0 }).startReply n

/-- A callee's reply is sent and stored for a duplicate (R99). -/
def State.sendStored (s : State) (n : LineNo) (f : Frame) : State :=
  (s.sendFrame n f).updSess n fun x => { x with storedReply := some f, headSince := false }

end Sys2Proof.Machine
end

