-- ==== Sys2Proof/Machine/Print.lean ====
section
/-!
DEFINITION. The print unit (chapter 8): entries and the queue order, the arbiter, the start of a page, the boundary, the
reports of the page memory manager, and the commands and events of the print engine's port.
-/

namespace Sys2Proof.Machine

/-- The print unit updated. -/
def State.updPrt (s : State) (f : Prt → Prt) : State := { s with prt := f s.prt }

/-- A print entry in use updated. -/
def State.updEntry (s : State) (e : Nat) (f : Entry → Entry) : State := s.setEntry e ((s.entry e).map f)

/-! ## Entries (R149, R150, R152) -/

/-- The lowest free print entry. -/
def State.freeEntry (s : State) : Option Nat := lowest Config.entries fun e => (s.entry e).isNone

/-- Whether a page exists and is final. -/
def State.finalPage (s : State) (d index : Nat) : Bool :=
  match s.docPage d index with
  | some p => (s.page p).final
  | none => false

/-- A print entry is created, or refused when all 32 records are in use (R150). An entry created WAITING competes in a
choice (R155). -/
def State.createEntry (s : State) (doc : Nat) (source : EntrySource) (copies priority : Nat) : State × Option Nat :=
  match s.freeEntry with
  | none => (s, none)
  | some e =>
    let d := s.doc doc
    let waiting := s.finalPage doc 1
    let r : Entry :=
      { seq := s.prt.counter, source := source, document := doc, priority := priority, copies := copies,
        remaining := copies, state := if waiting then .waiting else .blocked,
        finalCount := if d.state == .closed then some d.pages.length else none }
    let s := (s.setEntry e (some r)).updPrt fun p => { p with order := p.order ++ [e], counter := wrap16 p.counter }
    let s := s.raisePrintHold doc
    (if waiting then s.report .arbiter else s, some e)

/-- An entry's record is freed and its id leaves the queue order. -/
def State.removeEntry (s : State) (e : Nat) : State :=
  (s.setEntry e none).updPrt fun p => { p with order := p.order.erase e }

/-- An entry is DONE (R152): the print hold lowered, PRINT_DONE raised, the record freed, in this order. -/
def State.finishEntry (s : State) (e : Nat) : State :=
  match s.entry e with
  | none => s
  | some r =>
    ((s.lowerPrintHold r.document).raise
      (.printDone e r.seq r.source r.document r.copies r.printed r.replaced)).removeEntry e

/-- An entry's copy ends (R152): a further copy starts again at page 1 in the named state, or the entry is finished. The
answer is whether it goes on. -/
def State.endCopy (s : State) (e : Nat) (goesOn : EntryState) : State × Bool :=
  match s.entry e with
  | none => (s, false)
  | some r =>
    if 1 < r.remaining ∧ r.finalCount ≠ some 0 then
      (s.setEntry e (some { r with remaining := r.remaining - 1, next := 1, state := goesOn }), true)
    else (s.finishEntry e, false)

/-! ## Arbiter and page start (R155, R156) -/

/-- The more urgent of two entries, the first on equal priority. -/
def moreUrgent (a b : Nat × Entry) : Nat × Entry := if b.2.priority < a.2.priority then b else a

/-- The WAITING entries in queue order. -/
def State.waitingEntries (s : State) : List (Nat × Entry) :=
  s.prt.order.filterMap fun e => match s.entry e with
    | some r => if r.state == .waiting then some (e, r) else none
    | none => none

/-- The WAITING entry the arbiter takes: the lowest priority number, then the earliest in the queue order (R155). -/
def State.arbiterPick (s : State) : Option Nat :=
  match s.waitingEntries with
  | [] => none
  | e :: es => some (es.foldl moreUrgent e).1

/-- The number N of output lines of a page (R156). -/
def PageRec.outputLines (g : PageRec) : Nat :=
  match g.density with
  | .fine => g.lineCount
  | .std => 2 * g.lineCount

/-- A page is started for a PRINTING entry (R156): a print reader, the head width captured, the feed empty. A refused
acquire returns the entry to WAITING and the engine to IDLE. A page with N = 0 goes at once to its boundary. -/
def State.startPage (s : State) (e : Nat) : State :=
  match s.entry e with
  | none => s
  | some r =>
    match s.docPage r.document r.next with
    | none => (s.updEntry e fun r => { r with state := .waiting }).updPrt fun p =>
        { p with engine := .idle, current := none, page := none }
    | some p =>
      match s.acquire .print p with
      | (s, none) => (s.updEntry e fun r => { r with state := .waiting }).updPrt fun p =>
          { p with engine := .idle, current := none, page := none }
      | (s, some ref) =>
        let n := (s.page p).outputLines
        let s := s.updEntry e fun r => { r with state := .printing }
        let page : PrintPage :=
          { document := r.document, index := r.next, ref := ref, headWidth := s.prt.headWidth, total := n,
            reader := decide (0 < n) }
        let s := s.updPrt fun p => { p with engine := .printing, phase := .lines, current := some e, page := some page }
        if n = 0 then (s.release .print ref).report .boundary else s

/-- The arbiter's choice, made when the engine is IDLE (R155). -/
def State.arbiterChoice (s : State) : State :=
  if s.prt.engine == .idle then
    match s.arbiterPick with
    | some e => s.startPage e
    | none => s
  else s

/-- The engine leaves a page: to IDLE and a choice, or to HELD when paper is absent, with a PAPER notice where the rule
raises one (R159, R161). -/
def State.restEngine (s : State) (notice : Bool) : State :=
  let s := s.updPrt fun p => { p with current := none, page := none, phase := .lines }
  if s.prt.paper then (s.updPrt fun p => { p with engine := .idle }).report .arbiter
  else
    let s := s.updPrt fun p => { p with engine := .held }
    if notice then s.raise (.paper .held none) else s

/-- What the entry printed does at a boundary once its copy goes on: cases 2 to 4 of R159. -/
def State.settleBoundary (s : State) (e : Nat) : State :=
  match s.entry e with
  | none => s.restEngine true
  | some r =>
    if !s.finalPage r.document r.next then
      (s.setEntry e (some { r with state := .blocked })).restEngine true
    else if s.waitingEntries.any fun w => decide (w.2.priority < r.priority) then
      (s.setEntry e (some { r with state := .waiting })).restEngine true
    else if !s.prt.paper then
      (s.setEntry e (some { r with state := .waiting })).restEngine true
    else s.startPage e

/-- The boundary of the page being printed (R159). -/
def State.pageBoundary (s : State) : State :=
  match s.prt.current with
  | none => s
  | some e =>
    match s.entry e with
    | none => s.restEngine true
    | some r =>
      let r := { r with printed := sat16 (r.printed + 1), next := r.next + 1 }
      let s := (s.setEntry e (some r)).updPrt fun p => { p with page := none }
      let past := match r.finalCount with
        | some n => decide (n < r.next)
        | none => false
      if past then
        match s.endCopy e .printing with
        | (s, true) => s.settleBoundary e
        | (s, false) => s.restEngine true
      else s.settleBoundary e

/-! ## Reports (R153) -/

/-- A page has become final: BLOCKED entries waiting on it become WAITING, and a choice follows (R153, R155). -/
def State.printPageFinal (s : State) (doc index : Nat) : State :=
  let step := fun (s : State) (e : Nat) => match s.entry e with
    | some r =>
      if r.state == .blocked && r.document == doc && r.next == index then
        (s.setEntry e (some { r with state := .waiting })).report .arbiter
      else s
    | none => s
  s.prt.order.foldl step s

/-- A document has been closed with a page count (R153). Its entries are taken in queue order: a DESIGN CHOICE (log entry
50). -/
def State.printDocClosed (s : State) (doc count : Nat) : State :=
  let step := fun (s : State) (e : Nat) => match s.entry e with
    | some r =>
      if r.document == doc && r.finalCount.isNone then
        let s := s.setEntry e (some { r with finalCount := some count })
        if r.state == .blocked && decide (count < r.next) then
          match s.endCopy e .waiting with
          | (s, true) => s.report .arbiter
          | (s, false) => s
        else s
      else s
    | none => s
  s.prt.order.foldl step s

/-- A document has been freed: its entries are removed without printing (R153). -/
def State.printDocFreed (s : State) (doc : Nat) : State :=
  let step := fun (s : State) (e : Nat) => match s.entry e with
    | some r => if r.document == doc then s.removeEntry e else s
    | none => s
  s.prt.order.foldl step s

/-! ## The line feed (R157, R158) -/

/-- The lines of the page being printed as decoded, replaced and fitted to the captured head width (R157); none of a page
of before a reset (R24). -/
def State.printLines (s : State) (pp : PrintPage) : List (Bool × PixelLine) :=
  let g := s.page pp.ref.page
  match s.current pp.ref, s.codeSet g.slot with
  | true, some c =>
    (decodePage c g.coding g.width g.lineCount (unpackBits (s.pageBytes pp.ref))).map fun l =>
      (l.1, fitLine l.2 pp.headWidth)
  | _, _ => []

/-- Output line `i` of the page being printed: an STD page passes each line on twice (R157). -/
def State.outputLine (s : State) (pp : PrintPage) (i : Nat) : PixelLine :=
  let k := match (s.page pp.ref.page).density with
    | .fine => i
    | .std => i / 2
  (((s.printLines pp)[k]?).map Prod.snd).getD (whiteLine pp.headWidth)

/-- The slot that output line `i` passes through: A and B in alternation, A first (R158). -/
def PrintPage.slot (pp : PrintPage) (i : Nat) : Option PixelLine := if i % 2 = 0 then pp.slotA else pp.slotB

/-- That slot set. -/
def PrintPage.setSlot (pp : PrintPage) (i : Nat) (x : Option PixelLine) : PrintPage :=
  if i % 2 = 0 then { pp with slotA := x } else { pp with slotB := x }

/-- The line offered to the engine (R158): the slot due next is full, engine ready is active and the phase is LINES. -/
def State.offered (s : State) : Option PixelLine :=
  match s.prt.engine, s.prt.phase, s.prt.page with
  | .printing, .lines, some pp => if s.prt.ready then pp.slot pp.taken else none
  | _, _, _ => none

/-- The decoder's reader, if still held, is released. -/
def State.dropReader (s : State) : State :=
  match s.prt.page with
  | some pp => if pp.reader then s.release .print pp.ref else s
  | none => s

/-- An entry's replaced lines with an abandoned page's count taken out again, where the decoder had handed it over
already (R149, R160, log entry 42); a total that has reached 65535 stays there. -/
def Entry.withoutReplaced (r : Entry) (handed : Bool) (n : Nat) : Nat :=
  if handed && decide (r.replaced < 65535) then r.replaced - n else r.replaced

/-- The page being printed is abandoned at paper out (R160). -/
def State.abandonPage (s : State) : State :=
  match s.prt.current, s.prt.page with
  | some e, some pp =>
    let count := replacedCount (s.printLines pp)
    let s := s.dropReader
    let s := s.updEntry e fun r => { r with state := .waiting, replaced := r.withoutReplaced (!pp.reader) count }
    let s := s.updPrt fun p => { p with engine := .held, current := none, page := none }
    s.raise (.paper .held (some (e, pp.document, pp.index)))
  | _, _ => s

/-- Paper present takes a level (R154, R160). -/
def State.paperChange (s : State) (level : Bool) : State :=
  let s := s.updPrt fun p => { p with paper := level }
  match s.prt.engine with
  | .idle => if level then s else (s.updPrt fun p => { p with engine := .held }).raise (.paper .held none)
  | .held => if level then (s.updPrt fun p => { p with engine := .idle }).report .arbiter else s
  | .printing => if level then s else
    match s.prt.phase with
    | .lines => s.abandonPage
    | .cut => s

/-- The decoder finishes output line number `decoded` into its slot, if that slot is empty; after the N-th it releases
the reader and adds the replaced lines (R157, R158). -/
def State.decodePrintLine (s : State) : State :=
  match s.prt.engine, s.prt.phase, s.prt.current, s.prt.page with
  | .printing, .lines, some e, some pp =>
    if pp.decoded < pp.total ∧ pp.slot pp.decoded = none then
      let line := s.outputLine pp pp.decoded
      let done := decide (pp.decoded + 1 = pp.total)
      let replaced := replacedCount (s.printLines pp)
      let qq := { pp.setSlot pp.decoded (some line) with decoded := pp.decoded + 1, reader := pp.reader && !done }
      let s := s.updPrt fun p => { p with page := some qq }
      if done then
        (s.release .print pp.ref).updEntry e fun r => { r with replaced := sat16 (r.replaced + replaced) }
      else s
    else s
  | _, _, _, _ => s

/-- The engine takes the line offered (R158); with none offered the input is ignored (R160). -/
def State.takePrintLine (s : State) : State :=
  match s.offered, s.prt.page with
  | some _, some pp =>
    let qq := { pp.setSlot pp.taken none with taken := pp.taken + 1 }
    let s := s.updPrt fun p => { p with page := some qq }
    if qq.taken = qq.total then s.updPrt fun p => { p with phase := .cut, cutRequest := true } else s
  | _, _ => s

/-- A cut is done (R159, R161, R163): the boundary of the entry's page, or the end of a cut without one. -/
def State.cutFinished (s : State) : State :=
  match s.prt.engine, s.prt.phase with
  | .printing, .cut =>
    let s := s.updPrt fun p => { p with cutRequest := false }
    match s.prt.current with
    | some _ => s.pageBoundary
    | none => s.restEngine false
  | _, _ => s

/-- The engine stops the page being printed for a cancel or a soft reset: no line is offered, and the sheet is cut
(R161, R163). -/
def State.cutShort (s : State) : State :=
  s.updPrt fun p => { p with phase := .cut, cutRequest := true, current := none, page := none }

/-- An entry is cancelled (R161). -/
def State.cancelEntry (s : State) (e : Nat) (r : Entry) : State :=
  let s := if s.prt.current = some e then s.dropReader.cutShort else s
  (s.removeEntry e).lowerPrintHold r.document

end Sys2Proof.Machine
end

