-- ==== Sys2Proof/Machine/Router.lean ====
section
/-!
DEFINITION. The reception router (chapter 7): the match of a route, the route request at an accepted CHOOSE, the values
captured at the close of a received document, and the call's end with its DOC_RECEIVED.
-/

namespace Sys2Proof.Machine

/-- Bit `n` of a line mask. -/
def RouteRule.covers (r : RouteRule) (n : LineNo) : Bool := r.mask.testBit n.val

/-- Whether a rule matches a line and a station tag (R139). -/
def RouteRule.hits (r : RouteRule) (n : LineNo) (tag : Text) : Bool :=
  RouteRule.covers r n && r.tagPrefix.isPrefixOf tag

/-- The route of a call: the first matching rule with its number, or none for the default route (R139). -/
def firstRoute (n : LineNo) (tag : Text) : Nat → List RouteRule → Option (Nat × RouteRule)
  | _, [] => none
  | i, r :: rs => if RouteRule.hits r n tag then some (i, r) else firstRoute n tag (i + 1) rs

/-- The default route: desk 0, print priority 2, copies 1, hold_for_board clear (R139). -/
def defaultRoute : RouteRule := { tagPrefix := [], mask := 15, desk := 0, priority := 2, copies := 1, hold := false }

/-- The route of a request: its rule number, absent for DEFAULT, and its results (R139). -/
def Rtr.route (t : Rtr) (n : LineNo) (tag : Text) : Option Nat × RouteRule :=
  match firstRoute n tag 0 t.table with
  | some (i, r) => (some i, r)
  | none => (none, defaultRoute)

/-- Line `n`'s reception record replaced. -/
def State.setReception (s : State) (n : LineNo) (r : Option Reception) : State :=
  { s with rtr := { s.rtr with reception := s.rtr.reception.set n r } }

/-- The print entry of a route, or the board hold and PRINT_QUEUE_FULL in its place (R141). The answer is the entry and
whether the queue was full. -/
def State.routeEntry (s : State) (n : LineNo) (doc : Nat) (tag : Text) (rule : Option Nat) (r : RouteRule) :
    State × Option Nat × Bool :=
  if r.copies = 0 then (s, none, false)
  else match s.createEntry doc .route r.copies r.priority with
    | (s, some e) => (s, some e, false)
    | (s, none) =>
      let s := s.setDoc doc { s.doc doc with boardHold := true }
      (s.raise (.printQueueFull n (s.ctx n).callId doc tag rule r.priority r.copies), none, true)

/-- Whether line `n` has the call with this id in progress (R148). -/
def State.hasCall (s : State) (n : LineNo) (call : Nat) : Bool :=
  (s.line n).state.inCall && (s.line n).ctx.any (·.callId == call)

/-- A route request from line `n` for a call with its id and the caller's station tag (R140): the desk and its pool, or
none for shortage. A request for a call that the line does not have in progress, one of before a reset, is answered
shortage and changes nothing (R148). -/
def State.routeRequest (s : State) (n : LineNo) (call : Nat) (tag : Text) : State × Option (Nat × Option Nat) :=
  if !s.hasCall n call then (s, none) else
  let (rule, r) := s.rtr.route n tag
  match s.freePageRecord with
  | none => (s, none)
  | some _ =>
    match s.createDoc .received r.desk (.lch n) (some tag) r.hold with
    | (s, none) => (s, none)
    | (s, some doc) =>
      let (s, entry, full) := s.routeEntry n doc tag rule r
      let pool := (s.desk r.desk).poolOf
      let record : Reception :=
        { callId := call, document := doc, rule := rule, desk := r.desk, pool := pool, priority := r.priority,
          copies := r.copies, hold := r.hold, entry := entry, queueFull := full }
      (s.setReception n (some record), some (r.desk, pool))

/-- The values of a received document that the line captures at its close (R144). -/
structure Captured where
  pages    : Nat
  complete : Nat
  poor     : Nat
  damaged  : Nat
  bad      : Nat
  hold     : Bool
  freed    : Bool
deriving DecidableEq, Repr

/-- A received document is closed, its free test run and its values captured (R144). -/
def State.closeReceived (s : State) (d : Nat) : State × Captured :=
  let gs := (s.doc d).pages.map s.page
  let s := (s.unbind d).closeDoc d
  (s, { pages := gs.length
        complete := gs.countP fun g => g.state == .complete && !g.poor
        poor := gs.countP fun g => g.state == .complete && g.poor
        damaged := gs.countP fun g => g.state == .damaged
        bad := (gs.map (·.badLines)).sum
        hold := (s.doc d).boardHold
        freed := !s.docInUse d })

/-- The disposition of a received document (R146); the case its table does not give is a free value (log entry 3). -/
def State.disposition (s : State) (r : Reception) (c : Captured) : State × Disposition :=
  if r.entry.isSome then (s, if c.hold then .printingHeld else .printing)
  else if c.hold then (s, .held)
  else if c.freed then (s, .discarded)
  else ({ s with freeIndex := s.freeIndex + 1 }, Config.unlistedDisposition s.freeIndex)

/-- The print entry id that DOC_RECEIVED carries: with a PRINTING disposition alone (R146). -/
def Disposition.entryShown (d : Disposition) (e : Option Nat) : Option Nat :=
  match d with
  | .printing | .printingHeld => e
  | .held | .discarded => none

/-- The router's work at the end of line `n`'s call (R144), with the captured values of its document. -/
def State.routerCallEnd (s : State) (n : LineNo) (reason : EndReason) (settled : Nat) (sent : Option Nat)
    (c : Captured) : State :=
  match tget s.rtr.reception n.val none with
  | none => s
  | some r =>
    let s := if r.entry.isSome && !c.freed then s.report (.docClosed r.document c.pages) else s
    let s :=
      if 1 ≤ c.pages then
        let (s, disp) := s.disposition r c
        s.raise (.docReceived n r.callId r.document (((s.ctx n).senderTag).getD []) r.rule r.desk reason settled sent
          c.complete c.poor c.damaged c.bad disp r.queueFull (Disposition.entryShown disp r.entry))
      else s
    s.setReception n none

end Sys2Proof.Machine
end

