-- ==== Sys2Proof/Machine/Call.lean ====
section
/-!
DEFINITION. Call supervision (chapter 4): ringing and the answer test, the bind and the seizure, dialling, the loop check,
the beginning of a session, the release of a call, its guard, and the charges that ask for a release.
-/

namespace Sys2Proof.Machine

/-! ## Entering and leaving service (R79, R82, R92) -/

/-- A line enters IDLE (R79, R123): a ring input already active starts qualifying, and the dispatcher evaluates. -/
def State.enterIdle (s : State) (n : LineNo) : State :=
  (s.updLine n fun l =>
    { l with state := .idle, ringQual := if l.ringInput then some (l.ringQual.getD l.config.ringOnMin) else none }).report
    .evaluate

/-- A line enters OUT_OF_SERVICE with LINE_STATE (R80, R91, R92): the ring input is heeded no longer. -/
def State.leaveService (s : State) (n : LineNo) (cause : LineCause) : State :=
  (s.updLine n fun l => { l with state := .outOfService, ringQual := none, ringGap := none, ringing := none }).raise
    (.lineState n .outOfService cause)

/-- The next call id (R93). -/
def State.takeCallId (s : State) : State × Nat := ({ s with callCounter := wrap16 s.callCounter }, s.callCounter)

/-! ## The session's beginning (R97, R100) -/

/-- The line enters NEGOTIATING in a role (R97): the session record is filled and the station values copied. -/
def State.beginSession (s : State) (n : LineNo) (role : Role) : State :=
  (s.enterState n .negotiating).updCtx n fun c =>
    { c with sess := some { role := role }, params := { c.params with station := s.station } }

/-- NEGOTIATING as caller (R98, R100): the page base from the dispatcher, and the wait for OFFER. -/
def State.beginCaller (s : State) (n : LineNo) : State :=
  let base := match (s.ctx n).job with
    | some (j, d) => ((s.dest j d).map (·.confirmed)).getD 0
    | none => 0
  ((s.beginSession n .caller).updSess n fun x => { x with base := base }).startReply n

/-- The OFFER a callee builds (R100). -/
def State.offerFields (s : State) (n : LineNo) : OfferFields :=
  { tag := (s.ctx n).params.station.tag
    codes := (List.range 2).filterMap fun k => (s.codeSet k).map (·.number)
    diff := true, std := true, fine := true
    receiveOk := (s.line n).enabled
    maxWidth := 2048, maxStep := (s.line n).config.maxStep, maxPages := 64 }

/-- NEGOTIATING as callee (R87, R100): OFFER is sent as a request. -/
def State.beginCallee (s : State) (n : LineNo) : State :=
  let s := s.beginSession n .callee
  let f := s.offerFields n
  ((s.updSess n fun x => { x with stage := .offered, offered := some f }).sendRequest n (.offer f))

/-! ## Ringing and answering (R79, R86, R87) -/

/-- The first failing condition of the answer test, or none (R86). -/
def State.answerTest (s : State) (n : LineNo) : Option AnswerFail :=
  if !(s.line n).config.enableIn then some .notEnabled
  else if !s.placeFree then some .noRecordSlot
  else if s.freeCount < Config.answerNeeds then some .noMemory
  else if !s.loaded 0 && !s.loaded 1 then some .noCodeSet
  else none

/-- The line enters ANSWERING (R87): the reservation is taken, the call context filled from the ringing record, the hook
relay closed and the loop check timed. -/
def State.enterAnswering (s : State) (n : LineNo) (r : RingRecord) : State :=
  let (s, id) := s.reserve.takeCallId
  let x : Ctx := { callId := id, dir := .inbound, start := r.time, clockUnset := r.unset, reservation := true }
  s.updLine n fun l =>
    { l with
      state := .answering, hookClosed := true, ringQual := none, ringGap := none, ringing := none
      loopTimer := some 300, ctx := some x }

/-- A ringing record takes effect at a qualified burst (R86): the gap timer restarts, and from ring_count bursts on the
answer test is made. -/
def State.afterBurst (s : State) (n : LineNo) (r : RingRecord) : State :=
  let s := s.updLine n fun l => { l with ringQual := none, ringGap := some l.config.ringGapMax, ringing := some r }
  if r.bursts < (s.line n).config.ringCount then s
  else match s.answerTest n with
    | none => s.enterAnswering n r
    | some f => s.updLine n fun l => { l with ringing := some { r with reason := some f } }

/-- A burst is qualified (R79, R86). -/
def State.burst (s : State) (n : LineNo) : State :=
  let l := s.line n
  match l.state, l.ringing with
  | .idle, _ =>
    (s.enterState n .ringing).afterBurst n { time := s.now, bursts := 1, reason := none, unset := !s.chg.clock.set }
  | .ringing, some r => s.afterBurst n { r with bursts := r.bursts + 1 }
  | _, _ => s

/-- Ringing is abandoned (R86): IDLE, and MISSED_CALL from the ringing record. -/
def State.abandonRinging (s : State) (n : LineNo) : State :=
  match (s.line n).state, (s.line n).ringing with
  | .ringing, some r =>
    ((s.updLine n fun l => { l with ringGap := none, ringing := none }).raise
      (.missedCall n r.time r.bursts r.reason)).enterIdle n
  | _, _ => s

/-! ## Binding and dialling (R83, R84) -/

/-- The bind of a destination to an IDLE line (R83, R93). -/
def State.seize (s : State) (n : LineNo) (job dest jobTag desk : Nat) (p : Pass) : State :=
  let (s, id) := s.takeCallId
  let x : Ctx :=
    { callId := id, dir := .out, job := some (job, dest), jobTag := jobTag, desk := some desk, pool := p.pool,
      counted := some (desk, p.pool), cls := some p.cls, tariffId := some p.tariffId, tariff := some p.tariff,
      metering := (s.line n).config.metering, start := s.now, reservation := true, dial := p.dial }
  (s.updLine n fun l =>
    { l with
      state := .seized, hookClosed := true, ringQual := none, ringGap := none, loopFound := false, toneSeen := false
      loopTimer := some 300, dialToneWait := some l.config.dialToneWait
      meterQual := none, ctx := some x }).markClock n

/-- The last dial character is done: AWAIT_ANSWER (R84, R85). -/
def State.awaitAnswer (s : State) (n : LineNo) : State :=
  s.updLine n fun l => { l with state := .awaitAnswer, dialWait := none, answerWait := some l.config.answerWait }

/-- The next dial character (R84). -/
def State.dialNext (s : State) (n : LineNo) : State :=
  match (s.line n).dial with
  | [] => s.awaitAnswer n
  | c :: cs =>
    let s := s.updLine n fun l => { l with dial := cs }
    if c = charP then s.updLine n fun l => { l with dialWait := some .pause, pause := some 20 }
    else if c = charW then s.updLine n fun l => { l with dialWait := some .tone, dialToneWait := some l.config.dialToneWait }
    else (s.sendChars n [.dialDigit c]).updLine n fun l => { l with dialWait := some .carried }

/-- A dial tone is taken in SEIZED (R83): DIALING, the access prefix first (R84). -/
def State.enterDialing (s : State) (n : LineNo) : State :=
  (s.updLine n fun l =>
    { l with
      state := .dialing, dialToneWait := none, toneSeen := false
      dial := l.config.accessPrefix ++ (l.ctx.map (·.dial)).getD [] }).dialNext n

/-! ## Release (R90, R116, R117) -/

/-- The states in which a release is taken: SEIZED or ANSWERING through CLOSING (R89). -/
def LineState.releasable : LineState → Bool
  | .outOfService | .idle | .ringing | .releasing => false
  | _ => true

/-- The end of a data phase on the part's side (R78, R70): DATA_STOP, and a receive phase's codec counters are final. -/
def State.endPhase (s : State) (n : LineNo) : State :=
  let receiving : Bool := match (s.line n).phase with
    | some p => p.dir == .receive && p.ready
    | none => false
  let s := s.stopPhase n
  if receiving then s.updCodec n Codec.finish else s

/-- Damage of the page being received with the codec's counters as they stand (R109, R116). -/
def State.damageReceived (s : State) (n : LineNo) (r : PageRef) : State :=
  let q := (s.line n).codec
  s.damagePage r (min q.found (s.page r.page).density.maxLines) (min q.bad 65535)

/-- The callee settles the page it holds at a release (R90, R116): with bytes it is damaged, without it is discarded; a
page no longer FILLING stands. -/
def State.settleReceived (s : State) (n : LineNo) : State :=
  match (s.sess n).page with
  | none => s
  | some r =>
    if s.current r && (s.page r.page).state == .filling then
      if 0 < (s.page r.page).byteCount then s.damageReceived n r else s.fullDiscard r
    else s

/-- The transmission reader of a call released, if it is held (R90). -/
def State.dropTransmission (s : State) (n : LineNo) : State :=
  match (s.sess n).reader with
  | some r => (s.release .transmission r).updSess n fun x => { x with reader := none }
  | none => s

/-- The line's timers of a call stopped; the meter qualification runs on through the guard (section 4.6's table). -/
def Line.stopCallTimers (l : Line) : Line :=
  { l with loopTimer := none, dialToneWait := none, pause := none, answerWait := none, frameReply := none }

/-- What an outbound call's outcome carries beside its reason (R117, R131). The session record of a call that never
negotiated is empty (R97): the far tag is then the empty string, the step absent and the recode replacements 0, a DESIGN
CHOICE (log entry 53). -/
def State.outcomeInfo (s : State) (n : LineNo) : OutcomeInfo :=
  let x := s.ctx n
  { callId := x.callId, confirmed := x.confirmed, farTag := (s.sess n).farTag, step := x.sess.map (·.step),
    recoded := (s.sess n).recoded }

/-- The outcome of an outbound call handed to the dispatcher (R90, R80). -/
def State.handOutcome (s : State) (n : LineNo) (o : CallOutcome) : State :=
  match (s.ctx n).job with
  | some (j, d) => s.takeOutcome j d o (s.outcomeInfo n)
  | none => s

/-- The received document of line `n`'s call, closed and handed to the router (R90, R144). -/
def State.endReception (s : State) (n : LineNo) (reason : EndReason) : State :=
  match tget s.rtr.reception n.val none with
  | none => s
  | some r =>
    let (s, c) := s.closeReceived r.document
    s.routerCallEnd n reason (s.sess n).settled (s.sess n).endPages c

/-- The release of line `n`'s call (R90): taken in SEIZED or ANSWERING through CLOSING, and changing nothing elsewhere. -/
def State.releaseCall (s : State) (n : LineNo) (reason : EndReason) : State :=
  if (s.line n).state.releasable then
    let s := (s.updCtx n fun x => { x with reason := some reason, releaseTime := some s.now }).markClock n
    let s := s.endPhase n
    let s := s.updLine n fun l =>
      { l.stopCallTimers with
        state := .releasing, hookClosed := false, dial := [], dialWait := none, toneSeen := false, loopFound := false
        releaseGuard := some l.config.releaseGuard }
    let s := (s.settleReceived n).dropTransmission n
    let s := s.updCodec n fun _ => {}
    let s := s.endReception n reason
    let s := s.handOutcome n (.released reason)
    s.chargeRelease n
  else s

/-- A charge is made to line `n`'s call, and a clamped one asks for the FUNDS release (R89, R174). -/
def State.chargeCall (s : State) (n : LineNo) (mandatory : Bool) (c : Int) : State :=
  match s.charge n mandatory c with
  | (s, true) => s.releaseCall n .funds
  | (s, false) => s

/-! ## The loop check (R80, R83, R87) -/

/-- A line fault at the loop check (R80). -/
def State.loopFault (s : State) (n : LineNo) : State :=
  let info := s.outcomeInfo n
  let x := s.ctx n
  let s := match x.counted with
    | some (d, p) => s.countCall d p (· - 1)
    | none => s
  let s := s.returnReservation
  let s := s.updLine n fun l =>
    { l.stopCallTimers with
      hookClosed := false, meterQual := none, ctx := none, enabled := false, toneSeen := false, loopFound := false }
  let s := s.leaveService n .loopFault
  match x.job with
  | some (j, d) => s.takeOutcome j d .lineFault info
  | none => s

/-- The loop check, 300 ms after the hook relay closed (R80). -/
def State.checkLoop (s : State) (n : LineNo) (current : Bool) : State :=
  let l := s.line n
  if l.loopTimer.isSome then
    let s := s.updLine n fun l => { l with loopTimer := none }
    match l.state with
    | .seized =>
      if current then
        let s := s.updLine n fun l => { l with loopFound := true }
        if l.toneSeen then s.enterDialing n else s
      else s.loopFault n
    | .answering =>
      if current then
        let s := (s.updCtx n fun x => { x with answer := some s.now, elapsed := 0, elapsedOn := true }).markClock n
        s.beginCallee n
      else s.loopFault n
    | _ => s
  else s

/-! ## The answer and the guard's end (R85, R91) -/

/-- FAR_ANSWER in AWAIT_ANSWER (R85): the answer time, the first charge, and NEGOTIATING as caller unless that charge was
clamped. -/
def State.farEndAnswers (s : State) (n : LineNo) : State :=
  let s := s.updLine n fun l => { l with answerWait := none }
  let s := (s.updCtx n fun x => { x with answer := some s.now }).markClock n
  match s.chargeAnswer n with
  | (s, true) => s.releaseCall n .funds
  | (s, false) => s.beginCaller n

/-- The release guard ends (R91): the charge record completed, the context cleared, and IDLE or OUT_OF_SERVICE. -/
def State.guardEnds (s : State) (n : LineNo) : State :=
  let s := s.completeRecord n
  let s := s.updLine n fun l => { l with releaseGuard := none, meterQual := none, ctx := none }
  if (s.line n).enabled then s.enterIdle n else s.leaveService n .command

end Sys2Proof.Machine
end

