-- ==== Sys2Proof/Machine/Evaluate.lean ====
section
/-!
DEFINITION. The dispatcher's evaluation (R125, R126): ready destinations are taken in the dispatch order, classified, and
refused or bound to the lowest-numbered line that can take one.
-/

namespace Sys2Proof.Machine

/-- The four lines in order. -/
def allLines : List LineNo := [0, 1, 2, 3]

/-- Whether a line can take a destination: IDLE with enable_out set (R125). -/
def Line.takesBind (l : Line) : Bool := l.state == .idle && l.config.enableOut

/-- The lowest-numbered line that can take a destination (R126). -/
def State.openLine (s : State) : Option LineNo := allLines.find? fun n => (s.line n).takesBind

/-- A destination that passed is bound to line `n` (R126): the reservation, the active counts, the bind, and IN_CALL. Its
last reason stands: a DESIGN CHOICE (log entry 49). -/
def State.bindDest (s : State) (n : LineNo) (c : Candidate) (r : Job) (x : Dest) (p : Pass) : State :=
  let s := (s.reserve.countCall r.desk p.pool (· + 1)).seize n c.job c.dest r.tag r.desk p
  s.setDest c.job c.dest { x with state := .inCall, line := some n, due := none, timer := false, calls := sat16 (x.calls + 1) }

/-- One ready destination taken (R125). -/
def State.dispatch (s : State) (n : LineNo) (c : Candidate) : State :=
  match s.job c.job, s.dest c.job c.dest with
  | some r, some x =>
    match s.classify r.desk x.dial with
    | .noRoute => s.refuseAtDispatch c .failed .noRoute
    | .barred => s.refuseAtDispatch c .failed .barred
    | .noFunds => s.refuseAtDispatch c .waitFunds .noFunds
    | .pass p => s.bindDest n c r x p
  | _, _ => s

/-- The steps of an evaluation, `k` at most: while a line can take a destination, a charge record place is free and a
destination is ready (R123, R125). -/
def evaluateSteps : Nat → State → State
  | 0, s => s
  | k + 1, s =>
    match s.openLine, s.nextCandidate with
    | some n, some c => if s.placeFree then evaluateSteps k (s.dispatch n c) else s
    | _, _ => s

/-- An evaluation (R125). Each step takes one of the 512 destinations out of readiness, so 513 steps reach its end. -/
def State.evaluate (s : State) : State := evaluateSteps 513 s

end Sys2Proof.Machine
end

