-- ==== Sys2Proof/Machine/Scan.lean ====
section
/-!
DEFINITION. The scan unit's operations (chapter 2): the correction and thresholding of a line, calibration, feeding, the
taking of lines, page ends, the memory pause and its resumption, and the session's end.
-/

namespace Sys2Proof.Machine

/-- The scan unit updated. -/
def State.updScn (s : State) (f : Scn → Scn) : State := { s with scn := f s.scn }

/-- The session fields updated, where a session runs. -/
def State.updScan (s : State) (f : ScanSession → ScanSession) : State :=
  s.updScn fun u => { u with session := u.session.map f }

/-! ## From samples to a line (R34 to R37) -/

/-- The corrected value of a sample (R34). -/
def corrected (dark gain sample : Nat) : Nat := min 255 (((sample - dark) * gain + 128) / 256)

/-- Whether a pixel of corrected value `v` over the background `b` is black, by the prior pixel (R36). -/
def blackPixel (c : ScanConfig) (prior : Bool) (b v : Nat) : Bool :=
  let bi := b / 256
  let t := bi * c.thr / 256
  let h := t * c.hys / 256
  if prior then decide (v + t ≤ bi + h) else decide (v + t + h ≤ bi)

/-- The classes of a line's columns, each pixel the prior of the next (R36). Values and backgrounds come in pairs. -/
def classifyLine (c : ScanConfig) : Bool → List (Nat × Nat) → PixelLine
  | _, [] => []
  | prior, (b, v) :: rest => let p := blackPixel c prior b v; p :: classifyLine c p rest

/-- The speck filter (R37). -/
def speckFilter (m : Nat) (l : PixelLine) : PixelLine :=
  expandRuns ((runsOf l).map fun r => if r.1 && decide (r.2 < m) then (false, r.2) else r)

/-- The background of a column the final line classes white (R37); the division rounds down. -/
def trackBackground (beta b v : Nat) : Nat := ((b : Int) + ((v * 256 : Int) - b) / (2 ^ beta : Int)).toNat

/-- The background after a final line: columns of the line that are white are tracked, the others kept (R37). -/
def trackLine (beta : Nat) : List Nat → List Nat → PixelLine → List Nat
  | b :: bs, v :: vs, p :: ps => (if p then b else trackBackground beta b v) :: trackLine beta bs vs ps
  | bs, _, _ => bs

/-- The corrected values of a line's samples (R34). -/
def Scn.correct (u : Scn) (samples : List Byte) : List Nat :=
  (samples.zip (u.dark.zip u.gain)).map fun x => corrected x.2.1 x.2.2 x.1.toNat

/-- The final line of a line's samples and the background after it (R34 to R37). -/
def Scn.process (u : Scn) (samples : List Byte) : PixelLine × List Nat :=
  let vs := u.correct samples
  let line := speckFilter u.config.speckMin (classifyLine u.config false (u.bg.zip vs))
  (line, trackLine u.config.beta u.bg vs line)

/-! ## Calibration (R28 to R33) -/

/-- The working gain of a column from its white and dark readings (R31). -/
def workingGain (target white dark : Nat) : Nat :=
  if dark < white then clampNat ((target * 256 + (white - dark) / 2) / (white - dark)) 64 1023 else 1023

/-- The expected white of a column under its new tables (R32). -/
def expectedWhite (white dark gain : Nat) : Nat := if dark < white then ((white - dark) * gain + 128) / 256 else 0

/-- The band of the calibration check (R32). -/
def ScanConfig.bandWidth (c : ScanConfig) : Nat := if c.large then c.target / 8 else c.target / 16

/-- Whether a column is weak (R32). -/
def weakColumn (c : ScanConfig) (white dark : Nat) : Bool :=
  let e := expectedWhite white dark (workingGain c.target white dark)
  decide (c.bandWidth < max e c.target - min e c.target)

/-- A pass of a calibration begins with empty working sums and its first line request (R29, R30). -/
def State.beginPass (s : State) (cal : Calibration) (lamp : Bool) : State :=
  s.updScn fun u =>
    { u with
      lamp := lamp, lineRequest := some Config.columns
      cal := some { cal with taken := 0, sums := List.replicate Config.columns 0 } }

/-- A calibration begins with its dark pass (R28). -/
def State.beginCalibration (s : State) : State :=
  (s.updScn fun u => { u with state := .calibrating, motor := .off }).beginPass {} false

/-- The working white table checked and the calibration's outcome (R31 to R33): the tables in force afterwards, the
valid flag and the weak count. -/
def Scn.conclude (u : Scn) (dark white : List Nat) : Scn × CalOutcome × Nat :=
  let cols := white.zip dark
  let weak := cols.countP fun x => weakColumn u.config x.1 x.2
  let v := { u with cal := none, lamp := false, lineRequest := none }
  if weak ≤ u.config.weakLimit then
    ({ v with dark := dark, gain := cols.map fun x => workingGain u.config.target x.1 x.2, valid := true }, .installed, weak)
  else (v, .calFail, weak)

/-! ## Page opening and feeding (R39, R40, R45) -/

/-- A pause for memory (R45): the refused request stays pending, the motor stops, the lamp is on and the memory wait
runs unless scan_wait is 0. -/
def State.pauseScan (s : State) (q : ScanRequest) (back : ScanState) : State :=
  let s := { s with pmm := { s.pmm with pendingScan := some q } }
  s.updScn fun u =>
    { u with
      state := .pausedMemory, motor := .off, lamp := true, lineRequest := none
      session := u.session.map fun x =>
        { x with
          resume := some back, jamTimer := none
          memWait := if u.config.scanWait = 0 then none else some u.config.scanWait } }

/-- The next page line is requested (R25, R41). -/
def State.requestLine (s : State) : State :=
  s.updScn fun u => { u with lineRequest := u.session.map (·.width) }

/-- SCANNING is entered with the page open (R40). -/
def State.enterScanning (s : State) : State :=
  ((s.updScan fun x => { x with jamTimer := none, feeding := false, resume := none }).updScn fun u =>
    { u with state := .scanning, motor := .perLine, lamp := true }).requestLine

/-- The session's next page is opened (R39, R57): the line coder takes it and the background is reseeded (R35). The
answer is whether it was opened. -/
def State.openScanPage (s : State) (x : ScanSession) : State × Bool :=
  match s.openPage
    { filler := .scn, document := x.document, source := .scan, slot := x.slot, coding := x.coding, width := x.width,
      density := x.density, uncalibrated := !s.scn.valid } with
  | (s, .error _) => (s, false)
  | (s, .ok r) =>
    let s := s.takeCoderPage r x.slot x.coding x.width
    ((s.updScan fun x => { x with page := some r, lineCount := 0, ending := none }).updScn fun u =>
      { u with bg := List.replicate Config.columns (u.config.target * 256) }, true)

/-- A sheet's page is open and the feed runs (R40): motor, lamp and jam timer, or SCANNING at once under the edge. -/
def State.runFeed (s : State) : State :=
  let s := (s.updScan fun x => { x with feeding := true, jamTimer := some 5, memWait := none, resume := none }).updScn
    fun u => { u with state := .waitPaper, motor := .running, lamp := true, lineRequest := none }
  if s.scn.edge then s.enterScanning else s

/-- The feeding phase of WAIT_PAPER begins (R40), or the open refused pauses the session (R45). -/
def State.feed (s : State) : State :=
  match s.scn.session with
  | none => s
  | some x =>
    match s.openScanPage x with
    | (s, true) => s.runFeed
    | (s, false) => (s.updScan fun x => { x with feeding := true, page := none }).pauseScan .openPage .waitPaper

/-- WAIT_PAPER is entered (R40): waiting, or feeding at once with a sensor active. -/
def State.waitPaper (s : State) : State :=
  let s := (s.updScan fun x => { x with feeding := false }).updScn fun u =>
    { u with state := .waitPaper, motor := .off, lamp := false, lineRequest := none }
  if s.scn.tray || s.scn.edge then s.feed else s

/-- A calibration line is taken (R29, R30, R33). -/
def State.takeCalLine (s : State) (samples : List Byte) : State :=
  match s.scn.state, s.scn.cal, s.scn.lineRequest with
  | .calibrating, some c, some n =>
    if n ≤ samples.length then
      let c := { c with taken := c.taken + 1, sums := List.zipWith (fun (a : Nat) (b : Byte) => a + b.toNat) c.sums samples }
      let cfg := s.scn.config
      match c.pass with
      | .dark =>
        if c.taken < cfg.nDark then s.updScn fun u => { u with cal := some c }
        else s.beginPass { pass := .white, dark := c.sums.map (· / cfg.nDark) } true
      | .white =>
        if c.taken < cfg.nWhite then s.updScn fun u => { u with cal := some c }
        else
          let (u, o, weak) := s.scn.conclude c.dark (c.sums.map (· / cfg.nWhite))
          let s := { s with scn := u }.raise (.calResult o weak)
          if s.scn.session.isSome then s.waitPaper else s.updScn fun u => { u with state := .idle }
    else s
  | _, _, _ => s

/-! ## The session's end (R48) -/

/-- The session ends (R48): the filler unbinds, the document is closed where the ending rule says so, and SCAN_END. The
page count it carries is the document's just before the close, which may free it: a DESIGN CHOICE (log entry 45). -/
def State.endScan (s : State) (reason : ScanReason) (close : Bool) : State :=
  match s.scn.session with
  | none => s
  | some x =>
    let s := { s with pmm := { s.pmm with pendingScan := none } }
    let s := s.unbind x.document
    let count := (s.doc x.document).pages.length
    let s := if close then s.closeDoc x.document else s
    let s := s.leaveCoderPage.updLcd fun l => { l with mode := .idle }
    let s := s.updScn fun u =>
      { u with state := .idle, motor := .off, lamp := false, lineRequest := none, session := none, cal := none }
    s.raise (.scanEnd reason x.document x.completed count)

/-! ## Page ends (R42, R43) -/

/-- The pages of the session's document. -/
def State.scanPages (s : State) : Nat := (s.scn.session.map fun x => (s.doc x.document).pages.length).getD 0

/-- After a sheet's end (R42): the tray decides. -/
def State.sheetEnded (s : State) : State :=
  if !s.scn.tray then s.endScan .scanDone true
  else if Config.pagesPerDoc ≤ s.scanPages then s.endScan .docFull false
  else s.feed

/-- After a page's completion (R42, R43). -/
def State.pageEnded (s : State) (e : PageEnd) : State :=
  match e with
  | .edge => s.sheetEnded
  | .length =>
    if !s.scn.edge then s.sheetEnded
    else if Config.pagesPerDoc ≤ s.scanPages then s.endScan .docFull false
    else match s.scn.session with
      | none => s
      | some x =>
        match s.openScanPage x with
        | (s, true) => s.enterScanning
        | (s, false) => (s.updScan fun x => { x with page := none }).pauseScan .openPage .scanning

/-- The page's last byte is stored: the page completes and the session goes on (R42, R43, R59). -/
def State.scanPageDone (s : State) (e : PageEnd) : State :=
  ((s.completeCoderPage).updScan fun x => { x with completed := x.completed + 1, page := none, ending := none }).pageEnded e

/-- A page ends (R42, R43): the last byte padded, or the pause until it can be stored. -/
def State.finishScanPage (s : State) (e : PageEnd) : State :=
  match s.padPage with
  | (s, true) => s.scanPageDone e
  | (s, false) => (s.updScan fun x => { x with ending := some e }).pauseScan .grant .scanning

/-- A line is stored whole (R41): the page ends by its length or by the edge, or the next line is requested. -/
def State.afterScanLine (s : State) : State :=
  match s.scn.session with
  | none => s
  | some x =>
    if x.density.maxLines ≤ x.lineCount then s.finishScanPage .length
    else if s.scn.edge then s.requestLine
    else s.finishScanPage .edge

/-- The motor steps of a line (R25). -/
def Density.motorSteps : Density → Nat
  | .fine => 1
  | .std => 2

/-- A page line is taken (R41): processed, handed to the line coder, counted, and the motor stepped. -/
def State.takeScanLine (s : State) (samples : List Byte) : State :=
  match s.scn.state, s.scn.session, s.scn.lineRequest with
  | .scanning, some x, some n =>
    if n ≤ samples.length then
      let (line, bg) := s.scn.process (samples.take n)
      let s := s.updScn fun u =>
        { u with bg := bg, lineRequest := none, motorSteps := u.motorSteps + x.density.motorSteps }
      let s := s.updScan fun x => { x with lineCount := x.lineCount + 1 }
      match s.codeLine line with
      | (s, true) => s.afterScanLine
      | (s, false) => s.pauseScan .grant .scanning
    else s
  | _, _, _ => s

/-! ## Resumption (R18, R45) -/

/-- A pending segment grant succeeds (R18, R45): the held line or padding byte goes on, and may be refused again. -/
def State.resumeGrant (s : State) : State :=
  let s := (s.updScan fun x => { x with memWait := none, resume := none }).updScn fun u =>
    { u with state := .scanning, motor := .perLine }
  match s.tryHeld with
  | (s, false) => s.pauseScan .grant .scanning
  | (s, true) =>
    match s.scn.session.bind (·.ending) with
    | some e => s.scanPageDone e
    | none => s.afterScanLine

/-- The pending scan request is tried again under the rule that refused it (R18). -/
def State.retryScan (s : State) : State :=
  match s.pmm.pendingScan, s.scn.session with
  | some .grant, some _ =>
    if Source.scan.grantAllowed s.freeCount then { s with pmm := { s.pmm with pendingScan := none } }.resumeGrant else s
  | some .openPage, some x =>
    match s.freePageRecord with
    | none => s
    | some _ =>
      match { s with pmm := { s.pmm with pendingScan := none } }.openScanPage x with
      | (_, false) => s
      | (s, true) =>
        let s := s.updScan fun x => { x with memWait := none }
        if x.resume = some .scanning then s.enterScanning else s.runFeed
  | _, _ => s

/-- The page in progress, if one is open, is fully discarded and the pending request withdrawn (R44, R46, R47). -/
def State.discardScanPage (s : State) : State := { s with pmm := { s.pmm with pendingScan := none } }.discardCoderPage

end Sys2Proof.Machine
end

