-- ==== Sys2Proof/Machine/Session.lean ====
section
/-!
DEFINITION. The session protocol (chapter 5): the caller's and the callee's exchanges, training and data phases, the
frames taken in each stage, and the frame reply timer.
-/

namespace Sys2Proof.Machine

/-! ## Closing (R114, R115) -/

/-- The release reason of a close cause (R114). -/
def CloseCause.reason : CloseCause → EndReason
  | .lastPage | .closingFlag => .completed
  | .noCommonCode => .noCommonCode
  | .declined r => .declined r

/-- The caller closes with END (R114). -/
def State.closeWith (s : State) (n : LineNo) (cause : CloseCause) : State :=
  (((s.enterState n .closing).updSess n fun x => { x with closeCause := some cause, stage := .waitEndAck }).sendRequest n
    (.endCall (s.ctx n).confirmed))

/-- The callee's release reason after END (R115). -/
def Session.lingerReason (x : Session) : EndReason :=
  match x.declined with
  | some r => .declined r
  | none => if x.memExhausted && x.storedReply.isSome then .memory else .completed

/-! ## Sending pages (R105, R106, R113) -/

/-- The document of line `n`'s job. -/
def State.jobDocument (s : State) (n : LineNo) : Option Nat :=
  (s.ctx n).job.bind fun jd => (s.job jd.1).map (·.document)

/-- PAGE_HEAD, DATA_START and the training bound for the page and attempt at hand (R105, R106). -/
def State.announce (s : State) (n : LineNo) : State :=
  let x := s.ctx n
  let step := (s.sess n).step
  let s := s.sendFrame n (.pageHead (x.page.getD 0) (x.attempt.getD 0) step)
  ((s.startPhase n step .send).enterStage n .training).startReply n

/-- The transmission reader of session page `m` acquired at attempt 1 and kept through a RESEND (R105). -/
def State.takeReader (s : State) (n : LineNo) (m attempt : Nat) : State :=
  if attempt = 1 then
    match (s.jobDocument n).bind fun d => s.docPage d ((s.sess n).base + m) with
    | some p =>
      let r := s.acquire .transmission p
      r.1.updSess n fun x => { x with reader := r.2, trainFails := 0 }
    | none => s.updSess n fun x => { x with trainFails := 0 }
  else s

/-- Session page `m` begins (R105). -/
def State.beginPage (s : State) (n : LineNo) (m attempt : Nat) : State :=
  let s := (s.takeReader n m attempt).updCtx n fun x => { x with page := some m, attempt := some attempt }
  let s := match (s.sess n).reader with
    | some r => s.chooseWork n r
    | none => s
  s.announce n

/-- The current step lowered by one, or left at 0 (R106, R113). -/
def State.lowerStep (s : State) (n : LineNo) : State := s.updSess n fun x => { x with step := x.step - 1 }

/-- A training failure at the caller (R106). -/
def State.callerTrainFailed (s : State) (n : LineNo) : State :=
  let s := s.updSess n fun x => { x with trainFails := x.trainFails + 1 }
  if 2 ≤ (s.sess n).trainFails then s.releaseCall n .trainFail
  else (((s.endPhase n).lowerStep n).announce n)

/-- The page is sent (R105): DATA_STOP, then PAGE_TAIL as a request; a recoded attempt adds its replaced lines. -/
def State.sendTail (s : State) (n : LineNo) : State :=
  let (l, b, c) := s.tailValues n
  let q := (s.line n).codec
  ((s.endPhase n).updSess n fun x => { x with stage := .waitAck, recoded := x.recoded + q.replaced }).sendRequest n
    (.pageTail l b c)

/-- The send data phase goes on (R78): with the link free and the pace interval run out, the codec's next byte starts;
after the last byte has been carried the page is sent. -/
def State.sendProgress (s : State) (n : LineNo) : State :=
  let l := s.line n
  match l.phase with
  | some p =>
    if p.dir = .send ∧ p.ready = true ∧ (s.sess n).stage = .sendingData ∧ l.tx = [] then
      match s.nextByte n with
      | some b =>
        if l.pace.isNone then
          ((s.sendChars n [.data b]).updCodec n (·.handed b)).updLine n fun l => { l with pace := some 8 }
        else s
      | none => s.sendTail n
    else s
  | none => s

/-! ## Negotiation (R101 to R104) -/

/-- The slot and number the caller chooses from those the callee holds: the page slot first (R101). -/
def State.commonCode (s : State) (codes : List Nat) : Option (Nat × Nat) :=
  let k := s.lcd.config.slot
  [k, 1 - k].findSome? fun k => (s.codeSet k).bind fun c => if codes.contains c.number then some (k, c.number) else none

/-- The pages of a document. -/
def State.docPages (s : State) (d : Nat) : List PageRec := (s.doc d).pages.map s.page

/-- The CHOOSE a caller builds from an OFFER and a chosen number (R101). -/
def State.chooseFields (s : State) (n : LineNo) (d remaining number : Nat) (f : OfferFields) : ChooseFields :=
  let st := (s.ctx n).params.station
  let gs := s.docPages d
  { tag := st.tag
    code := number
    coding := if f.diff then st.k else 0
    width := min f.maxWidth (gs.foldl (fun w g => max w g.width) 0)
    density := if (gs.all fun g => g.density == .fine) && f.fine then 1 else 0
    step := min f.maxStep (s.line n).config.maxStep
    pages := remaining }

/-- The negotiated parameters of a choice; the station values stand as copied (R93, R97). -/
def Negotiated.choice (x : Negotiated) (f : ChooseFields) : Negotiated :=
  { x with
    code := f.code, coding := Coding.ofCode f.coding, width := f.width
    density := (Density.ofCode f.density).getD .std, step := f.step, pages := f.pages }

/-- The caller takes an OFFER in WAIT_OFFER (R101). -/
def State.takeOffer (s : State) (n : LineNo) (f : OfferFields) : State :=
  let s := (s.answered n).updSess n fun x => { x with farTag := f.tag }
  let d := (s.jobDocument n).getD 0
  let remaining := (s.doc d).pages.length - (s.sess n).base
  if !f.receiveOk then s.closeWith n (.declined .notReceiving)
  else if f.maxPages < remaining then s.closeWith n (.declined .unsupported)
  else match s.commonCode f.codes with
    | none => s.closeWith n .noCommonCode
    | some (k, number) =>
      let g := s.chooseFields n d remaining number f
      let s := s.updCtx n fun x => { x with params := x.params.choice g }
      let s := s.updSess n fun x => { x with step := g.step, stage := .waitReply }
      (s.updCodec n fun _ => Codec.bound k).sendRequest n (.choose g)

/-- The caller takes ACCEPT in WAIT_REPLY (R104). -/
def State.takeAccept (s : State) (n : LineNo) : State :=
  let s := s.answered n
  if (s.ctx n).closing then s.closeWith n .closingFlag else (s.enterState n .sending).beginPage n 1 1

/-- The caller takes a DECLINE (R104, R108). -/
def State.takeDecline (s : State) (n : LineNo) (r : DeclineReason) : State :=
  let s := ((s.answered n).endPhase n).dropTransmission n
  (s.updCodec n Codec.idle).closeWith n (.declined r)

/-- The caller takes the PAGE_ACK of its current page in WAIT_ACK (R113). -/
def State.takePageAck (s : State) (n : LineNo) (v : Verdict) : State :=
  let s := s.answered n
  let x := s.ctx n
  let m := x.page.getD 0
  match v with
  | .resend =>
    if x.attempt = some 1 then (s.lowerStep n).beginPage n m 2 else s.releaseCall n .protocolTimeout
  | .keep | .keepPoor =>
    let s := ((s.updCtx n fun x => { x with confirmed := x.confirmed + 1 }).dropTransmission n).updCodec n Codec.idle
    if m = x.params.pages then s.closeWith n .lastPage
    else if x.closing then s.closeWith n .closingFlag
    else s.beginPage n (m + 1) 1

/-- The caller takes END_ACK in WAIT_END_ACK (R114). -/
def State.takeEndAck (s : State) (n : LineNo) : State :=
  (s.answered n).releaseCall n (((s.sess n).closeCause.map CloseCause.reason).getD .completed)

/-! ## The callee's answer to CHOOSE (R102, R103) -/

/-- Whether the callee can take a choice under the OFFER it sent (R102). -/
def State.choiceSupported (s : State) (o : OfferFields) (f : ChooseFields) : Bool :=
  (s.slotOf f.code).isSome && widthOk f.width && decide (f.width ≤ o.maxWidth) &&
    (match Density.ofCode f.density with
     | some .std => o.std
     | some .fine => o.fine
     | none => false) &&
    decide (f.coding ≤ 8) && decide (f.step ≤ o.maxStep) && decide (1 ≤ f.pages) && decide (f.pages ≤ 64)

/-- The callee declines the CHOOSE (R102): stored reply, release reason and stage DECLINED under the watch. -/
def State.declineChoose (s : State) (n : LineNo) (r : DeclineReason) : State :=
  (((s.sendStored n (.decline r.code)).updSess n fun x => { x with declined := some r }).enterWatch n .declined)

/-- A choice that passes is accepted (R103), its call counted as active for the route's desk (R164), or declined
NO_MEMORY where the router answers shortage. The callee's current step becomes the choice's: a DESIGN CHOICE (log entry
48). -/
def State.acceptChoose (s : State) (n : LineNo) (f : ChooseFields) : State :=
  let s := match s.slotOf f.code with
    | some k => s.updCodec n fun _ => Codec.bound k
    | none => s
  let s := s.updCtx n fun x => { x with params := x.params.choice f }
  let s := s.updSess n fun x => { x with step := f.step }
  match s.routeRequest n (s.ctx n).callId f.tag with
  | (s, none) =>
    ((s.updCodec n fun _ => {}).updSess n fun x => { x with memExhausted := true }).declineChoose n .noMemory
  | (s, some (d, p)) =>
    let s := (s.countCall d p (· + 1)).updCtx n fun x => { x with desk := some d, pool := p, counted := some (d, p) }
    ((s.sendStored n .accept).enterState n .receiving).enterWatch n .waitHead

/-- The callee takes its first CHOOSE in OFFERED (R102): the sender tag is kept whether it is accepted or declined. -/
def State.firstChoose (s : State) (n : LineNo) (f : ChooseFields) : State :=
  let s := (s.answered n).updSess n fun x => { x with farTag := f.tag }
  let s := s.updCtx n fun x => { x with senderTag := some f.tag }
  match (s.sess n).offered with
  | none => s
  | some o =>
    if !o.receiveOk then s.declineChoose n .notReceiving
    else if s.choiceSupported o f then s.acceptChoose n f
    else s.declineChoose n .unsupported

/-- The stages with a watch (R99). -/
def Stage.watched : Stage → Bool
  | .declined | .waitHead | .waitTail => true
  | _ => false

/-- A frame is taken in the stage at hand: a watch restarts (R99). -/
def State.rewatch (s : State) (n : LineNo) : State :=
  if (s.sess n).stage.watched then (s.updSess n fun x => { x with expiries := 0 }).startReply n else s

/-- A stored reply sent again (R99). -/
def State.repeatStored (s : State) (n : LineNo) (f : Frame) : State := (s.sendFrame n f).rewatch n

/-- The callee takes a CHOOSE: the first in OFFERED, and later ones answered from the stored ACCEPT or DECLINE (R99). -/
def State.takeChoose (s : State) (n : LineNo) (f : ChooseFields) : State :=
  match (s.sess n).stage, (s.sess n).storedReply with
  | .offered, _ => s.firstChoose n f
  | _, some .accept => s.repeatStored n .accept
  | _, some (.decline r) => s.repeatStored n (.decline r)
  | _, _ => s

/-! ## Receiving pages (R107 to R112) -/

/-- Verification and training for a PAGE_HEAD taken (R107). The callee's current step becomes the PAGE_HEAD's: a DESIGN
CHOICE (log entry 48). -/
def State.beginAttempt (s : State) (n : LineNo) (m attempt step : Nat) : State :=
  let s := s.updCtx n fun x => { x with page := some m, attempt := some attempt }
  let s := s.updSess n fun x => { x with step := step, headSince := true, stage := .training, expiries := 0 }
  ((s.updCodec n Codec.verifying).startPhase n step .receive).startReply n

/-- DECLINE NO_MEMORY in answer to a PAGE_HEAD (R107): WAIT_HEAD, and the watch restarts. -/
def State.declineHead (s : State) (n : LineNo) : State :=
  (((s.updSess n fun x => { x with memExhausted := true }).sendStored n
    (.decline DeclineReason.noMemory.code)).enterWatch n .waitHead)

/-- A new page (R107). -/
def State.newPage (s : State) (n : LineNo) (m step : Nat) : State :=
  if (s.sess n).memExhausted then s.declineHead n
  else match tget s.rtr.reception n.val none with
    | none => s
    | some r =>
      let x := s.ctx n
      match s.openPage
        { filler := .lch n, document := r.document, source := .received, slot := (s.line n).codec.slot.getD 0,
          coding := x.params.coding, width := x.params.width, density := x.params.density } with
      | (s, .ok p) => (s.updSess n fun x => { x with page := some p }).beginAttempt n m 1 step
      | (s, .error .noRecord) => s.declineHead n
      | (s, .error _) => s

/-- Whether the stored reply is a RESEND for page `m` not yet followed by a PAGE_HEAD (R99, R107). -/
def Session.resendStands (x : Session) (m : Nat) : Bool :=
  !x.headSince && (match x.storedReply with
    | some (.pageAck k v _) => k == m && v == Verdict.resend.code
    | _ => false)

/-- The stages in which a PAGE_HEAD is taken, the phase ended by FRAME_BEGIN (R107, R110). -/
def Stage.takesHead : Stage → Bool
  | .waitHead | .training | .receivingData | .waitTail => true
  | _ => false

/-- The callee takes a PAGE_HEAD (R107): restart, second attempt, new page, or discarded. A frame (settled + 1, attempt 1)
for the page in progress is never a new page, memory exhausted or not: it is a restart at attempt 1 and discarded at
attempt 2 (DEDUCED, log entry 17). -/
def State.takePageHead (s : State) (n : LineNo) (m attempt step : Nat) : State :=
  let x := s.ctx n
  let t := s.sess n
  if t.role = .callee ∧ t.stage.takesHead = true then
    if t.headSince = true ∧ x.page = some m ∧ x.attempt = some attempt then
      let s := match t.page with
        | some r => if 0 < (s.page r.page).byteCount then s.resetDiscard r else s
        | none => s
      s.beginAttempt n m attempt step
    else if x.page = some m ∧ attempt = 2 ∧ t.resendStands m = true then s.beginAttempt n m 2 step
    else if m = t.settled + 1 ∧ m ≤ x.params.pages ∧ attempt = 1 ∧ x.page ≠ some m then s.newPage n m step
    else s
  else s

/-- The bad count of R111. -/
def badCount (q : Codec) (lines : Nat) : Nat := min 65535 (q.bad + (max q.found lines - min q.found lines))

/-- The keep test of R111. -/
def State.keepTest (s : State) (n : LineNo) (g : PageRec) (lines bytes : Nat) (check : BitVec 16) : Bool :=
  let q := (s.line n).codec
  let st := (s.ctx n).params.station
  decide (badCount q lines * 64 ≤ lines * st.keepRatio) && decide (q.longest ≤ st.maxConsec) && g.check == check &&
    g.byteCount == bytes

/-- The verdict of R111. -/
def verdictOf (damaged pass : Bool) (attempt : Nat) : Verdict :=
  if damaged then .keepPoor else if pass then .keep else if attempt = 1 then .resend else .keepPoor

/-- The page settled by its verdict (R112). -/
def State.settleVerdict (s : State) (r : PageRef) (v : Verdict) (lines bad : Nat) : State :=
  match v with
  | .keep => s.completePage r lines bad
  | .keepPoor => s.completePage r lines bad true
  | .resend => s.resetDiscard r

/-- The callee judges the attempt in progress at its PAGE_TAIL, settles the page and answers (R111, R112). -/
def State.judge (s : State) (n : LineNo) (lines bytes : Nat) (check : BitVec 16) : State :=
  match (s.sess n).page with
  | none => s
  | some r =>
    let x := s.ctx n
    let bad := badCount (s.line n).codec lines
    let g := s.page r.page
    let v := verdictOf (g.state == .damaged) (s.keepTest n g lines bytes check) (x.attempt.getD 0)
    let s := s.settleVerdict r v lines bad
    let s := if v = .resend then s else s.updSess n fun t => { t with settled := t.settled + 1, page := none }
    ((s.updCodec n Codec.idle).sendStored n (.pageAck (x.page.getD 0) v.code bad)).enterWatch n .waitHead

/-- The callee takes a PAGE_TAIL (R110, R99). -/
def State.takePageTail (s : State) (n : LineNo) (lines bytes : Nat) (check : BitVec 16) : State :=
  let t := s.sess n
  match t.stage with
  | .waitTail => s.judge n lines bytes check
  | .waitHead =>
    match t.storedReply with
    | some (.pageAck m v b) => if t.headSince then s else s.repeatStored n (.pageAck m v b)
    | _ => s
  | _ => s

/-- The callee takes END (R115). -/
def State.takeEnd (s : State) (n : LineNo) (pages : Nat) : State :=
  match (s.sess n).stage with
  | .waitHead | .waitTail | .offered | .declined =>
    let s := ((s.answered n).sendFrame n .endAck).enterState n .closing
    (s.updSess n fun t => { t with stage := .linger, endPages := some pages }).startReply n
  | .linger => s.sendFrame n .endAck
  | _ => s

/-! ## Frames (R96, R110) -/

/-- A frame is taken by the station's role and stage, or discarded (R96, R99). -/
def State.takeFrame (s : State) (n : LineNo) (f : Frame) : State :=
  let t := s.sess n
  match t.role, f with
  | .caller, .offer f => if t.stage = .waitOffer then s.takeOffer n f else s
  | .caller, .accept => if t.stage = .waitReply then s.takeAccept n else s
  | .caller, .decline r =>
    match t.stage, DeclineReason.ofCode r with
    | .waitReply, some r | .training, some r | .sendingData, some r | .waitAck, some r => s.takeDecline n r
    | _, _ => s
  | .caller, .pageAck m v _ =>
    match Verdict.ofCode v with
    | some v => if t.stage = .waitAck ∧ (s.ctx n).page = some m then s.takePageAck n v else s
    | none => s
  | .caller, .endAck => if t.stage = .waitEndAck then s.takeEndAck n else s
  | .callee, .choose f => s.takeChoose n f
  | .callee, .pageHead m a st => s.takePageHead n m a st
  | .callee, .pageTail l b c => s.takePageTail n l b c
  | .callee, .endCall p => s.takeEnd n p
  | _, _ => s

/-- FRAME_BEGIN from the pump in a session state (R77, R78, R110): a receive phase ends with DATA_STOP, data that flowed
takes the callee to WAIT_TAIL, and a fresh body opens. -/
def State.openFrame (s : State) (n : LineNo) : State :=
  if (s.line n).state.takesFrames then
    let s := match (s.line n).phase with
      | some { dir := .receive, step := _, ready := true } => (s.endPhase n).enterWatch n .waitTail
      | some { dir := .receive, step := _, ready := false } => s.endPhase n
      | _ => s
    s.updLine n fun l => { l with frame := some {} }
  else s

/-- A frame's arrival at the session protocol (R77, R96): taken in the session states when its fields are in range. -/
def State.frameArrives (s : State) (n : LineNo) (f : Frame) : State :=
  if (s.line n).state.takesFrames && Frame.inRange f then s.takeFrame n f else s

/-- A whole frame is delivered (R77): where no body is open yet its FRAME_BEGIN comes first, and the body closes. -/
def State.deliver (s : State) (n : LineNo) (f : Frame) : State :=
  let s := if (s.line n).frame.isNone then s.openFrame n else s
  (s.updLine n fun l => { l with frame := none }).frameArrives n f

/-- FRAME_END from the pump (R77): the body closes and, unless marked, is read as a frame. -/
def State.closeFrame (s : State) (n : LineNo) : State :=
  match (s.line n).frame with
  | none => s
  | some b =>
    let s := s.updLine n fun l => { l with frame := none }
    if b.marked then s
    else match Frame.ofBytes b.bytes with
      | some f => s.frameArrives n f
      | none => s

/-! ## Data phases (R77, R78, R109) -/

/-- A page character of a receive data phase (R109): appended, or the page damaged for want of memory, and verified. -/
def State.receiveByte (s : State) (n : LineNo) (b : Byte) (marked : Bool) : State :=
  let s := match (s.sess n).page with
    | none => s
    | some r =>
      match s.append r b with
      | (s, .noSegment) => (s.updSess n fun t => { t with memExhausted := true }).damageReceived n r
      | (s, _) => s
  s.verifyChar n b marked

/-- A data character from the pump (R77, R78): into an open body, to the page being received, or discarded. -/
def State.takeData (s : State) (n : LineNo) (b : Byte) (marked : Bool) : State :=
  let l := s.line n
  match l.frame with
  | some f =>
    if f.bytes.length < 128 then
      s.updLine n fun l => { l with frame := some { bytes := f.bytes ++ [b], marked := f.marked || marked } }
    else s.updLine n fun l => { l with frame := none }
  | none =>
    match l.phase with
    | some { dir := .receive, step := _, ready := true } => s.receiveByte n b marked
    | _ => s

/-- DATA_READY from the pump while a phase awaits training (R78, R105, R107). -/
def State.phaseReady (s : State) (n : LineNo) : State :=
  match (s.line n).awaiting with
  | some p =>
    let s := (s.updLine n fun l => { l with phase := some { p with ready := true } }).stopReply n
    match p.dir with
    | .send => (s.enterStage n .sendingData).sendProgress n
    | .receive => s.enterStage n .receivingData
  | none => s

/-- The training of the attempt at hand fails at this station (R106). -/
def State.trainingFailed (s : State) (n : LineNo) : State :=
  match (s.sess n).role with
  | .caller => s.callerTrainFailed n
  | .callee => (s.endPhase n).enterWatch n .waitHead

/-- TRAIN_FAIL from the pump while a phase awaits training (R78, R106). -/
def State.phaseFails (s : State) (n : LineNo) : State :=
  match (s.line n).awaiting with
  | some _ => s.trainingFailed n
  | none => s

/-- The training bound expires (R106): a failure, after which a phase renewed by the caller is marked as such. -/
def State.trainingExpires (s : State) (n : LineNo) : State :=
  (s.trainingFailed n).updLine n fun l => { l with renewed := l.phase.isSome }

/-- CARRIER_LOST in a session state (R88, R115). -/
def State.loseCarrier (s : State) (n : LineNo) : State :=
  if (s.line n).state.takesFrames then
    let t := s.sess n
    s.releaseCall n (if t.role = .callee ∧ t.stage = .linger then t.lingerReason else .carrierLost)
  else s

/-! ## The frame reply timer (R98, R99, R106, R115) -/

/-- A request's wait ends (R98): sent again below three sendings, or the end of the wait. -/
def State.requestExpires (s : State) (n : LineNo) (reason : EndReason) : State :=
  match (s.sess n).request with
  | none => s
  | some q =>
    if q.sent < 3 then
      ((s.sendFrame n q.frame).updSess n fun t => { t with request := some { q with sent := q.sent + 1 } }).startReply n
    else s.releaseCall n reason

/-- An expiry counted by a wait that sends nothing (R98, R99): the third asks for the release. -/
def State.watchExpires (s : State) (n : LineNo) : State :=
  let k := (s.sess n).expiries + 1
  if 3 ≤ k then s.releaseCall n .protocolTimeout
  else (s.updSess n fun t => { t with expiries := k }).startReply n

/-- The frame reply timer expires (R98, R99, R106, R115). -/
def State.replyExpires (s : State) (n : LineNo) : State :=
  if (s.line n).frameReply.isSome then
    let s := s.stopReply n
    let t := s.sess n
    match t.stage with
    | .waitOffer | .declined | .waitHead | .waitTail => s.watchExpires n
    | .waitReply | .waitAck | .offered => s.requestExpires n .protocolTimeout
    | .waitEndAck => s.requestExpires n ((t.closeCause.map CloseCause.reason).getD .completed)
    | .training => s.trainingExpires n
    | .linger => s.releaseCall n t.lingerReason
    | .sendingData | .receivingData => s
  else s

end Sys2Proof.Machine
end

