-- ==== Sys2Proof/Machine/Settle.lean ====
section
/-!
DEFINITION. How an event ends: the reports the blocks owe each other are worked off in order (log entry 8), and the
upstream selector chooses a block when the link is free (R187). Also the frame that heeds commands and events outside a
hard reset (R192).
-/

namespace Sys2Proof.Machine

/-! ## Reports -/

/-- What a block does on a report (R18, R123, R124, R132, R153, R155, R159). -/
def State.handle (s : State) : Report → State
  | .pageFinal d i => s.printPageFinal d i
  | .docClosed d n => (s.jobDocClosed d n).printDocClosed d n
  | .docFreed d send print =>
    let s := if send then s.jobDocFreed d else s
    if print then s.printDocFreed d else s
  | .memoryFreed => s.retryScan
  | .evaluate => s.evaluate
  | .fundsChanged k => s.jobFundsChanged k
  | .arbiter => s.arbiterChoice
  | .boundary => s.pageBoundary

/-- The reports owed, worked off first come first served, `k` at most. -/
def drain : Nat → State → State
  | 0, s => s
  | k + 1, s =>
    match s.reports with
    | [] => s
    | r :: rs => drain k ({ s with reports := rs }.handle r)

/-- More reports than any one event can owe: each page of each copy of each of the 32 entries may pass at once. -/
def drainBound : Nat := 100000

/-! ## The upstream selector (R187) -/

/-- The bytes of DATA block number `k` of a fetch: at most 4096 of the page's bytes (R22). -/
def State.fetchBytes (s : State) (f : Fetch) (k : Nat) : List Byte :=
  ((s.pageBytes f.page).drop (4096 * k)).take 4096

/-- The running fetch's next DATA block, if one is left (R22, R187). -/
def State.selectFetch (s : State) : State :=
  match s.pmm.fetch with
  | some f =>
    if f.next < f.blocks then
      { s with
        pmm := { s.pmm with fetch := some { f with next := f.next + 1 } }
        bli := { s.bli with sending := some (.data f.tag (s.fetchBytes f f.next)) } }
    else s
  | none => s

/-- The upstream selector (R187): with nothing being sent, the next block by source. A record stays in its queue until
its block has been sent whole (R181). -/
def State.select (s : State) : State :=
  if s.bli.sending.isSome then s
  else match s.bli.replies with
    | r :: rs => { s with bli := { s.bli with replies := rs, sending := some (.reply r) } }
    | [] =>
      match s.chg.queue with
      | c :: _ => { s with bli := { s.bli with sending := some (.record c) } }
      | [] =>
        match s.bli.status with
        | some b => { s with bli := { s.bli with status := none, sending := some (.status b) } }
        | none =>
          match s.bli.notices with
          | m :: ms => { s with bli := { s.bli with notices := ms, sending := some (.notice m) } }
          | [] => s.selectFetch

/-- The end of an event: the reports are worked off, then the selector chooses. -/
def State.finish (s : State) : State := { (drain drainBound s).select with reports := [] }

/-! ## Heeding -/

/-- An event heeded: during a hard reset nothing is (R192). -/
def State.heed (s : State) (f : State → State) : Host.Outcome State Fault Refusal :=
  .next (if s.inReset then s else (f { s with reports := [] }).finish)

/-- A command of the board controller heeded: its block has been parsed whole, so the parser is in HUNT (R183). -/
def State.command (s : State) (f : State → State) : Host.Outcome State Fault Refusal :=
  s.heed fun s => f { s with bli := { s.bli with rx := {} } }

/-- A command with fields: a body that does not agree with its layout is answered BAD_FIELD (R184). -/
def State.commandArgs {α : Type} (s : State) (tag code : Nat) (a : Args α) (f : α → State → State) :
    Host.Outcome State Fault Refusal :=
  s.command fun s =>
    match a with
    | .fields x => f x s
    | .malformed => s.reply tag code .badField

/-- A pin takes its level at any time, and is acted on outside a hard reset (R192). -/
def State.pin (s : State) (set : State → State) (f : State → State) : Host.Outcome State Fault Refusal :=
  .next (if s.inReset then set s else (f (set { s with reports := [] })).finish)

end Sys2Proof.Machine
end

