-- ==== Sys2Proof/Machine/Link.lean ====
section
/-!
DEFINITION. The board link interface (chapter 10): the receive parser byte by byte, the events of the link, and the link's
own commands.
-/

namespace Sys2Proof.Machine

/-- The board link interface updated. -/
def State.updBli (s : State) (f : Bli → Bli) : State := { s with bli := f s.bli }

/-! ## The receive parser (R183) -/

/-- The sync byte. -/
def syncByte : Byte := 0xA5

/-- What a complete block is (R183): one whose check passes, by its type, tag and body, or one whose check fails. -/
inductive Parsed where
  | block (type tag : Byte) (body : List Byte)
  | badCheck (tag : Byte)
deriving DecidableEq, Repr

/-- The body length a header states. -/
def headerLength (h : List Byte) : Nat := 256 * (h.getD 2 0).toNat + (h.getD 3 0).toNat

/-- The hunt through bytes already received: a sync among them starts the next block (R183). -/
def huntIn : List Byte → Rx
  | [] => {}
  | b :: bs => if b = syncByte then { phase := .header, got := bs } else huntIn bs

/-- The parser after a whole header (R183): a length above 4096 discards the block, and the hunt resumes after its
sync. -/
def afterHeader (h : List Byte) : Rx :=
  if Config.maxBody < headerLength h then huntIn h
  else { phase := if headerLength h = 0 then .check else .body, got := h }

/-- The block whose type, tag, length, body and check bytes have been collected (R183). -/
def parsedOf (got : List Byte) : Parsed :=
  let n := 4 + headerLength got
  let check := BitVec.ofNat 16 (256 * (got.getD n 0).toNat + (got.getD (n + 1) 0).toNat)
  if crc16 (got.take n) = check then .block (got.getD 0 0) (got.getD 1 0) ((got.take n).drop 4) else .badCheck (got.getD 1 0)

/-- One byte from the board controller (R183). -/
def Rx.byte (x : Rx) (b : Byte) : Rx × Option Parsed :=
  let got := x.got ++ [b]
  match x.phase with
  | .hunt => (if b = syncByte then { phase := .header, got := [] } else {}, none)
  | .header => (if got.length < 4 then { phase := .header, got := got } else afterHeader got, none)
  | .body => ({ phase := if got.length < 4 + headerLength got then .body else .check, got := got }, none)
  | .check => if got.length < 6 + headerLength got then ({ phase := .check, got := got }, none) else ({}, some (parsedOf got))

/-- Bytes from the board controller, with the blocks they complete. -/
def Rx.bytes : Rx → List Byte → Rx × List Parsed
  | x, [] => (x, [])
  | x, b :: bs =>
    let r := x.byte b
    let q := Rx.bytes r.1 bs
    (q.1, r.2.toList ++ q.2)

/-- BAD_BLOCK (R183): a REPLY with the block's tag and command code 0. -/
def execBadBlock (tag : Nat) (s : State) : Host.Outcome State Fault Refusal :=
  s.command fun s => s.reply tag 0 .badBlock

/-- BLOCK_LENGTH_DISCARD (R183): the header of a block is complete; a length above 4096 sends the parser hunting from
the byte after its sync. -/
def execBlockLengthDiscard (type tag lenHi lenLo : Byte) (s : State) : Host.Outcome State Fault Refusal :=
  s.heed fun s => s.updBli fun b => { b with rx := afterHeader [type, tag, lenHi, lenLo] }

/-- UNKNOWN_COMMAND (R184): the reply carries the code the body began with, or 0 where the body was empty. -/
def execUnknownCommand (tag : Nat) (code : Option Nat) (s : State) : Host.Outcome State Fault Refusal :=
  s.command fun s => s.reply tag (code.getD 0) .unknownCommand

/-! ## Sending (R181, R187, R22) -/

/-- The running fetch after one of its DATA blocks has gone (R22): the last ends it and releases its reader. -/
def State.fetchSent (s : State) : State :=
  match s.pmm.fetch with
  | some f => if f.blocks ≤ f.next then { s with pmm := { s.pmm with fetch := none } }.release .fetch f.page else s
  | none => s

/-- The last check byte of the block being sent has gone (R187): a record leaves its queue, and a place is free (R181);
a fetch's last block ends it (R22). -/
def State.blockSent (s : State) : State :=
  let cleared := s.updBli fun b => { b with sending := none }
  match s.bli.sending with
  | some (.record _) =>
    { cleared with chg := { cleared.chg with queue := cleared.chg.queue.drop 1 } }.report .evaluate
  | some (.data _ _) => cleared.fetchSent
  | _ => cleared

/-- BLOCK_SENT. -/
def execBlockSent (s : State) : Host.Outcome State Fault Refusal := s.heed fun s => s.blockSent

/-! ## Notices and reports (R188 to R190) -/

/-- A mask's enable flags; START is always enabled (R188). -/
def maskOf (m : Nat) : Vector Bool 12 := Vector.ofFn fun i => i.val == 0 || m.testBit i.val

/-- NOTICE_MASK (R188): a mask naming a kind that does not exist is refused. -/
def State.setMask (s : State) (tag m : Nat) : State :=
  if 4096 ≤ m then s.reply tag 31 .badField else (s.updBli fun b => { b with mask := maskOf m }).reply tag 31 .ok

/-- NOTICE_MASK. -/
def execNoticeMask (tag : Nat) (a : Args Nat) (s : State) : Host.Outcome State Fault Refusal :=
  s.commandArgs tag 31 a fun m s => s.setMask tag m

/-- REPORT_MODE (R189). -/
def State.setReportMode (s : State) (tag : Nat) (a : ReportModeArgs) : State :=
  let p := clampNat a.period 1 255
  match a.mode with
  | 0 =>
    (s.updBli fun b => { b with mode := .events, period := p, reportTimer := none, status := none }).replyOk tag 32
      (clampedField a.period 1 255)
  | 1 => (s.updBli fun b => { b with mode := .stream, period := p, reportTimer := some p }).replyOk tag 32 (clampedField a.period 1 255)
  | _ => s.reply tag 32 .badField

/-- REPORT_MODE. -/
def execReportMode (tag : Nat) (a : Args ReportModeArgs) (s : State) : Host.Outcome State Fault Refusal :=
  s.commandArgs tag 32 a fun x s => s.setReportMode tag x

/-- A line as STATUS_QUERY reports it: its state and, in a call, the call id and direction (R190). -/
def Line.statusLine (l : Line) : LineState × Option (Nat × Direction) :=
  (l.state, if l.state.inCall then l.ctx.map fun x => (x.callId, x.dir) else none)

/-- The contents of a STATUS_QUERY reply (R190). -/
def State.statusBody (s : State) : StatusBody :=
  { summary := s.bli.summary
    lines := s.lines.toList.map Line.statusLine
    freeCount := s.freeCount
    noticeDepth := s.bli.notices.length
    recordDepth := s.chg.queue.length
    reservations := s.chg.reservations
    printDepth := s.prt.order.length
    engine := s.prt.engine
    jobs := s.dsp.order.length
    scan := s.scn.state
    clock := s.chg.clock
    mode := s.bli.mode }

/-- STATUS_QUERY (R190): the summary is cleared once the reply is built. -/
def State.queryStatus (s : State) (tag : Nat) : State :=
  (s.updBli fun b => { b with summary := {} }).reply tag 33 .ok 0 (.status s.statusBody)

/-- STATUS_QUERY. -/
def execStatusQuery (tag : Nat) (a : Args Unit) (s : State) : Host.Outcome State Fault Refusal :=
  s.commandArgs tag 33 a fun _ s => s.queryStatus tag

/-- The report timer expires (R189): it restarts, and a STATUS block is made pending or refreshed. -/
def State.reportExpires (s : State) : State :=
  if s.bli.reportTimer.isSome then
    let b := s.statusBody
    s.updBli fun l => { l with reportTimer := some l.period, status := some b }
  else s

/-- REPORT_TIMER_EXPIRY. -/
def execReportTimerExpiry (s : State) : Host.Outcome State Fault Refusal := s.heed fun s => s.reportExpires

/-- START_ACK (R186): the flag is cleared, and the command's own reply already carries it clear. -/
def State.ackStart (s : State) (tag : Nat) : State := (s.updBli fun b => { b with unack := false }).reply tag 35 .ok

/-- START_ACK. -/
def execStartAck (tag : Nat) (a : Args Unit) (s : State) : Host.Outcome State Fault Refusal :=
  s.commandArgs tag 35 a fun _ s => s.ackStart tag

end Sys2Proof.Machine
end

