-- ==== Sys2Proof/Machine/Layout.lean ====
section
/-!
DEFINITION. The byte layouts of the blocks the part sends upstream (R193): the block frame, the charge record, and the
bodies of replies and notices. Enumerations are numbered from 0 in the order of the owner's rule, which is the order of
their constructors; log entry 20 names what R193 leaves open.
-/

namespace Sys2Proof.Machine

/-! ## Fields -/

/-- One byte. -/
def byte1 (v : Nat) : List Byte := beBytes 1 v

/-- A flag: 0 clear, 1 set. -/
def flagByte (b : Bool) : List Byte := byte1 b.toNat

/-- A signed number in `n` bytes, two's complement. -/
def intBytes (n : Nat) (i : Int) : List Byte := beBytes n (i % (256 ^ n : Int)).toNat

/-- A field of `n` bytes that may be absent: all ones then (log entry 20). -/
def optBytes (n : Nat) : Option Nat → List Byte
  | some v => beBytes n v
  | none => List.replicate n 0xFF

/-- A time: day in one byte, ds of day in three. -/
def Stamp.bytes (t : Stamp) : List Byte := beBytes 1 t.day ++ beBytes 3 t.time

/-- A time that may be absent: its day byte 0xFF. -/
def optStamp : Option Stamp → List Byte
  | some t => t.bytes
  | none => List.replicate 4 0xFF

/-- A list: a count byte and its items. -/
def listBytes {α : Type} (f : α → List Byte) (xs : List α) : List Byte := byte1 xs.length ++ xs.flatMap f

/-- A string in a field of fixed size: its length, its characters, and zeros (charge record). -/
def fixedText (n : Nat) (t : Text) : List Byte := byte1 t.length ++ (t ++ List.replicate n 0).take n

/-- A set of named values: bit i for the value listed i-th, in as few whole bytes as hold it. -/
def setBytes (n : Nat) (flags : List Bool) : List Byte :=
  beBytes n (flags.foldr (fun b v => b.toNat + 2 * v) 0)

/-! ## Enumerations -/

/-- The number of an end reason, from 1 (R193). -/
def EndReason.code : EndReason → Nat
  | .completed => 1 | .busy => 2 | .noAnswer => 3 | .noDialTone => 4 | .trainFail => 5 | .protocolTimeout => 6
  | .carrierLost => 7 | .noCommonCode => 8 | .declined .noMemory => 9 | .declined .unsupported => 10
  | .declined .notReceiving => 11 | .memory => 12 | .funds => 13 | .reset => 14

/-- The number of a document's state: OPEN 0, CLOSED 1 (R12). -/
def DocState.code : DocState → Nat
  | .free | .opened => 0
  | .closed => 1

/-- The number of a filler: none, SCN, LCD, LCH0 to LCH3 (R12). -/
def Filler.code : Filler → Nat
  | .none => 0 | .scn => 1 | .lcd => 2
  | .lch n => 3 + n.val

/-- The reason byte of MISSED_CALL: the answer test's reasons, then RING_SHORT (R86). -/
def missedReason : Option AnswerFail → Nat
  | some f => f.ctorIdx
  | none => 4

/-- The last reason's byte, absent for none (R119, R131). -/
def lastBytes (r : Option LastReason) : List Byte := optBytes 1 (r.map (·.ctorIdx))

/-! ## Records -/

/-- The charge record's 94 bytes (R193). A count above its field's two bytes is sent modulo 65536: a DESIGN CHOICE (log
entry 51). -/
def ChargeRecord.bytes (r : ChargeRecord) : List Byte :=
  beBytes 2 r.seq ++ beBytes 2 r.callId ++ byte1 r.line.val ++ byte1 r.dir.ctorIdx ++ byte1 r.desk ++ optBytes 1 r.pool ++
    optBytes 1 (r.cls.map (·.ctorIdx)) ++ optBytes 1 r.tariffId ++ byte1 r.reason.code ++ flagByte r.clockUnset ++
    r.start.bytes ++ optStamp r.answer ++ beBytes 4 r.duration ++ beBytes 2 r.steps ++ beBytes 2 r.pulses ++
    intBytes 4 r.charge ++ intBytes 4 r.poolShare ++ intBytes 4 r.unrecovered ++ intBytes 4 r.poolUnrecovered ++
    byte1 r.pages ++ beBytes 2 r.jobTag ++ optBytes 1 r.dest ++ fixedText 24 r.dialled ++ fixedText 20 r.senderTag

/-- The fields of a page record (R5), after its id. -/
def PageRec.bytes (g : PageRec) : List Byte :=
  byte1 g.state.ctorIdx ++ optBytes 1 g.document ++ byte1 g.index ++ byte1 g.source.ctorIdx ++ byte1 g.slot ++
    byte1 g.coding.code ++ beBytes 2 g.width ++ byte1 g.density.code ++ beBytes 2 g.lineCount ++ beBytes 4 g.byteCount ++
    optBytes 2 g.first ++ optBytes 2 g.last ++ byte1 g.readers ++ byte1 g.transmissions ++ byte1 g.prints ++
    byte1 g.fetches ++ beBytes 2 g.badLines ++ flagByte g.poor ++ flagByte g.uncalibrated ++ flagByte g.final ++
    beBytes 2 g.check.toNat

/-- The fields of a document record (R12); an absent sender tag is sent as an empty string (log entry 20). -/
def docBytes (id : Nat) (d : DocRec) : List Byte :=
  byte1 id ++ byte1 d.origin.ctorIdx ++ byte1 d.state.code ++ listBytes byte1 d.pages ++ flagByte d.boardHold ++
    byte1 d.sendHold ++ byte1 d.printHold ++ byte1 d.filler.code ++ byte1 d.desk ++ textBytes (d.senderTag.getD []) ++
    d.created.bytes

/-- A summary line of DOC_QUERY (R23). -/
def DocLine.bytes (d : DocLine) : List Byte :=
  byte1 d.id ++ byte1 d.origin.ctorIdx ++ byte1 d.state.code ++ byte1 d.pages ++ flagByte d.boardHold ++
    byte1 d.sendHold ++ byte1 d.printHold ++ byte1 d.filler.code

/-- A destination record (R119) with its call id (R135), which stands last and is absent outside IN_CALL: a DESIGN CHOICE
(log entry 20). -/
def destBytes (i : Nat) (x : Dest) (call : Option Nat) : List Byte :=
  byte1 i ++ textBytes x.dial ++ byte1 x.state.ctorIdx ++ optBytes 4 x.due ++ optBytes 1 (x.line.map (·.val)) ++
    byte1 x.attempts ++ beBytes 2 x.calls ++ byte1 x.confirmed ++ lastBytes x.last ++ optBytes 2 call

/-- A job record with its destinations (R118, R135). Its destination count is also the count byte of the list of its
destinations, one byte for both: a DESIGN CHOICE (log entry 20). -/
def jobBytes (id : Nat) (r : Job) (calls : List (Option Nat)) : List Byte :=
  byte1 id ++ beBytes 2 r.tag ++ beBytes 2 r.seq ++ byte1 r.document ++ byte1 r.desk ++ byte1 r.priority ++
    byte1 r.maxAttempts ++ beBytes 2 r.redial ++ beBytes 4 r.submitTime ++ byte1 r.state.ctorIdx ++ flagByte r.cancel ++
    byte1 r.dests.length ++
    (List.range r.dests.length).flatMap fun i =>
      match r.dests[i]? with
      | some x => destBytes i x (calls.getD i none)
      | none => []

/-- A line of JOB_QUERY(255) (R135), with a count for each of the seven destination states in the order of R119 (log entry
20). -/
def JobLine.bytes (l : JobLine) : List Byte :=
  byte1 l.id ++ beBytes 2 l.tag ++ beBytes 2 l.seq ++ byte1 l.document ++ byte1 l.priority ++ byte1 l.state.ctorIdx ++
    l.counts.flatMap byte1

/-- A desk's figures of DESK_PERIOD_CLOSE (R167). R164 gives the credits, metered, charged and unrecovered totals no upper
end; each rises without a limit and is sent modulo 4294967296 in its four bytes: a DESIGN CHOICE (log entry 51). -/
def PeriodLine.bytes (p : PeriodLine) : List Byte :=
  intBytes 4 p.opening ++ intBytes 4 p.credits ++ intBytes 4 p.metered ++ intBytes 4 p.charged ++
    intBytes 4 p.unrecovered ++ beBytes 2 p.calls ++ intBytes 4 p.balance

/-- The event summary: one bit for each notice kind, then REPLY_LOST (log entry 20). -/
def Summary.bytes (m : Summary) : List Byte := setBytes 2 (m.kinds.toList ++ [m.replyLost])

/-- The contents of a STATUS_QUERY reply (R190), the four lines without a count byte (log entry 20). -/
def StatusBody.bytes (b : StatusBody) : List Byte :=
  b.summary.bytes ++
    (b.lines.flatMap fun l => byte1 l.1.ctorIdx ++ optBytes 2 (l.2.map Prod.fst) ++
      optBytes 1 (l.2.map fun c => c.2.ctorIdx)) ++
    beBytes 2 b.freeCount ++ byte1 b.noticeDepth ++ byte1 b.recordDepth ++ byte1 b.reservations ++ byte1 b.printDepth ++
    byte1 b.engine.ctorIdx ++ byte1 b.jobs ++ byte1 b.scan.ctorIdx ++ b.clock.now.bytes ++ flagByte b.clock.set ++
    byte1 b.mode.ctorIdx

/-! ## Bodies -/

/-- A command's own reply fields, each owner's order (R185). The two bytes of DOC_LINES' lines taken are a DESIGN CHOICE
(log entry 20). -/
def ReplyBody.bytes : ReplyBody → List Byte
  | .none => []
  | .fetch n l st c => beBytes 4 n ++ beBytes 2 l ++ byte1 st.ctorIdx ++ beBytes 2 c.toNat
  | .document i d ps => docBytes i d ++ listBytes (fun p => byte1 p.1 ++ p.2.bytes) ps
  | .documents ds => listBytes DocLine.bytes ds
  | .docId i => byte1 i
  | .codeFault black bulk run => flagByte black ++ flagByte bulk ++ beBytes 2 run
  | .boardPage d i => byte1 d ++ byte1 i
  | .boardEnd i l n => byte1 i ++ beBytes 2 l ++ beBytes 4 n
  | .boardAbandoned i => byte1 i
  | .linesTaken n => beBytes 2 n
  | .jobAccepted i q => byte1 i ++ beBytes 2 q
  | .faultAt i => byte1 i
  | .jobCancelled a b => byte1 a ++ byte1 b
  | .job t i r cs => jobBytes i r cs ++ beBytes 4 t
  | .jobs t ls => listBytes JobLine.bytes ls ++ beBytes 4 t
  | .ruleCount n => byte1 n
  | .entry e q => byte1 e ++ beBytes 2 q
  | .printCancelled p c => beBytes 2 p ++ byte1 c
  | .balance b => intBytes 4 b
  | .periods ds => listBytes PeriodLine.bytes ds
  | .status b => b.bytes

/-- A REPLY body: the fields of R185 after the tag. R185 states no range for the number of fields clamped, which takes
four bytes (R193). -/
def Reply.bytes (r : Reply) : List Byte :=
  byte1 r.code ++ byte1 r.result.ctorIdx ++ flagByte r.unack ++ beBytes 4 r.clamped ++ r.body.bytes

/-- What a DEST_RESULT adds for an outcome, absent at a refusal (R131); the absent far tag is sent as an empty string: a
DESIGN CHOICE (log entry 20). -/
def outcomeBytes : Option OutcomeInfo → List Byte
  | some o => beBytes 2 o.callId ++ byte1 o.confirmed ++ textBytes o.farTag ++ optBytes 1 o.step ++ beBytes 4 o.recoded
  | none => optBytes 2 none ++ optBytes 1 none ++ textBytes [] ++ optBytes 1 none ++ optBytes 4 none

/-- A notice's own fields, its owner's order (R188). The rule number DEFAULT is sent as an absent one, 0xFF, and START's
part code takes 2 bytes and its revision 1, no rule stating a range for either: a DESIGN CHOICE (log entry 20).
MISSED_CALL's bursts are sent modulo 4294967296: a DESIGN CHOICE (log entry 51). -/
def NoticeBody.bytes : NoticeBody → List Byte
  | .start c p v => byte1 c.ctorIdx ++ beBytes 2 p ++ byte1 v
  | .memoryLow n => beBytes 2 n
  | .calResult o w => byte1 o.ctorIdx ++ beBytes 2 w
  | .scanEnd r d n p => byte1 r.ctorIdx ++ byte1 d ++ byte1 n ++ byte1 p
  | .lineState n g c => byte1 n.val ++ byte1 g.ctorIdx ++ byte1 c.ctorIdx
  | .missedCall n t k r => byte1 n.val ++ t.bytes ++ beBytes 4 k ++ byte1 (missedReason r)
  | .destResult j t d g a c p due r o =>
    byte1 j ++ beBytes 2 t ++ byte1 d ++ byte1 g.ctorIdx ++ byte1 a ++ beBytes 2 c ++ byte1 p ++ optBytes 4 due ++
      lastBytes r ++ outcomeBytes o
  | .jobDone j t q d g ds =>
    byte1 j ++ beBytes 2 t ++ beBytes 2 q ++ byte1 d ++ byte1 g.ctorIdx ++
      listBytes (fun x => byte1 x.1.ctorIdx ++ byte1 x.2.1 ++ beBytes 2 x.2.2.1 ++ byte1 x.2.2.2.1 ++ lastBytes x.2.2.2.2) ds
  | .printQueueFull n i d t r p c =>
    byte1 n.val ++ beBytes 2 i ++ byte1 d ++ textBytes t ++ optBytes 1 r ++ byte1 p ++ byte1 c
  | .docReceived n i d t r k e st sent c p dm b disp full en =>
    byte1 n.val ++ beBytes 2 i ++ byte1 d ++ textBytes t ++ optBytes 1 r ++ byte1 k ++ byte1 e.code ++ byte1 st ++
      optBytes 1 sent ++ byte1 c ++ byte1 p ++ byte1 dm ++ beBytes 4 b ++ byte1 disp.ctorIdx ++ flagByte full ++
      optBytes 1 en
  | .printDone e q src d c p r =>
    byte1 e ++ beBytes 2 q ++ byte1 src.ctorIdx ++ byte1 d ++ byte1 c ++ beBytes 2 p ++ beBytes 2 r
  | .paper g a =>
    byte1 g.ctorIdx ++ optBytes 1 (a.map (·.1)) ++ optBytes 1 (a.map (·.2.1)) ++ optBytes 1 (a.map (·.2.2))

/-- A NOTICE body: its kind from 1, its fields, and the time of raising (R193). -/
def Notice.bytes (n : Notice) : List Byte := byte1 (n.body.kind.index + 1) ++ n.body.bytes ++ n.time.bytes

/-! ## Blocks -/

/-- The type byte of an upstream block (R193); STATUS has none there (log entry 4). -/
def UpBlock.type : UpBlock → Byte
  | .reply _ => 0x81
  | .record _ => 0x82
  | .notice _ => 0x83
  | .data _ _ => 0x84
  | .status _ => Config.statusBlockType

/-- The tag of an upstream block: that of the command answered, 0 where none is (log entry 21). -/
def UpBlock.tag : UpBlock → Nat
  | .reply r => r.tag
  | .notice n => n.tag
  | .data t _ => t
  | .record _ | .status _ => 0

/-- The body of an upstream block. -/
def UpBlock.body : UpBlock → List Byte
  | .reply r => r.bytes
  | .record r => r.bytes
  | .notice n => n.bytes
  | .data _ bs => bs
  | .status b => b.bytes

/-- A block on the link: sync, type, tag, length, body and check (R193). -/
def blockBytes (type : Byte) (tag : Nat) (body : List Byte) : List Byte :=
  let inner := type :: (byte1 tag ++ beBytes 2 body.length ++ body)
  syncByte :: (inner ++ beBytes 2 (crc16 inner).toNat)

/-- The bytes of the block being sent, idle filler where none is (chapter 10). -/
def State.upstream (s : State) : List Byte :=
  match s.bli.sending with
  | some b => blockBytes b.type b.tag b.body
  | none => [0x00]

end Sys2Proof.Machine
end

