-- ==== Sys2Proof/Decode.lean ====
section
/-!
DEFINITION. From bytes and characters to commands: the board controller's blocks by their layouts (R184, R193), the pump's
characters (R193) and delivered frames. The opcode table gives no row bits, so no word spells a command.
-/

namespace Sys2Proof

open Sys2Proof.Machine

/-- The command a word spells by the table's bits: the table gives none of its rows bits. -/
def decodeTableWord (_nbits _w : Nat) : Option Instr := none

/-! ## Fields -/

/-- A flag byte: 0 or 1; any other value does not agree with the layout (log entry 20). -/
def takeFlag : List Byte → Option (Bool × List Byte)
  | [] => none
  | b :: bs => if b = 0 then some (false, bs) else if b = 1 then some (true, bs) else none

/-- `n` items read in turn. -/
def takeItems {α : Type} (f : List Byte → Option (α × List Byte)) : Nat → List Byte → Option (List α × List Byte)
  | 0, bs => some ([], bs)
  | n + 1, bs => do
    let (x, bs) ← f bs
    let (xs, bs) ← takeItems f n bs
    pure (x :: xs, bs)

/-- A list: a count byte and its items. -/
def takeList {α : Type} (f : List Byte → Option (α × List Byte)) (bs : List Byte) : Option ((Nat × List α) × List Byte) := do
  let (n, bs) ← takeNat 1 bs
  let (xs, bs) ← takeItems f n bs
  pure ((n, xs), bs)

/-- A signed number of `n` bytes, two's complement. -/
def takeInt (n : Nat) (bs : List Byte) : Option (Int × List Byte) := do
  let (v, bs) ← takeNat n bs
  pure (if 2 * v < 256 ^ n then (v : Int) else (v : Int) - 256 ^ n, bs)

/-- The whole of a body read by a layout: bytes left over, or missing, do not agree with it (R184). -/
def whole {α : Type} (f : List Byte → Option (α × List Byte)) (bs : List Byte) : Args α :=
  match f bs with
  | some (x, []) => .fields x
  | _ => .malformed

/-- A body with no fields. -/
def noFields (bs : List Byte) : Option (Unit × List Byte) := some ((), bs)

/-! ## Command layouts (R193) -/

/-- DOC_FETCH. -/
def takeDocFetch (bs : List Byte) : Option (DocFetchArgs × List Byte) := do
  let (d, bs) ← takeNat 1 bs
  let (i, bs) ← takeNat 1 bs
  pure ({ document := d, index := i }, bs)

/-- SCAN_START. -/
def takeScanStart (bs : List Byte) : Option (ScanStartArgs × List Byte) := do
  let (d, bs) ← takeNat 1 bs
  let (k, bs) ← takeNat 1 bs
  let (w, bs) ← takeNat 2 bs
  let (dn, bs) ← takeNat 1 bs
  let (ac, bs) ← takeFlag bs
  let (c, bs) ← takeFlag bs
  let (p, bs) ← takeNat 1 bs
  let (n, bs) ← takeNat 1 bs
  pure ({ document := d, desk := k, width := w, density := dn, autoCal := ac, copy := c, copyPriority := p, copies := n }, bs)

/-- The number of lines behind the enumeration byte of N_dark and N_white; a byte that names none reads as 0, which R27
refuses (log entry 20). -/
def passLines (b : Nat) : Nat := [4, 8, 16, 32].getD b 0

/-- SCAN_CONFIG. -/
def takeScanConfig (bs : List Byte) : Option (ScanConfigArgs × List Byte) := do
  let (p, bs) ← takeNat 1 bs
  let (t, bs) ← takeNat 1 bs
  let (b, bs) ← takeNat 1 bs
  let (wl, bs) ← takeNat 1 bs
  let (nd, bs) ← takeNat 1 bs
  let (nw, bs) ← takeNat 1 bs
  let (be, bs) ← takeNat 1 bs
  let (th, bs) ← takeNat 1 bs
  let (hy, bs) ← takeNat 1 bs
  let (sp, bs) ← takeNat 1 bs
  let (sw, bs) ← takeNat 2 bs
  pure ({ clockDivider := p, target := t, band := b, weakLimit := wl, nDark := passLines nd, nWhite := passLines nw,
          beta := be, thr := th, hys := hy, speckMin := sp, scanWait := sw }, bs)

/-- One entry of LOAD_CODE_SET. -/
def takeCodeEntry (bs : List Byte) : Option (CodeEntry × List Byte) := do
  let (n, bs) ← takeNat 1 bs
  let (w, bs) ← takeNat 2 bs
  pure ({ length := n, bits := BitVec.ofNat 16 w }, bs)

/-- LOAD_CODE_SET: its entries are what the body holds after the count. -/
def takeLoadCodeSet (bs : List Byte) : Option (LoadCodeSetArgs × List Byte) := do
  let (k, bs) ← takeNat 1 bs
  let (n, bs) ← takeNat 2 bs
  let (c, bs) ← takeNat 2 bs
  let (es, bs) ← takeItems takeCodeEntry c bs
  pure ({ slot := k, number := n, count := c, entries := es }, bs)

/-- BOARD_PAGE_BEGIN. -/
def takeBoardPageBegin (bs : List Byte) : Option (BoardPageBeginArgs × List Byte) := do
  let (d, bs) ← takeNat 1 bs
  let (w, bs) ← takeNat 2 bs
  let (dn, bs) ← takeNat 1 bs
  pure ({ document := d, width := w, density := dn }, bs)

/-- CODER_CONFIG. -/
def takeCoderConfig (bs : List Byte) : Option (CoderConfigArgs × List Byte) := do
  let (s, bs) ← takeNat 1 bs
  let (c, bs) ← takeNat 1 bs
  let (k, bs) ← takeNat 1 bs
  pure ({ slot := s, coding := c, k := k }, bs)

/-- LINE_CONFIG, its fields in the order of R74's table. -/
def takeLineConfig (bs : List Byte) : Option (LineConfigArgs × List Byte) := do
  let (n, bs) ← takeNat 1 bs
  let (ei, bs) ← takeFlag bs
  let (eo, bs) ← takeFlag bs
  let (rc, bs) ← takeNat 1 bs
  let (ro, bs) ← takeNat 2 bs
  let (rg, bs) ← takeNat 1 bs
  let (m, bs) ← takeNat 1 bs
  let (po, bs) ← takeNat 1 bs
  let (pc, bs) ← takeNat 2 bs
  let (ms, bs) ← takeNat 1 bs
  let (ap, bs) ← takeText bs
  let (dt, bs) ← takeNat 2 bs
  let (aw, bs) ← takeNat 2 bs
  let (fr, bs) ← takeNat 2 bs
  let (gu, bs) ← takeNat 1 bs
  let (pa, bs) ← takeNat 1 bs
  let (sb, bs) ← takeNat 1 bs
  let (bo, bs) ← takeNat 1 bs
  let (rd, bs) ← takeNat 2 bs
  pure ({ line := n, enableIn := ei, enableOut := eo, ringCount := rc, ringOnMin := ro, ringGapMax := rg, metering := m,
          pulseOnMin := po, pulseCp := pc, maxStep := ms, accessPrefix := ap, dialToneWait := dt, answerWait := aw,
          frameReply := fr, releaseGuard := gu, parity := pa, stopBits := sb, bitOrder := bo, rateDivider := rd }, bs)

/-- LINE_CONTROL. -/
def takeLineControl (bs : List Byte) : Option (LineControlArgs × List Byte) := do
  let (n, bs) ← takeNat 1 bs
  let (a, bs) ← takeNat 1 bs
  pure ({ line := n, action := a }, bs)

/-- STATION_CONFIG. -/
def takeStationConfig (bs : List Byte) : Option (StationConfigArgs × List Byte) := do
  let (t, bs) ← takeText bs
  let (r, bs) ← takeNat 1 bs
  let (m, bs) ← takeNat 1 bs
  let (k, bs) ← takeNat 1 bs
  pure ({ tag := t, keepRatio := r, maxConsec := m, k := k }, bs)

/-- JOB_SUBMIT. -/
def takeJobSubmit (bs : List Byte) : Option (JobSubmitArgs × List Byte) := do
  let (t, bs) ← takeNat 2 bs
  let (d, bs) ← takeNat 1 bs
  let (k, bs) ← takeNat 1 bs
  let (p, bs) ← takeNat 1 bs
  let (m, bs) ← takeNat 1 bs
  let (r, bs) ← takeNat 2 bs
  let (ds, bs) ← takeList takeText bs
  pure ({ jobTag := t, document := d, desk := k, priority := p, maxAttempts := m, redial := r, destinations := ds.2 }, bs)

/-- One rule of LOAD_ROUTES. -/
def takeRouteRule (bs : List Byte) : Option (RouteRule × List Byte) := do
  let (t, bs) ← takeText bs
  let (m, bs) ← takeNat 1 bs
  let (k, bs) ← takeNat 1 bs
  let (p, bs) ← takeNat 1 bs
  let (c, bs) ← takeNat 1 bs
  let (h, bs) ← takeFlag bs
  pure ({ tagPrefix := t, mask := m, desk := k, priority := p, copies := c, hold := h }, bs)

/-- LOAD_ROUTES. -/
def takeLoadRoutes (bs : List Byte) : Option (LoadRoutesArgs × List Byte) := do
  let (rs, bs) ← takeList takeRouteRule bs
  pure ({ count := rs.1, rules := rs.2 }, bs)

/-- PRINT_DOC. -/
def takePrintDoc (bs : List Byte) : Option (PrintDocArgs × List Byte) := do
  let (d, bs) ← takeNat 1 bs
  let (c, bs) ← takeNat 1 bs
  let (p, bs) ← takeNat 1 bs
  pure ({ document := d, copies := c, priority := p }, bs)

/-- DESK_SET. -/
def takeDeskSet (bs : List Byte) : Option (DeskSetArgs × List Byte) := do
  let (d, bs) ← takeNat 1 bs
  let (k, bs) ← takeNat 1 bs
  let (p, bs) ← takeNat 1 bs
  let (w, bs) ← takeNat 2 bs
  let (c, bs) ← takeNat 1 bs
  let (m, bs) ← takeNat 2 bs
  pure ({ desk := d, kind := k, pool := p, weight := w, classes := c, margin := m }, bs)

/-- DESK_CREDIT. -/
def takeDeskCredit (bs : List Byte) : Option (DeskCreditArgs × List Byte) := do
  let (d, bs) ← takeNat 1 bs
  let (a, bs) ← takeInt 4 bs
  pure ({ desk := d, amount := a }, bs)

/-- DESK_PERIOD_CLOSE. -/
def takeDeskPeriodClose (bs : List Byte) : Option (DeskPeriodCloseArgs × List Byte) := do
  let (d, bs) ← takeNat 1 bs
  let (a, bs) ← takeNat 4 bs
  pure ({ desk := d, allowance := a }, bs)

/-- One rule of LOAD_DIAL_PLAN. -/
def takeDialRule (bs : List Byte) : Option (DialRuleArgs × List Byte) := do
  let (d, bs) ← takeText bs
  let (c, bs) ← takeNat 1 bs
  let (t, bs) ← takeNat 1 bs
  let (s, bs) ← takeNat 1 bs
  let (p, bs) ← takeText bs
  pure ({ digits := d, cls := c, tariff := t, strip := s, prepend := p }, bs)

/-- LOAD_DIAL_PLAN. -/
def takeLoadDialPlan (bs : List Byte) : Option (LoadDialPlanArgs × List Byte) := do
  let (rs, bs) ← takeList takeDialRule bs
  pure ({ count := rs.1, rules := rs.2 }, bs)

/-- One entry of LOAD_TARIFFS. -/
def takeTariff (bs : List Byte) : Option (TariffArgs × List Byte) := do
  let (i, bs) ← takeNat 1 bs
  let (u, bs) ← takeNat 2 bs
  let (c, bs) ← takeNat 2 bs
  let (d0, bs) ← takeNat 2 bs
  let (d1, bs) ← takeNat 2 bs
  let (d2, bs) ← takeNat 2 bs
  let (d3, bs) ← takeNat 2 bs
  let (m, bs) ← takeNat 1 bs
  pure ({ id := i, setupCp := u, stepCp := c, stepDs0 := d0, stepDs1 := d1, stepDs2 := d2, stepDs3 := d3, minSteps := m }, bs)

/-- LOAD_TARIFFS. -/
def takeLoadTariffs (bs : List Byte) : Option (LoadTariffsArgs × List Byte) := do
  let (es, bs) ← takeList takeTariff bs
  pure ({ count := es.1, entries := es.2 }, bs)

/-- LOAD_BANDS. -/
def takeLoadBands (bs : List Byte) : Option (List Nat × List Byte) := do
  let (xs, bs) ← takeList (takeNat 1) bs
  pure (xs.2, bs)

/-- SET_CLOCK. -/
def takeSetClock (bs : List Byte) : Option (SetClockArgs × List Byte) := do
  let (d, bs) ← takeNat 1 bs
  let (t, bs) ← takeNat 3 bs
  pure ({ day := d, time := t }, bs)

/-- REPORT_MODE. -/
def takeReportMode (bs : List Byte) : Option (ReportModeArgs × List Byte) := do
  let (m, bs) ← takeNat 1 bs
  let (p, bs) ← takeNat 1 bs
  pure ({ mode := m, period := p }, bs)

/-- The command of a CONTROL body with code `c` and fields `bs`, the codes numbered in the order of section 10.4 (R193). -/
def commandOf (tag c : Nat) (bs : List Byte) : Instr :=
  match c with
  | 1 => .docHold tag (whole (takeNat 1) bs)
  | 2 => .docRelease tag (whole (takeNat 1) bs)
  | 3 => .docClose tag (whole (takeNat 1) bs)
  | 4 => .docFetch tag (whole takeDocFetch bs)
  | 5 => .docQuery tag (whole (takeNat 1) bs)
  | 6 => .calibrate tag (whole noFields bs)
  | 7 => .scanStart tag (whole takeScanStart bs)
  | 8 => .scanStop tag (whole noFields bs)
  | 9 => .scanConfig tag (whole takeScanConfig bs)
  | 10 => .loadCodeSet tag (whole takeLoadCodeSet bs)
  | 11 => .boardPageBegin tag (whole takeBoardPageBegin bs)
  | 12 => .boardPageEnd tag (whole takeFlag bs)
  | 13 => .coderConfig tag (whole takeCoderConfig bs)
  | 14 => .lineConfig tag (whole takeLineConfig bs)
  | 15 => .lineControl tag (whole takeLineControl bs)
  | 16 => .stationConfig tag (whole takeStationConfig bs)
  | 17 => .jobSubmit tag (whole takeJobSubmit bs)
  | 18 => .jobCancel tag (whole (takeNat 1) bs)
  | 19 => .jobQuery tag (whole (takeNat 1) bs)
  | 20 => .loadRoutes tag (whole takeLoadRoutes bs)
  | 21 => .printDoc tag (whole takePrintDoc bs)
  | 22 => .printCancel tag (whole (takeNat 1) bs)
  | 23 => .printConfig tag (whole (takeNat 2) bs)
  | 24 => .deskSet tag (whole takeDeskSet bs)
  | 25 => .deskCredit tag (whole takeDeskCredit bs)
  | 26 => .deskPeriodClose tag (whole takeDeskPeriodClose bs)
  | 27 => .loadDialPlan tag (whole takeLoadDialPlan bs)
  | 28 => .loadTariffs tag (whole takeLoadTariffs bs)
  | 29 => .loadBands tag (whole takeLoadBands bs)
  | 30 => .setClock tag (whole takeSetClock bs)
  | 31 => .noticeMask tag (whole (takeNat 2) bs)
  | 32 => .reportMode tag (whole takeReportMode bs)
  | 33 => .statusQuery tag (whole noFields bs)
  | 34 => .softReset tag (whole noFields bs)
  | 35 => .startAck tag (whole noFields bs)
  | c => .unknownCommand tag (some c)

/-- The command of a complete downstream block (R183, R184). -/
def Machine.Parsed.instr : Parsed → Instr
  | .badCheck tag => .badBlock tag.toNat
  | .block 0x01 tag [] => .unknownCommand tag.toNat none
  | .block 0x01 tag (c :: bs) => commandOf tag.toNat c.toNat bs
  | .block 0x02 tag body => .docLines tag.toNat body
  | .block _ tag _ => .badBlock tag.toNat

/-- The commands that bytes from the board controller bring, with the parser after them (R183, R184). -/
def decodeLink (x : Rx) (bs : List Byte) : Rx × List Instr :=
  let r := Rx.bytes x bs
  (r.1, r.2.map Machine.Parsed.instr)

/-- The event of a character from the pump on a line (R76, R77, R193): data is passed on with its error mark, a control
character in error or of an unknown code is discarded. R193 gives these codes no argument and says only that it is 0 where
the table gives none: the argument bits 3..0 as received are ignored and the event taken, a DESIGN CHOICE (log entry
52). -/
def decodePump (line : LineNo) (c : BitVec 9) (error : Bool) : Option Instr :=
  if c.getLsbD 8 then
    if error then none
    else match (c.toNat / 16) % 16 with
      | 0x4 => some (.frameBegin line)
      | 0x5 => some (.frameEnd line)
      | 0x8 => some (.dialTone line)
      | 0x9 => some (.busyTone line)
      | 0xA => some (.farAnswer line)
      | 0xB => some (.dataReady line)
      | 0xC => some (.trainFail line)
      | 0xD => some (.carrierLost line)
      | _ => none
  else some (.dataCharacterReceived line (c.setWidth 8) error)

/-- The event of a whole frame on a line (R77, R96). -/
def Machine.Frame.instr (line : LineNo) : Frame → Instr
  | .offer f => .offer line f
  | .choose f => .choose line f
  | .accept => .accept line
  | .decline r => .decline line r
  | .pageHead n a st => .pageHead line n a st
  | .pageTail l b c => .pageTail line l b c
  | .pageAck n v b => .pageAck line n v b
  | .endCall p => .endFrame line p
  | .endAck => .endAck line

end Sys2Proof
end

