-- ==== Sys2Proof/Machine/CoderCommands.lean ====
section
/-!
DEFINITION. The commands of the line coder (R51 to R53, R60 to R62): code-set loads, the coder configuration, and
board-composed pages.
-/

namespace Sys2Proof.Machine

/-! ## LOAD_CODE_SET (R51, R52) -/

/-- The code set a load's words make, in the fixed order of R51. -/
def codeSetOf (number : Nat) (words : List Bits) : CodeSet :=
  { number := number
    mark := words.headD []
    whiteTerm := (words.drop 1).take 32
    whiteBulk := (words.drop 33).take 64
    blackTerm := (words.drop 97).take 32
    blackBulk := (words.drop 129).take 64 }

/-- The reply field that names entry `i` of a colour's words: terminals for runs 0 to 31, then bulks (R51). -/
def faultyWord (black : Bool) (i : Nat) : ReplyBody :=
  if i < 32 then .codeFault black false i else .codeFault black true (32 * (i - 31))

/-- The first entry in load order that fails the prefix checks (R51). -/
def CodeSet.fault (c : CodeSet) : Option ReplyBody :=
  match firstConflict c.mark [] (c.whiteTerm ++ c.whiteBulk) 0 with
  | some i => some (faultyWord false i)
  | none => (firstConflict c.mark [] (c.blackTerm ++ c.blackBulk) 0).map (faultyWord true)

/-- Whether a line channel's codec is bound to a slot (R69). -/
def State.codecBound (s : State) (k : Nat) : Bool := allLines.any fun n => (s.line n).codec.slot == some k

/-- LOAD_CODE_SET (R51, R52). -/
def State.loadCodeSet (s : State) (tag : Nat) (a : LoadCodeSetArgs) : State :=
  if 1 < a.slot ∨ a.count ≠ 193 ∨ a.entries.length ≠ 193 ∨ (a.entries.any fun e => e.length == 0 || decide (16 < e.length)) then
    s.reply tag 10 .badField
  else
    let c := codeSetOf a.number (a.entries.map fun e => entryWord e.length e.bits)
    if (s.codeSet (1 - a.slot)).any fun o => o.number == a.number then s.reply tag 10 .tableInvalid
    else match c.fault with
      | some b => s.reply tag 10 .tableInvalid 0 b
      | none =>
        if 0 < tget s.pmm.slotUse a.slot 0 ∨ s.codecBound a.slot then s.reply tag 10 .inUse
        else (s.updLcd fun l => { l with slots := tset l.slots a.slot (some c) }).reply tag 10 .ok

/-- LOAD_CODE_SET. -/
def execLoadCodeSet (tag : Nat) (a : Args LoadCodeSetArgs) (s : State) : Host.Outcome State Fault Refusal :=
  s.commandArgs tag 10 a fun x s => s.loadCodeSet tag x

/-! ## CODER_CONFIG (R53) -/

/-- CODER_CONFIG (R53). -/
def State.configCoder (s : State) (tag : Nat) (a : CoderConfigArgs) : State :=
  if 1 < a.slot ∨ 1 < a.coding then s.reply tag 13 .badField
  else
    (s.updLcd fun l => { l with config := { slot := a.slot, diff := a.coding == 1, k := clampNat a.k 1 8 } }).replyOk tag 13
      (clampedField a.k 1 8)

/-- CODER_CONFIG. -/
def execCoderConfig (tag : Nat) (a : Args CoderConfigArgs) (s : State) : Host.Outcome State Fault Refusal :=
  s.commandArgs tag 13 a fun x s => s.configCoder tag x

/-! ## BOARD_PAGE_BEGIN (R60) -/

/-- The refusal of a document field that names an existing document for a writer's new page (R38, R60). -/
def State.writerRefusal (s : State) (d : Nat) (o : Origin) : Option ResultCode :=
  let r := s.doc d
  if r.state == .free then some .notFound
  else if r.state == .closed || r.origin != o || r.filler != .none || decide (Config.pagesPerDoc ≤ r.pages.length) then
    some .state
  else none

/-- The board page's document: created, its desk a free value (log entry 5), or bound to the line coder (R60). -/
def State.boardDocument (s : State) (d : Nat) : State × Option Nat :=
  if d = 255 then
    { s with freeIndex := s.freeIndex + 1 }.createDoc .board (Config.boardDesk s.freeIndex).val .lcd
  else (s.setDoc d { s.doc d with filler := .lcd }, some d)

/-- The board page opened in its document (R60). -/
def State.openBoardPage (s : State) (tag : Nat) (d : Nat) (isNew : Bool) (width : Nat) (density : Density) : State :=
  let k := s.lcd.config.slot
  let coding := s.lcd.config.coding
  match s.openPage
    { filler := .lcd, document := d, source := .board, slot := k, coding := coding, width := width, density := density } with
  | (s, .ok r) =>
    let s := s.takeCoderPage r k coding width
    (s.updLcd fun l => { l with mode := .board, board := some { document := d, density := density } }).reply tag 11 .ok 0
      (.boardPage d (s.page r.page).index)
  | (s, .error _) =>
    let s := s.unbind d
    let s := if isNew then (s.setDoc d { s.doc d with boardHold := false }).closeDoc d else s
    s.reply tag 11 .noSpace

/-- BOARD_PAGE_BEGIN (R60). -/
def State.beginBoardPage (s : State) (tag : Nat) (a : BoardPageBeginArgs) : State :=
  match Density.ofCode a.density with
  | none => s.reply tag 11 .badField
  | some density =>
    if !docFieldOk a.document || !widthOk a.width then s.reply tag 11 .badField
    else if s.lcd.mode ≠ .idle then s.reply tag 11 .busy
    else if !s.loaded s.lcd.config.slot then s.reply tag 11 .noCodeSet
    else match if a.document = 255 then none else s.writerRefusal a.document .board with
      | some r => s.reply tag 11 r
      | none =>
        if (a.document = 255 ∧ s.freeDocRecord = none) ∨ s.freePageRecord = none then s.reply tag 11 .noSpace
        else match s.boardDocument a.document with
          | (s, none) => s.reply tag 11 .noSpace
          | (s, some d) => s.openBoardPage tag d (a.document == 255) a.width density

/-- BOARD_PAGE_BEGIN. -/
def execBoardPageBegin (tag : Nat) (a : Args BoardPageBeginArgs) (s : State) : Host.Outcome State Fault Refusal :=
  s.commandArgs tag 11 a fun x s => s.beginBoardPage tag x

/-! ## DOC_LINES (R61) -/

/-- The lines of a block's body: `w / 8` bytes each, the leftmost pixel in bit 7 of the first (R61). -/
def bodyLines (w : Nat) : Nat → List Byte → List PixelLine
  | 0, _ => []
  | n + 1, bs => unpackBits (bs.take (w / 8)) :: bodyLines w n (bs.drop (w / 8))

/-- The block's lines coded and stored in order (R61): how many were taken, the one held included, and whether all were
stored. -/
def takeLines : List PixelLine → State → State × Nat × Bool
  | [], s => (s, 0, true)
  | l :: ls, s =>
    match s.codeLine l with
    | (s, false) => (s, 1, false)
    | (s, true) => let r := takeLines ls s; (r.1, r.2.1 + 1, r.2.2)

/-- The lines taken of the page being coded, a held line included: its bits are coded already (R61). -/
def Lcd.linesTaken (l : Lcd) : Nat :=
  (l.job.map (·.lineCount)).getD 0 + (match l.held with
    | some h => if h.line.isSome then 1 else 0
    | none => 0)

/-- DOC_LINES (R61). A block with an empty body is accepted with 0 lines, and a held line is not tried. While the padding
byte of a BOARD_PAGE_END answered NO_SPACE is held (R62), the block's lines are taken behind that byte, once it is stored: a
DESIGN CHOICE (log entry 46). -/
def State.docLines (s : State) (tag : Nat) (body : List Byte) : State :=
  match s.lcd.mode, s.lcd.job, s.lcd.board with
  | .board, some j, some b =>
    let len := j.width / 8
    let n := body.length / len
    if body = [] then s.reply tag 36 .ok 0 (.linesTaken 0)
    else if body.length % len ≠ 0 ∨ b.density.maxLines < s.lcd.linesTaken + n then s.reply tag 36 .badField
    else match s.tryHeld with
      | (s, false) => s.reply tag 36 .noSpace 0 (.linesTaken 0)
      | (s, true) =>
        match takeLines (bodyLines j.width n body) s with
        | (s, k, true) => s.reply tag 36 .ok 0 (.linesTaken k)
        | (s, k, false) => s.reply tag 36 .noSpace 0 (.linesTaken k)
  | _, _, _ => s.reply tag 36 .state

/-- DOC_LINES: a downstream DATA block (R61, R184). -/
def execDocLines (tag : Nat) (body : List Byte) (s : State) : Host.Outcome State Fault Refusal :=
  s.command fun s => s.docLines tag body

/-! ## BOARD_PAGE_END (R62) -/

/-- The line coder leaves the board page (R62): it unbinds from the document, which stays OPEN, and is IDLE. -/
def State.leaveBoardPage (s : State) (d : Nat) : State :=
  (s.unbind d).updLcd fun l => { l with mode := .idle, board := none }

/-- The board page's pending bits stored and the page completed, or NO_SPACE with a byte still held (R62). -/
def State.completeBoardPage (s : State) (tag : Nat) (j : CoderPage) (d : Nat) : State :=
  match s.tryHeld with
  | (s, false) => s.reply tag 12 .noSpace
  | (s, true) =>
    match s.padPage with
    | (s, false) => s.reply tag 12 .noSpace
    | (s, true) =>
      let s := s.completeCoderPage
      let g := s.page j.ref.page
      (s.leaveBoardPage d).reply tag 12 .ok 0 (.boardEnd g.index g.lineCount g.byteCount)

/-- BOARD_PAGE_END (R62). A page without a line taken is refused STATE. -/
def State.endBoardPage (s : State) (tag : Nat) (abandon : Bool) : State :=
  match s.lcd.mode, s.lcd.job, s.lcd.board with
  | .board, some j, some b =>
    if abandon then
      let i := (s.page j.ref.page).index
      (s.discardCoderPage.leaveBoardPage b.document).reply tag 12 .ok 0 (.boardAbandoned i)
    else if j.lineCount = 0 ∧ s.lcd.held = none then s.reply tag 12 .state
    else s.completeBoardPage tag j b.document
  | _, _, _ => s.reply tag 12 .state

/-- BOARD_PAGE_END. -/
def execBoardPageEnd (tag : Nat) (a : Args Bool) (s : State) : Host.Outcome State Fault Refusal :=
  s.commandArgs tag 12 a fun x s => s.endBoardPage tag x

end Sys2Proof.Machine
end

