-- ==== Sys2Proof/Machine/DispatcherCommands.lean ====
section
/-!
DEFINITION. The dispatcher's commands and time (R120 to R122, R133, R135) and the router's LOAD_ROUTES (R138).
-/

namespace Sys2Proof.Machine

/-- The first of a list's items that fails a test, by its index. -/
def firstFault {α : Type} (ok : α → Bool) (xs : List α) : Option Nat := xs.findIdx? fun x => !ok x

/-- The reply field that names a faulty entry, where one is at fault; where none is, the reply has no such byte: a DESIGN
CHOICE (log entry 20). -/
def faultBody (i : Option Nat) : ReplyBody :=
  match i with
  | some k => .faultAt k
  | none => .none

/-! ## JOB_SUBMIT (R121, R122) -/

/-- The lowest free job record (R122). -/
def State.freeJob (s : State) : Option Nat := lowest Config.jobs fun j => (s.job j).isNone

/-- Whether JOB_SUBMIT's structural fields are in range (R121). -/
def jobFieldsOk (a : JobSubmitArgs) : Bool :=
  decide (a.document < Config.docs) && decide (a.desk < Config.desks) && decide (a.priority ≤ 3) &&
    decide (1 ≤ a.destinations.length) && decide (a.destinations.length ≤ Config.destinations) &&
    a.destinations.all dialStringOk

/-- The job record an accepted JOB_SUBMIT fills (R119, R122). -/
def State.newJob (s : State) (a : JobSubmitArgs) : Job :=
  { tag := a.jobTag, seq := s.dsp.counter, document := a.document, desk := a.desk, priority := a.priority,
    maxAttempts := clampNat a.maxAttempts 1 9, redial := clampNat a.redial 10 3600, submitTime := s.dsp.time,
    dests := a.destinations.map fun t => { dial := t } }

/-- JOB_SUBMIT (R121, R122): an accepted one raises the send hold and triggers an evaluation. -/
def State.submitJob (s : State) (tag : Nat) (a : JobSubmitArgs) : State :=
  if !jobFieldsOk a then s.reply tag 17 .badField 0 (faultBody (firstFault dialStringOk a.destinations))
  else if !s.docInUse a.document then s.reply tag 17 .notFound
  else if (s.doc a.document).state = .closed ∧ (s.doc a.document).pages = [] then s.reply tag 17 .state
  else match s.freeJob with
    | none => s.reply tag 17 .noSpace
    | some j =>
      let r := s.newJob a
      let s := s.setJob j (some r)
      let s := { s with dsp := { s.dsp with order := s.dsp.order ++ [j], counter := wrap16 s.dsp.counter } }
      let s := s.raiseSendHold a.document
      (s.replyOk tag 17 (clampedField a.maxAttempts 1 9 + clampedField a.redial 10 3600) (.jobAccepted j r.seq)).report
        .evaluate

/-- JOB_SUBMIT. -/
def execJobSubmit (tag : Nat) (a : Args JobSubmitArgs) (s : State) : Host.Outcome State Fault Refusal :=
  s.commandArgs tag 17 a fun x s => s.submitJob tag x

/-! ## JOB_CANCEL (R133) -/

/-- One destination of a cancelled job (R133): waiting ones become CANCELLED, and the line of one IN_CALL is asked to
set the closing flag. -/
def State.cancelDest (s : State) (j d : Nat) : State :=
  match s.dest j d with
  | some x =>
    if x.state.waits then
      s.setDest j d { x with state := .cancelled, due := none, timer := false, last := some .cancelled }
    else match x.state, x.line with
      | .inCall, some n => s.updCtx n fun c => { c with closing := true }
      | _, _ => s
  | none => s

/-- The number of a job's destinations that a cancel ends at once. -/
def Job.waiting (r : Job) : Nat := r.dests.countP fun x => x.state.waits

/-- The number of a job's destinations IN_CALL. -/
def Job.inCalls (r : Job) : Nat := r.dests.countP fun x => x.state == .inCall

/-- JOB_CANCEL (R133). -/
def State.cancelJob (s : State) (tag j : Nat) : State :=
  if Config.jobs ≤ j then s.reply tag 18 .badField
  else match s.job j with
    | none => s.reply tag 18 .notFound
    | some r =>
      if r.cancel then s.reply tag 18 .ok 0 (.jobCancelled 0 r.inCalls)
      else
        let s := s.reply tag 18 .ok 0 (.jobCancelled r.waiting r.inCalls)
        let s := s.setJob j (some { r with cancel := true })
        ((List.range r.dests.length).foldl (fun s d => s.cancelDest j d) s).completeJob j true

/-- JOB_CANCEL. -/
def execJobCancel (tag : Nat) (a : Args Nat) (s : State) : Host.Outcome State Fault Refusal :=
  s.commandArgs tag 18 a fun j s => s.cancelJob tag j

/-! ## JOB_QUERY (R135) -/

/-- The call id of a destination IN_CALL (R135). -/
def State.destCallId (s : State) (x : Dest) : Option Nat :=
  match x.state, x.line with
  | .inCall, some n => some (s.ctx n).callId
  | _, _ => none

/-- The destination states in the order of R119. -/
def allDestStates : List DestState := [.pending, .inCall, .waitRetry, .waitFunds, .done, .failed, .cancelled]

/-- One line of JOB_QUERY(255) (R135). -/
def State.jobLine (s : State) (j : Nat) : Option JobLine :=
  (s.job j).map fun r =>
    { id := j, tag := r.tag, seq := r.seq, document := r.document, priority := r.priority, state := r.state,
      counts := allDestStates.map fun g => r.dests.countP fun x => x.state == g }

/-- JOB_QUERY (R135). -/
def State.queryJob (s : State) (tag j : Nat) : State :=
  if j = 255 then s.reply tag 19 .ok 0 (.jobs s.dsp.time (s.dsp.order.filterMap s.jobLine))
  else if Config.jobs ≤ j then s.reply tag 19 .badField
  else match s.job j with
    | none => s.reply tag 19 .notFound
    | some r => s.reply tag 19 .ok 0 (.job s.dsp.time j r (r.dests.map s.destCallId))

/-- JOB_QUERY. -/
def execJobQuery (tag : Nat) (a : Args Nat) (s : State) : Host.Outcome State Fault Refusal :=
  s.commandArgs tag 19 a fun j s => s.queryJob tag j

/-! ## Dispatcher time (R120) -/

/-- DISPATCHER_TIME_TICK: dispatcher time rises by one second up to its upper value (R120). -/
def execDispatcherTimeTick (s : State) : Host.Outcome State Fault Refusal :=
  s.heed fun s => { s with dsp := { s.dsp with time := min (s.dsp.time + 1) Config.maxDispatcherTime } }

/-- A due timer expires once dispatcher time has reached its destination's due time (R120): an evaluation follows. -/
def State.dueExpires (s : State) (j d : Nat) : State :=
  match s.dest j d with
  | some x =>
    if x.timer = true ∧ x.state = .waitRetry ∧ x.due.getD 0 ≤ s.dsp.time then
      (s.setDest j d { x with timer := false }).report .evaluate
    else s
  | none => s

/-- DUE_TIMER_EXPIRY. -/
def execDueTimerExpiry (job : Fin 32) (dest : Fin 16) (s : State) : Host.Outcome State Fault Refusal :=
  s.heed fun s => s.dueExpires job.val dest.val

/-! ## LOAD_ROUTES (R138) -/

/-- Whether a routing rule's structural fields are in range (R138). -/
def routeRuleOk (r : RouteRule) : Bool :=
  tagOk r.tagPrefix && decide (1 ≤ r.mask) && decide (r.mask ≤ 15) && decide (r.desk < Config.desks) &&
    decide (r.priority ≤ 3)

/-- LOAD_ROUTES (R138): the whole table replaced, its copies clamped to 3. -/
def State.loadRoutes (s : State) (tag : Nat) (a : LoadRoutesArgs) : State :=
  if 32 < a.count ∨ a.rules.length ≠ a.count ∨ a.rules.all routeRuleOk = false then
    s.reply tag 20 .badField 0 (faultBody (firstFault routeRuleOk a.rules))
  else
    let rules := a.rules.map fun (r : RouteRule) => { r with copies := clampNat r.copies 0 3 }
    { s with rtr := { s.rtr with table := rules } }.replyOk tag 20
      ((a.rules.map fun (r : RouteRule) => clampedField r.copies 0 3).sum) (.ruleCount a.count)

/-- LOAD_ROUTES. -/
def execLoadRoutes (tag : Nat) (a : Args LoadRoutesArgs) (s : State) : Host.Outcome State Fault Refusal :=
  s.commandArgs tag 20 a fun x s => s.loadRoutes tag x

end Sys2Proof.Machine
end

