-- ==== Sys2Proof/Machine/DeskCommands.lean ====
section
/-!
DEFINITION. The charge unit's commands, its clock and its step boundaries (R165 to R171, R176).
-/

namespace Sys2Proof.Machine

/-! ## DESK_SET (R165) -/

/-- The standing a DESK_SET asks for: kind, pool and classes, where its structural fields are in range (R165). -/
def State.deskStanding (s : State) (a : DeskSetArgs) : Option (DeskKind × Option Nat × ClassSet) :=
  if Config.desks ≤ a.desk then none
  else match DeskKind.ofCode a.kind, ClassSet.ofMask a.classes with
    | some .member, some c =>
      if a.pool < Config.desks ∧ a.pool ≠ a.desk ∧ (s.desk a.pool).kind = .pool then some (.member, some a.pool, c) else none
    | some k, some c => some (k, none, c)
    | _, _ => none

/-- Whether some MEMBER desk names a desk as its pool. -/
def State.hasMembers (s : State) (d : Nat) : Bool :=
  (List.range Config.desks).any fun i => (s.desk i).poolOf == some d

/-- The lowest margin a balance allows: the greater of 0 and −balance (R165). -/
def lowestMargin (balance : Int) : Int := max 0 (-balance)

/-- 1 where a value lies out of a signed range, 0 otherwise. -/
def clampedInt (x lo hi : Int) : Nat := if x < lo ∨ hi < x then 1 else 0

/-- DESK_SET (R165). -/
def State.setDesk (s : State) (tag : Nat) (a : DeskSetArgs) : State :=
  match s.deskStanding a with
  | none => s.reply tag 24 .badField
  | some (kind, pool, classes) =>
    let d := s.desk a.desk
    if d.kind = .pool ∧ kind ≠ .pool ∧ s.hasMembers a.desk then s.reply tag 24 .state
    else if 0 < d.active ∧ (d.kind ≠ kind ∨ (kind = .member ∧ d.pool ≠ pool)) then s.reply tag 24 .inUse
    else
      let lo := lowestMargin d.balance
      let weight := if kind = .member then clampNat a.weight 0 4096 else 0
      let s := s.updDesk a.desk fun d =>
        { d with kind := kind, pool := pool, weight := weight, classes := classes, margin := clampInt a.margin lo 65535 }
      (s.replyOk tag 24
        ((if kind = .member then clampedField a.weight 0 4096 else 0) + clampedInt a.margin lo 65535)).report
        (.fundsChanged a.desk)

/-- DESK_SET. -/
def execDeskSet (tag : Nat) (a : Args DeskSetArgs) (s : State) : Host.Outcome State Fault Refusal :=
  s.commandArgs tag 24 a fun x s => s.setDesk tag x

/-! ## DESK_CREDIT (R166) -/

/-- DESK_CREDIT (R166). -/
def State.creditDesk (s : State) (tag : Nat) (a : DeskCreditArgs) : State :=
  let d := s.desk a.desk
  let b := d.balance + a.amount
  if Config.desks ≤ a.desk ∨ b < -d.margin ∨ Config.maxBalance < b then s.reply tag 25 .badField
  else
    ((s.updDesk a.desk fun d => { d with balance := b, credits := d.credits + a.amount }).reply tag 25 .ok 0
      (.balance b)).report (.fundsChanged a.desk)

/-- DESK_CREDIT. -/
def execDeskCredit (tag : Nat) (a : Args DeskCreditArgs) (s : State) : Host.Outcome State Fault Refusal :=
  s.commandArgs tag 25 a fun x s => s.creditDesk tag x

/-! ## DESK_PERIOD_CLOSE (R167) -/

/-- A desk's figures as its period closes (R167). -/
def Desk.periodLine (d : Desk) : PeriodLine :=
  { opening := d.opening, credits := d.credits, metered := d.metered, charged := d.charged, unrecovered := d.unrecovered,
    calls := d.calls, balance := d.balance }

/-- A desk with its period closed and, where an allowance is given, its balance set to it (R167). -/
def Desk.closePeriod (d : Desk) (allowance : Option Int) : Desk :=
  let b := allowance.getD d.balance
  { d with credits := 0, metered := 0, charged := 0, unrecovered := 0, calls := 0, balance := b, opening := b }

/-- The desks a DESK_PERIOD_CLOSE names, in ascending order (R167). -/
def desksNamed (d : Nat) : Option (List Nat) :=
  if d = 255 then some (List.range Config.desks) else if d < Config.desks then some [d] else none

/-- DESK_PERIOD_CLOSE (R167). -/
def State.closePeriods (s : State) (tag : Nat) (a : DeskPeriodCloseArgs) : State :=
  match desksNamed a.desk with
  | none => s.reply tag 26 .badField
  | some ds =>
    let absent := decide (a.allowance = 0xFFFFFFFF)
    let above := decide (2147483647 < a.allowance) && !absent
    let allowance : Option Int := if absent then none else some (min a.allowance 2147483647 : Nat)
    let ls := ds.map fun d => (s.desk d).periodLine
    let s := ds.foldl (fun s d => s.updDesk d (·.closePeriod allowance)) s
    let s := s.replyOk tag 26 above.toNat (.periods ls)
    if absent then s else ds.foldl (fun s d => s.report (.fundsChanged d)) s

/-- DESK_PERIOD_CLOSE. -/
def execDeskPeriodClose (tag : Nat) (a : Args DeskPeriodCloseArgs) (s : State) : Host.Outcome State Fault Refusal :=
  s.commandArgs tag 26 a fun x s => s.closePeriods tag x

/-! ## LOAD_DIAL_PLAN (R170) -/

/-- Whether a dial plan rule's fields are in range (R170). -/
def dialRuleOk (r : DialRuleArgs) : Bool :=
  decide (1 ≤ r.digits.length) && decide (r.digits.length ≤ 8) && r.digits.all isDigit &&
    (NumberClass.ofCode r.cls).isSome && decide (r.tariff < Config.tariffs) && decide (r.strip ≤ 8) &&
    decide (r.prepend.length ≤ 4) && r.prepend.all isDigit

/-- The index of the first of a list's keys that equals one before it: the rule that TABLE_INVALID names (R170), among
several repeats a DESIGN CHOICE (log entry 54). -/
def firstRepeat {α : Type} [DecidableEq α] : List α → List α → Nat → Option Nat
  | _, [], _ => none
  | before, x :: xs, i => if before.contains x then some i else firstRepeat (x :: before) xs (i + 1)

/-- The rule a load's fields make (R170). -/
def dialRuleOf (r : DialRuleArgs) : DialRule :=
  { digits := r.digits, cls := (NumberClass.ofCode r.cls).getD .blocked, tariff := r.tariff, strip := r.strip,
    prepend := r.prepend }

/-- LOAD_DIAL_PLAN (R170). DESIGN CHOICES: the rule a refusal names is counted from 0 (log entry 20), BAD_FIELD is judged
before TABLE_INVALID (log entry 26), and where several pairs of rules repeat a prefix, TABLE_INVALID names the first rule of
the list that repeats an earlier one (log entry 54). -/
def State.loadDialPlan (s : State) (tag : Nat) (a : LoadDialPlanArgs) : State :=
  if 128 < a.count ∨ a.rules.length ≠ a.count ∨ a.rules.all dialRuleOk = false then
    s.reply tag 27 .badField 0 (faultBody (firstFault dialRuleOk a.rules))
  else match firstRepeat [] (a.rules.map (·.digits)) 0 with
    | some i => s.reply tag 27 .tableInvalid 0 (.faultAt i)
    | none =>
      { s with chg := { s.chg with plan := a.rules.map dialRuleOf } }.reply tag 27 .ok 0 (.ruleCount a.count)

/-- LOAD_DIAL_PLAN. -/
def execLoadDialPlan (tag : Nat) (a : Args LoadDialPlanArgs) (s : State) : Host.Outcome State Fault Refusal :=
  s.commandArgs tag 27 a fun x s => s.loadDialPlan tag x

/-! ## LOAD_TARIFFS (R171) -/

/-- The tariff an entry's values make, clamped to their ranges (R171). -/
def tariffOf (e : TariffArgs) : Tariff :=
  { setupCp := clampNat e.setupCp 0 65535
    stepCp := clampNat e.stepCp 1 65535
    stepDs := [e.stepDs0, e.stepDs1, e.stepDs2, e.stepDs3].map fun d => clampNat d 10 36000
    minSteps := clampNat e.minSteps 0 15 }

/-- The number of an entry's values that are clamped (R171). -/
def tariffClamped (e : TariffArgs) : Nat :=
  clampedField e.setupCp 0 65535 + clampedField e.stepCp 1 65535 +
    ([e.stepDs0, e.stepDs1, e.stepDs2, e.stepDs3].map fun d => clampedField d 10 36000).sum + clampedField e.minSteps 0 15

/-- The tariff table of a load: the tariffs named loaded, the others empty (R171). -/
def tariffTable (es : List TariffArgs) : Vector (Option Tariff) 16 :=
  es.foldl (fun v e => tset v e.id (some (tariffOf e))) (Vector.replicate 16 none)

/-- LOAD_TARIFFS (R171). BAD_FIELD is judged before TABLE_INVALID: a DESIGN CHOICE (log entry 26). -/
def State.loadTariffs (s : State) (tag : Nat) (a : LoadTariffsArgs) : State :=
  if 16 < a.count ∨ a.entries.length ≠ a.count ∨ (a.entries.any fun e => decide (Config.tariffs ≤ e.id)) = true then
    s.reply tag 28 .badField
  else match firstRepeat [] (a.entries.map (·.id)) 0 with
    | some _ => s.reply tag 28 .tableInvalid
    | none =>
      { s with chg := { s.chg with tariffs := tariffTable a.entries } }.replyOk tag 28 ((a.entries.map tariffClamped).sum)

/-- LOAD_TARIFFS. -/
def execLoadTariffs (tag : Nat) (a : Args LoadTariffsArgs) (s : State) : Host.Outcome State Fault Refusal :=
  s.commandArgs tag 28 a fun x s => s.loadTariffs tag x

/-! ## LOAD_BANDS and SET_CLOCK (R168, R169) -/

/-- LOAD_BANDS (R169). -/
def State.loadBands (s : State) (tag : Nat) (bs : List Nat) : State :=
  if bs.length ≠ 168 ∨ (bs.any fun b => decide (3 < b)) = true then s.reply tag 29 .badField
  else { s with chg := { s.chg with bands := bs } }.reply tag 29 .ok

/-- LOAD_BANDS. -/
def execLoadBands (tag : Nat) (a : Args (List Nat)) (s : State) : Host.Outcome State Fault Refusal :=
  s.commandArgs tag 29 a fun x s => s.loadBands tag x

/-- SET_CLOCK (R168). -/
def State.setClock (s : State) (tag : Nat) (a : SetClockArgs) : State :=
  if 6 < a.day ∨ Config.dsPerDay ≤ a.time then s.reply tag 30 .badField
  else
    { s with chg := { s.chg with clock := { now := { day := a.day, time := a.time }, set := true } } }.reply tag 30 .ok

/-- SET_CLOCK. -/
def execSetClock (tag : Nat) (a : Args SetClockArgs) (s : State) : Host.Outcome State Fault Refusal :=
  s.commandArgs tag 30 a fun x s => s.setClock tag x

/-! ## Time (R168, R175, R176) -/

/-- The elapsed count of a line's call, where it runs, advanced by 1 ds (R175). -/
def Line.elapse (l : Line) : Line :=
  { l with ctx := l.ctx.map fun x => if x.elapsedOn then { x with elapsed := x.elapsed + 1 } else x }

/-- A tenth of a second passes (R168, R175): the clock and every running elapsed count advance by 1 ds. -/
def State.tick (s : State) : State :=
  { s with
    chg := { s.chg with clock := { s.chg.clock with now := s.chg.clock.now.tick } }
    lines := s.lines.map Line.elapse }

/-- CLOCK_TICK. -/
def execClockTick (s : State) : Host.Outcome State Fault Refusal := s.heed fun s => s.tick

/-- A step boundary of line `n`'s call (R176): it falls once the elapsed count has reached the next step due, and not
before (log entry 10). The guard either charges the step and times the next one by the band in force, or asks for the
FUNDS release. -/
def State.boundaryOf (s : State) (n : LineNo) : State :=
  let x := s.ctx n
  match x.nextDue, x.tariff with
  | some due, some t =>
    if x.elapsed < due then s
    else if s.guardPasses n t.stepCp then
      (s.charge n false t.stepCp).1.updCtx n fun x =>
        { x with steps := x.steps + 1, nextDue := some (due + t.stepDs.getD s.chg.band 0) }
    else (s.updCtx n fun x => { x with nextDue := none }).releaseCall n .funds
  | _, _ => s

/-- STEP_BOUNDARY. -/
def execStepBoundary (line : LineNo) (s : State) : Host.Outcome State Fault Refusal := s.heed fun s => s.boundaryOf line

end Sys2Proof.Machine
end

