-- ==== Sys2Proof/Machine/Documents.lean ====
section
/-!
DEFINITION. The document commands of the page memory manager (R20 to R23).
-/

namespace Sys2Proof.Machine

/-- The page memory manager's common check of a document field (section 1.6): above 63 BAD_FIELD, a free record
NOT_FOUND. -/
def State.docRefusal (s : State) (d : Nat) : Option ResultCode :=
  if Config.docs ≤ d then some .badField else if s.docInUse d then none else some .notFound

/-- DOC_HOLD (R20): the board hold is set. -/
def State.holdDoc (s : State) (tag d : Nat) : State :=
  match s.docRefusal d with
  | some r => s.reply tag 1 r
  | none => (s.setDoc d { s.doc d with boardHold := true }).reply tag 1 .ok

/-- DOC_HOLD. -/
def execDocHold (tag : Nat) (a : Args Nat) (s : State) : Host.Outcome State Fault Refusal :=
  s.commandArgs tag 1 a fun d s => s.holdDoc tag d

/-- DOC_RELEASE (R20): the board hold is cleared and the free test run. -/
def State.releaseDoc (s : State) (tag d : Nat) : State :=
  match s.docRefusal d with
  | some r => s.reply tag 2 r
  | none => ((s.setDoc d { s.doc d with boardHold := false }).freeTest d).reply tag 2 .ok

/-- DOC_RELEASE. -/
def execDocRelease (tag : Nat) (a : Args Nat) (s : State) : Host.Outcome State Fault Refusal :=
  s.commandArgs tag 2 a fun d s => s.releaseDoc tag d

/-- DOC_CLOSE (R21): refused STATE while the document is being filled or is CLOSED. -/
def State.closeByBoard (s : State) (tag d : Nat) : State :=
  match s.docRefusal d with
  | some r => s.reply tag 3 r
  | none =>
    if (s.doc d).state = .opened ∧ (s.doc d).filler = .none then (s.closeDoc d).reply tag 3 .ok else s.reply tag 3 .state

/-- DOC_CLOSE. -/
def execDocClose (tag : Nat) (a : Args Nat) (s : State) : Host.Outcome State Fault Refusal :=
  s.commandArgs tag 3 a fun d s => s.closeByBoard tag d

/-- The number of DATA blocks of a fetched page (R22). -/
def fetchBlocks (bytes : Nat) : Nat := max 1 (ceilDiv bytes 4096)

/-- DOC_FETCH (R22): the page's fetch reader is acquired and its DATA blocks become the upstream selector's last
source. -/
def State.fetchPage (s : State) (tag : Nat) (a : DocFetchArgs) : State :=
  if Config.docs ≤ a.document ∨ a.index < 1 ∨ 64 < a.index then s.reply tag 4 .badField
  else if !s.docInUse a.document then s.reply tag 4 .notFound
  else match s.docPage a.document a.index with
    | none => s.reply tag 4 .notFound
    | some p =>
      if !(s.page p).state.readable then s.reply tag 4 .state
      else if s.pmm.fetch.isSome then s.reply tag 4 .busy
      else match s.acquire .fetch p with
        | (s, none) => s.reply tag 4 .busy
        | (s, some r) =>
          let g := s.page p
          let f : Fetch := { tag := tag, page := r, blocks := fetchBlocks g.byteCount, next := 0 }
          { s with pmm := { s.pmm with fetch := some f } }.reply tag 4 .ok 0
            (.fetch g.byteCount g.lineCount g.state g.check)

/-- DOC_FETCH. -/
def execDocFetch (tag : Nat) (a : Args DocFetchArgs) (s : State) : Host.Outcome State Fault Refusal :=
  s.commandArgs tag 4 a fun x s => s.fetchPage tag x

/-- The summary line of a document (R23). -/
def State.docLine (s : State) (d : Nat) : DocLine :=
  let r := s.doc d
  { id := d, origin := r.origin, state := r.state, pages := r.pages.length, boardHold := r.boardHold,
    sendHold := r.sendHold, printHold := r.printHold, filler := r.filler }

/-- The documents in use, in ascending id. -/
def State.docsInUse (s : State) : List Nat := (List.range Config.docs).filter s.docInUse

/-- DOC_QUERY (R23). -/
def State.queryDoc (s : State) (tag d : Nat) : State :=
  if d = 255 then s.reply tag 5 .ok 0 (.documents (s.docsInUse.map s.docLine))
  else match s.docRefusal d with
    | some r => s.reply tag 5 r
    | none => s.reply tag 5 .ok 0 (.document d (s.doc d) ((s.doc d).pages.map fun p => (p, s.page p)))

/-- DOC_QUERY. -/
def execDocQuery (tag : Nat) (a : Args Nat) (s : State) : Host.Outcome State Fault Refusal :=
  s.commandArgs tag 5 a fun d s => s.queryDoc tag d

end Sys2Proof.Machine
end

