-- ==== Sys2Proof/Machine/LineCommands.lean ====
section
/-!
DEFINITION. The commands of the line channels, the events of their pins and timers, and the pump's line reports (R74, R75,
R79 to R92).
-/

namespace Sys2Proof.Machine

/-- The line a command's field names; above 3 none. -/
def lineNamed (n : Nat) : Option LineNo := if h : n < 4 then some ⟨n, h⟩ else none

/-! ## LINE_CONFIG (R74) -/

/-- An access prefix: at most 4 decimal digits (R74). -/
def accessPrefixOk (t : Text) : Bool := decide (t.length ≤ 4) && t.all isDigit

/-- The configuration a LINE_CONFIG loads, its tuning values clamped; none where a structural field is out of range or
the pump link does not offer the format (R74). -/
def lineConfigOf (a : LineConfigArgs) : Option LineConfig :=
  match Metering.ofCode a.metering, Parity.ofCode a.parity, BitOrder.ofCode a.bitOrder with
  | some m, some p, some o =>
    if !accessPrefixOk a.accessPrefix || !(a.stopBits == 1 || a.stopBits == 2) || (p == .odd && a.stopBits == 2) then none
    else some
      { enableIn := a.enableIn, enableOut := a.enableOut
        ringCount := clampNat a.ringCount 1 15, ringOnMin := clampNat a.ringOnMin 50 1000
        ringGapMax := clampNat a.ringGapMax 2 10, metering := m, pulseOnMin := clampNat a.pulseOnMin 10 250
        pulseCp := clampNat a.pulseCp 0 65535, maxStep := clampNat a.maxStep 0 5, accessPrefix := a.accessPrefix
        dialToneWait := clampNat a.dialToneWait 10 600, answerWait := clampNat a.answerWait 100 1800
        frameReply := clampNat a.frameReply 10 300, releaseGuard := clampNat a.releaseGuard 5 100
        parity := p, stopBits := a.stopBits, bitOrder := o, rateDivider := clampNat a.rateDivider 16 4095 }
  | _, _, _ => none

/-- The number of LINE_CONFIG's fields that are clamped (R74). -/
def lineConfigClamped (a : LineConfigArgs) : Nat :=
  clampedField a.ringCount 1 15 + clampedField a.ringOnMin 50 1000 + clampedField a.ringGapMax 2 10 +
    clampedField a.pulseOnMin 10 250 + clampedField a.pulseCp 0 65535 + clampedField a.maxStep 0 5 +
    clampedField a.dialToneWait 10 600 + clampedField a.answerWait 100 1800 + clampedField a.frameReply 10 300 +
    clampedField a.releaseGuard 5 100 + clampedField a.rateDivider 16 4095

/-- LINE_CONFIG (R74): an accepted one that leaves enable_out set on an IDLE line triggers an evaluation (R123). -/
def State.configLine (s : State) (tag : Nat) (a : LineConfigArgs) : State :=
  match lineNamed a.line with
  | none => s.reply tag 14 .badField
  | some n =>
    if (s.line n).state.inCall then s.reply tag 14 .inUse
    else match lineConfigOf a with
      | none => s.reply tag 14 .badField
      | some c =>
        let s := (s.updLine n fun l => { l with config := c }).replyOk tag 14 (lineConfigClamped a)
        if (s.line n).takesBind then s.report .evaluate else s

/-- LINE_CONFIG. -/
def execLineConfig (tag : Nat) (a : Args LineConfigArgs) (s : State) : Host.Outcome State Fault Refusal :=
  s.commandArgs tag 14 a fun x s => s.configLine tag x

/-! ## LINE_CONTROL (R92) -/

/-- ENABLE (R92). -/
def State.enableLine (s : State) (n : LineNo) : State :=
  let out := (s.line n).state == .outOfService
  let s := s.updLine n fun l => { l with enabled := true }
  if out then (s.enterIdle n).raise (.lineState n .idle .command) else s

/-- DISABLE (R92): at once in IDLE and RINGING, at the guard's end in a call. -/
def State.disableLine (s : State) (n : LineNo) : State :=
  let s := s.updLine n fun l => { l with enabled := false }
  match (s.line n).state with
  | .idle | .ringing => s.leaveService n .command
  | _ => s

/-- LINE_CONTROL (R92). -/
def State.controlLine (s : State) (tag : Nat) (a : LineControlArgs) : State :=
  match lineNamed a.line, a.action with
  | some n, 0 => (s.enableLine n).reply tag 15 .ok
  | some n, 1 => (s.disableLine n).reply tag 15 .ok
  | _, _ => s.reply tag 15 .badField

/-- LINE_CONTROL. -/
def execLineControl (tag : Nat) (a : Args LineControlArgs) (s : State) : Host.Outcome State Fault Refusal :=
  s.commandArgs tag 15 a fun x s => s.controlLine tag x

/-! ## STATION_CONFIG (R75) -/

/-- STATION_CONFIG (R75). -/
def State.configStation (s : State) (tag : Nat) (a : StationConfigArgs) : State :=
  if !tagOk a.tag then s.reply tag 16 .badField
  else
    let st : Station :=
      { tag := a.tag, keepRatio := clampNat a.keepRatio 0 63, maxConsec := clampNat a.maxConsec 0 255, k := clampNat a.k 1 8 }
    { s with station := st }.replyOk tag 16
      (clampedField a.keepRatio 0 63 + clampedField a.maxConsec 0 255 + clampedField a.k 1 8)

/-- STATION_CONFIG. -/
def execStationConfig (tag : Nat) (a : Args StationConfigArgs) (s : State) : Host.Outcome State Fault Refusal :=
  s.commandArgs tag 16 a fun x s => s.configStation tag x

/-! ## Ring input (R79, R86) -/

/-- The states in which the ring input is heeded (R79). -/
def LineState.heedsRing : LineState → Bool
  | .idle | .ringing => true
  | _ => false

/-- A change of the ring input (R79): active starts the qualification timer, inactive stops it. -/
def execRingInputChange (line : LineNo) (level : Bool) (s : State) : Host.Outcome State Fault Refusal :=
  let was := (s.line line).ringInput
  s.pin (·.updLine line fun l => { l with ringInput := level }) fun s =>
    s.updLine line fun l =>
      if !level then { l with ringQual := none }
      else if !was && l.state.heedsRing then { l with ringQual := some l.config.ringOnMin }
      else l

/-- The ring qualification timer expires with the input active (R79, R86). -/
def execRingBurstQualified (line : LineNo) (s : State) : Host.Outcome State Fault Refusal :=
  s.heed fun s => if (s.line line).ringQual.isSome then s.burst line else s

/-- The ring gap timer expires (R86). -/
def execRingGapExpiry (line : LineNo) (s : State) : Host.Outcome State Fault Refusal :=
  s.heed fun s => if (s.line line).ringGap.isSome then s.abandonRinging line else s

/-- LOOP_CHECK (R80). -/
def execLoopCheck (line : LineNo) (current : Bool) (s : State) : Host.Outcome State Fault Refusal :=
  s.heed fun s => s.checkLoop line current

/-! ## Meter input (R81, R177) -/

/-- Whether a line counts meter pulses: an outbound call from SEIZED to the end of its release guard (R81). -/
def Line.counts (l : Line) : Bool :=
  match l.ctx with
  | some x => x.dir == .out && l.state.inCall
  | none => false

/-- A change of the meter input (R81). -/
def execMeterInputChange (line : LineNo) (level : Bool) (s : State) : Host.Outcome State Fault Refusal :=
  let was := (s.line line).meterInput
  s.pin (·.updLine line fun l => { l with meterInput := level }) fun s =>
    s.updLine line fun l =>
      if !level then { l with meterQual := none }
      else if !was && l.counts then { l with meterQual := some l.config.pulseOnMin }
      else l

/-- A meter pulse is qualified (R81, R177): counted, and in PULSE mode charged as a mandatory charge. -/
def State.meterPulse (s : State) (n : LineNo) : State :=
  let l := s.line n
  if l.meterQual.isSome then
    let s := s.updLine n fun l => { l with meterQual := none }
    if l.counts then
      let s := s.updCtx n fun x => { x with pulses := x.pulses + 1 }
      if (s.ctx n).metering = .pulse then s.chargeCall n true (l.config.pulseCp : Int) else s
    else s
  else s

/-- METER_PULSE_QUALIFIED. -/
def execMeterPulseQualified (line : LineNo) (s : State) : Host.Outcome State Fault Refusal :=
  s.heed fun s => s.meterPulse line

/-! ## Tones, dialling and answer (R83 to R85) -/

/-- DIAL_TONE (R83, R84). -/
def State.dialToneHeard (s : State) (n : LineNo) : State :=
  let l := s.line n
  match l.state, l.dialWait with
  | .seized, _ => if l.loopFound then s.enterDialing n else s.updLine n fun l => { l with toneSeen := true }
  | .dialing, some .tone => (s.updLine n fun l => { l with dialToneWait := none }).dialNext n
  | _, _ => s

/-- DIAL_TONE. -/
def execDialTone (line : LineNo) (s : State) : Host.Outcome State Fault Refusal :=
  s.heed fun s => s.dialToneHeard line

/-- BUSY_TONE (R84, R85): BUSY in DIALING and AWAIT_ANSWER. -/
def State.busyToneHeard (s : State) (n : LineNo) : State :=
  match (s.line n).state with
  | .dialing | .awaitAnswer => s.releaseCall n .busy
  | _ => s

/-- BUSY_TONE. -/
def execBusyTone (line : LineNo) (s : State) : Host.Outcome State Fault Refusal :=
  s.heed fun s => s.busyToneHeard line

/-- FAR_ANSWER (R85): taken in AWAIT_ANSWER. -/
def execFarAnswer (line : LineNo) (s : State) : Host.Outcome State Fault Refusal :=
  s.heed fun s => if (s.line line).state = .awaitAnswer then s.farEndAnswers line else s

/-- The dial-tone wait timer expires (R83, R84). -/
def execDialToneWaitExpiry (line : LineNo) (s : State) : Host.Outcome State Fault Refusal :=
  s.heed fun s => if (s.line line).dialToneWait.isSome then s.releaseCall line .noDialTone else s

/-- The pause of a P ends (R84). -/
def execPauseExpiry (line : LineNo) (s : State) : Host.Outcome State Fault Refusal :=
  s.heed fun s =>
    if (s.line line).pause.isSome then (s.updLine line fun l => { l with pause := none }).dialNext line else s

/-- The answer wait timer expires (R85). -/
def execAnswerWaitExpiry (line : LineNo) (s : State) : Host.Outcome State Fault Refusal :=
  s.heed fun s => if (s.line line).answerWait.isSome then s.releaseCall line .noAnswer else s

/-- RELEASE_GUARD_EXPIRY (R91). -/
def execReleaseGuardExpiry (line : LineNo) (s : State) : Host.Outcome State Fault Refusal :=
  s.heed fun s => if (s.line line).releaseGuard.isSome then s.guardEnds line else s

/-! ## The pump link carries a character (R78, R84) -/

/-- Whether a character is a DIAL_DIGIT. -/
def PumpChar.isDialDigit : PumpChar → Bool
  | .dialDigit _ => true
  | _ => false

/-- The link has carried the character at its head (R78, R84): a DIAL_DIGIT lets dialling go on, and a send data phase
goes on. -/
def State.characterSent (s : State) (n : LineNo) : State :=
  let l := s.line n
  match l.tx with
  | [] => s
  | _ :: rest =>
    let s := s.updLine n fun l => { l with tx := rest }
    if l.state = .dialing ∧ l.dialWait = some .carried ∧ rest.any PumpChar.isDialDigit = false then s.dialNext n
    else s.sendProgress n

/-- PUMP_CHARACTER_SENT. -/
def execPumpCharacterSent (line : LineNo) (s : State) : Host.Outcome State Fault Refusal :=
  s.heed fun s => s.characterSent line

/-- The pace interval since the last data character's start has run out (R78). -/
def State.paceEnds (s : State) (n : LineNo) : State :=
  if (s.line n).pace.isSome then (s.updLine n fun l => { l with pace := none }).sendProgress n else s

/-- PACE_INTERVAL_EXPIRY. -/
def execPaceIntervalExpiry (line : LineNo) (s : State) : Host.Outcome State Fault Refusal :=
  s.heed fun s => s.paceEnds line

end Sys2Proof.Machine
end

