-- ==== Sys2Proof/Machine/PrintCommands.lean ====
section
/-!
DEFINITION. The print unit's commands and the events of the print engine's port (R151, R154 to R162).
-/

namespace Sys2Proof.Machine

/-- PRINT_DOC (R151). -/
def State.printDoc (s : State) (tag : Nat) (a : PrintDocArgs) : State :=
  if Config.docs ≤ a.document ∨ 3 < a.priority then s.reply tag 21 .badField
  else if !s.docInUse a.document then s.reply tag 21 .notFound
  else if (s.doc a.document).state = .closed ∧ (s.doc a.document).pages = [] then s.reply tag 21 .state
  else
    let seq := s.prt.counter
    match s.createEntry a.document .board (clampNat a.copies 1 9) a.priority with
    | (s, none) => s.reply tag 21 .noSpace
    | (s, some e) => s.replyOk tag 21 (clampedField a.copies 1 9) (.entry e seq)

/-- PRINT_DOC. -/
def execPrintDoc (tag : Nat) (a : Args PrintDocArgs) (s : State) : Host.Outcome State Fault Refusal :=
  s.commandArgs tag 21 a fun x s => s.printDoc tag x

/-- PRINT_CANCEL (R161). -/
def State.printCancel (s : State) (tag e : Nat) : State :=
  if Config.entries ≤ e then s.reply tag 22 .badField
  else match s.entry e with
    | none => s.reply tag 22 .notFound
    | some r => (s.cancelEntry e r).reply tag 22 .ok 0 (.printCancelled r.printed (r.copies - r.remaining))

/-- PRINT_CANCEL. -/
def execPrintCancel (tag : Nat) (a : Args Nat) (s : State) : Host.Outcome State Fault Refusal :=
  s.commandArgs tag 22 a fun e s => s.printCancel tag e

/-- PRINT_CONFIG (R162). -/
def State.configPrint (s : State) (tag w : Nat) : State :=
  if headWidthOk w then (s.updPrt fun p => { p with headWidth := w }).reply tag 23 .ok else s.reply tag 23 .badField

/-- PRINT_CONFIG. -/
def execPrintConfig (tag : Nat) (a : Args Nat) (s : State) : Host.Outcome State Fault Refusal :=
  s.commandArgs tag 23 a fun w s => s.configPrint tag w

/-- PAPER_PRESENT_CHANGE (R154, R160). -/
def execPaperPresentChange (level : Bool) (s : State) : Host.Outcome State Fault Refusal :=
  s.pin (·.updPrt fun p => { p with paper := level }) fun s => s.paperChange level

/-- ENGINE_READY takes a level (R158): with it active the line due is offered. -/
def execEngineReady (level : Bool) (s : State) : Host.Outcome State Fault Refusal :=
  s.pin (·.updPrt fun p => { p with ready := level }) fun s => s

/-- LINE_TAKEN (R158). -/
def execLineTaken (s : State) : Host.Outcome State Fault Refusal := s.heed fun s => s.takePrintLine

/-- PRINT_LINE_DECODED (R157). -/
def execPrintLineDecoded (s : State) : Host.Outcome State Fault Refusal := s.heed fun s => s.decodePrintLine

/-- CUT_DONE (R159, R161, R163). -/
def execCutDone (s : State) : Host.Outcome State Fault Refusal := s.heed fun s => s.cutFinished

end Sys2Proof.Machine
end

