-- ==== Sys2Proof/Machine/Resets.lean ====
section
/-!
DEFINITION. The two resets (R191, R192) with what each block does at them (R24, R49, R63, R94, R95, R136, R148, R163,
R182).
-/

namespace Sys2Proof.Machine

/-! ## Hard reset (R192) -/

/-- A line after a hard reset (R74, R78, R95): the pins' levels stand, and a data phase cut short has its DATA_STOP. The
characters handed to the pump link before are dropped (log entry 44). -/
def Line.hardReset (l : Line) : Line :=
  { ringInput := l.ringInput, meterInput := l.meterInput, tx := if l.phase.isSome then [.dataStop] else [] }

/-- Every block at its hard-reset values. What stays is the queue of commands, the pins' levels, the page memory's bytes
(log entry 2), the count of motor steps and the counter of free values; the page memory manager's generation rises
(R24). -/
def State.hardBlocks (s : State) : State :=
  { pending := s.pending
    pmm := { generation := s.pmm.generation + 1, mem := s.pmm.mem }
    scn := { tray := s.scn.tray, edge := s.scn.edge, motorSteps := s.scn.motorSteps }
    lines := s.lines.map Line.hardReset
    prt := { paper := s.prt.paper, ready := s.prt.ready, engine := if s.prt.paper then .idle else .held }
    freeIndex := s.freeIndex }

/-- The cause a START notice gives of a hard reset. -/
def HardCause.start : HardCause → StartCause
  | .power => .power
  | .pin => .pin

/-- The end of a hard reset (R192): START is raised with its cause and tag 0. -/
def State.hardReset (s : State) (cause : HardCause) : State :=
  s.hardBlocks.raise (.start (HardCause.start cause) Config.partCode Config.revision)

/-- HARD_RESET. -/
def execHardReset (cause : HardCause) (s : State) : Host.Outcome State Fault Refusal :=
  .next (s.hardReset cause).finish

/-- RESET_PIN_ASSERTED (R192): from now to the end of the hard reset the link is not heeded. -/
def execResetPinAsserted (s : State) : Host.Outcome State Fault Refusal := .next { s with inReset := true }

/-! ## Soft reset (R191) -/

/-- A line's call ended at a soft reset (R94, R182): the data phase stopped, the release's charges made and the record
completed with reason RESET. -/
def State.softRelease (s : State) (n : LineNo) : State :=
  if (s.line n).state.inCall then
    let s := (s.updCtx n fun x => { x with reason := some .reset, releaseTime := some s.now }).markClock n
    ((s.stopPhase n).chargeRelease n).completeRecord n
  else s

/-- A line after a soft reset (R94): no call, no timer and no frame body; IDLE or OUT_OF_SERVICE by its enabled flag.
The characters handed to the pump link stay with it. -/
def Line.softReset (l : Line) : Line :=
  { config := l.config, enabled := l.enabled, state := if l.enabled then .idle else .outOfService
    ringInput := l.ringInput, meterInput := l.meterInput, tx := l.tx
    ringQual := if l.enabled && l.ringInput then some l.config.ringOnMin else none }

/-- The scan unit after a soft reset (R33, R35, R49). -/
def Scn.softReset (u : Scn) : Scn :=
  { config := u.config, dark := u.dark, gain := u.gain, valid := u.valid, bg := u.bg, tray := u.tray, edge := u.edge
    motorSteps := u.motorSteps }

/-- The print unit after a soft reset (R163): a page in progress is cut. -/
def Prt.softReset (p : Prt) : Prt :=
  { headWidth := p.headWidth, paper := p.paper, ready := p.ready, engine := p.engine
    phase := if p.engine = .printing then .cut else .lines, cutRequest := p.engine = .printing }

/-- The board link interface after a soft reset (R189, R191). -/
def Bli.softReset (b : Bli) : Bli :=
  { rx := b.rx, mask := b.mask, mode := b.mode, period := b.period
    reportTimer := if b.mode = .stream then some b.period else none }

/-- Every block at its soft-reset values, the calls' records completed first (R24, R63, R136, R148, R182). -/
def State.softBlocks (s : State) : State :=
  let s := allLines.foldl State.softRelease s
  { s with
    pmm := { generation := s.pmm.generation + 1, mem := s.pmm.mem }
    scn := s.scn.softReset
    lcd := { slots := s.lcd.slots, config := s.lcd.config }
    lines := s.lines.map Line.softReset
    dsp := {}
    rtr := { table := s.rtr.table }
    prt := s.prt.softReset
    chg := { s.chg with reservations := 0, desks := s.chg.desks.map fun d => { d with active := 0 } }
    bli := s.bli.softReset
    reports := [] }

/-- LINE_STATE of a line in service after a soft reset (R94). -/
def State.softLineState (s : State) (n : LineNo) : State :=
  if (s.line n).state = .outOfService then s else s.raise (.lineState n (s.line n).state .reset)

/-- A soft reset (R191): the blocks' own resets, LINE_STATE for each line in service, and START with cause SOFT and the
command's tag. -/
def State.softReset (s : State) (tag : Nat) : State :=
  (allLines.foldl State.softLineState s.softBlocks).raise (.start .soft Config.partCode Config.revision) tag

/-- SOFT_RESET: no REPLY is sent for it (R191). -/
def execSoftReset (tag : Nat) (a : Args Unit) (s : State) : Host.Outcome State Fault Refusal :=
  s.commandArgs tag 34 a fun _ s => s.softReset tag

end Sys2Proof.Machine
end

