-- ==== Sys2Proof/Machine/ScanCommands.lean ====
section
/-!
DEFINITION. The commands of the scan unit and the events of its sensors, its head and its timers (R27 to R47).
-/

namespace Sys2Proof.Machine

/-! ## SCAN_CONFIG (R27) -/

/-- The numbers of lines a calibration pass may have (R27). -/
def passLinesOk (n : Nat) : Bool := n == 4 || n == 8 || n == 16 || n == 32

/-- The configuration a SCAN_CONFIG loads, its tuning values clamped (R27). -/
def scanConfigOf (a : ScanConfigArgs) : ScanConfig :=
  { clockDivider := clampNat a.clockDivider 1 127
    target := clampNat a.target 64 250
    large := a.band == 1
    weakLimit := clampNat a.weakLimit 0 255
    nDark := a.nDark
    nWhite := a.nWhite
    beta := clampNat a.beta 2 8
    thr := clampNat a.thr 1 255
    hys := clampNat a.hys 0 255
    speckMin := clampNat a.speckMin 0 4
    scanWait := clampNat a.scanWait 0 600 }

/-- The number of SCAN_CONFIG's fields that are clamped (R27). -/
def scanConfigClamped (a : ScanConfigArgs) : Nat :=
  clampedField a.clockDivider 1 127 + clampedField a.target 64 250 + clampedField a.weakLimit 0 255 +
    clampedField a.beta 2 8 + clampedField a.thr 1 255 + clampedField a.hys 0 255 + clampedField a.speckMin 0 4 +
    clampedField a.scanWait 0 600

/-- SCAN_CONFIG (R27): BUSY unless IDLE, then the enumerations, then the clamps. -/
def State.configScan (s : State) (tag : Nat) (a : ScanConfigArgs) : State :=
  if s.scn.state ≠ .idle then s.reply tag 9 .busy
  else if !passLinesOk a.nDark || !passLinesOk a.nWhite || decide (1 < a.band) then s.reply tag 9 .badField
  else (s.updScn fun u => { u with config := scanConfigOf a }).replyOk tag 9 (scanConfigClamped a)

/-- SCAN_CONFIG. -/
def execScanConfig (tag : Nat) (a : Args ScanConfigArgs) (s : State) : Host.Outcome State Fault Refusal :=
  s.commandArgs tag 9 a fun x s => s.configScan tag x

/-! ## CALIBRATE (R28) -/

/-- CALIBRATE (R28). -/
def State.calibrate (s : State) (tag : Nat) : State :=
  if s.scn.state ≠ .idle then s.reply tag 6 .busy
  else if s.scn.edge then s.reply tag 6 .state
  else (s.reply tag 6 .ok).beginCalibration

/-- CALIBRATE. -/
def execCalibrate (tag : Nat) (a : Args Unit) (s : State) : Host.Outcome State Fault Refusal :=
  s.commandArgs tag 6 a fun _ s => s.calibrate tag

/-! ## SCAN_START (R38, R39) -/

/-- Whether SCAN_START's fields are in range (R38, check 1). -/
def scanStartFieldsOk (a : ScanStartArgs) : Bool :=
  docFieldOk a.document && decide (a.desk < Config.desks) && widthOk a.width && (Density.ofCode a.density).isSome &&
    (!a.copy || (decide (a.copyPriority ≤ 3) && a.document == 255))

/-- The refusal of a SCAN_START, in the order of R38. During a calibration too a field out of range is answered BAD_FIELD,
where R28 says BUSY of every command: a DESIGN CHOICE (log entry 26). -/
def State.scanStartRefusal (s : State) (a : ScanStartArgs) : Option ResultCode :=
  if !scanStartFieldsOk a then some .badField
  else if s.scn.state ≠ .idle ∨ s.lcd.board.isSome then some .busy
  else if !s.loaded s.lcd.config.slot then some .noCodeSet
  else match if a.document = 255 then none else s.writerRefusal a.document .scan with
    | some r => some r
    | none =>
      if (a.document = 255 ∧ s.freeDocRecord = none) ∨ s.freePageRecord = none ∨ (a.copy = true ∧ s.freeEntry = none) then
        some .noSpace
      else none

/-- The session's document: created, or bound to the scan unit (R39, step 1). -/
def State.scanDocument (s : State) (a : ScanStartArgs) : State × Option Nat :=
  if a.document = 255 then s.createDoc (if a.copy then .copy else .scan) a.desk .scn
  else (s.setDoc a.document { s.doc a.document with filler := .scn }, some a.document)

/-- Calibration or WAIT_PAPER at a session's start (R28, R39, step 4). -/
def State.startSession (s : State) (autoCal : Bool) : State :=
  if autoCal then
    if s.scn.edge then (s.raise (.calResult .skipped 0)).waitPaper else s.beginCalibration
  else s.waitPaper

/-- The session fields of an accepted SCAN_START, its calibration or wait, and the reply (R39, steps 3 and 4). -/
def State.openSession (s : State) (tag : Nat) (a : ScanStartArgs) (d : Nat) : State :=
  let x : ScanSession :=
    { document := d, desk := a.desk, copy := a.copy, width := a.width, density := (Density.ofCode a.density).getD .std,
      slot := s.lcd.config.slot, coding := s.lcd.config.coding }
  let s := (s.updScn fun u => { u with session := some x }).updLcd fun l => { l with mode := .scan }
  (s.startSession a.autoCal).replyOk tag 7 (if a.copy then clampedField a.copies 1 9 else 0) (.docId d)

/-- An accepted SCAN_START (R39). With no document record, or no print entry for a COPY (R150), it is answered NO_SPACE
and no session starts; the COPY document just created is closed, and the free test frees it. -/
def State.beginScan (s : State) (tag : Nat) (a : ScanStartArgs) : State :=
  match s.scanDocument a with
  | (s, none) => s.reply tag 7 .noSpace
  | (s, some d) =>
    if a.copy then
      match s.createEntry d .copy (clampNat a.copies 1 9) a.copyPriority with
      | (s, some _) => s.openSession tag a d
      | (s, none) => ((s.unbind d).closeDoc d).reply tag 7 .noSpace
    else s.openSession tag a d

/-- SCAN_START (R38, R39). -/
def State.startScan (s : State) (tag : Nat) (a : ScanStartArgs) : State :=
  match s.scanStartRefusal a with
  | some r => s.reply tag 7 r
  | none => s.beginScan tag a

/-- SCAN_START. -/
def execScanStart (tag : Nat) (a : Args ScanStartArgs) (s : State) : Host.Outcome State Fault Refusal :=
  s.commandArgs tag 7 a fun x s => s.startScan tag x

/-! ## SCAN_STOP (R47) -/

/-- SCAN_STOP (R47): STATE where no session runs. -/
def State.stopScan (s : State) (tag : Nat) : State :=
  match s.scn.session, s.scn.state with
  | none, _ => s.reply tag 8 .state
  | some _, .idle => s.reply tag 8 .state
  | some _, .calibrating => ((s.raise (.calResult .aborted 0)).endScan .stopped true).reply tag 8 .ok
  | some _, _ => (s.discardScanPage.endScan .stopped true).reply tag 8 .ok

/-- SCAN_STOP. -/
def execScanStop (tag : Nat) (a : Args Unit) (s : State) : Host.Outcome State Fault Refusal :=
  s.commandArgs tag 8 a fun _ s => s.stopScan tag

/-! ## Sensors, lines and timers (R29, R30, R40, R41, R44, R46) -/

/-- The tray-paper sensor takes a level (R40): active, it begins the feed of a session that waits. -/
def execTrayPaperSensorActive (level : Bool) (s : State) : Host.Outcome State Fault Refusal :=
  s.pin (·.updScn fun u => { u with tray := level }) fun s =>
    match s.scn.state, s.scn.session with
    | .waitPaper, some x => if level && !x.feeding then s.feed else s
    | _, _ => s

/-- The edge sensor takes a level (R40): active, it begins the feed of a session that waits, or takes the sheet being
fed into SCANNING. -/
def execEdgeSensorActive (level : Bool) (s : State) : Host.Outcome State Fault Refusal :=
  s.pin (·.updScn fun u => { u with edge := level }) fun s =>
    match s.scn.state, s.scn.session with
    | .waitPaper, some x => if level then (if x.feeding then s.enterScanning else s.feed) else s
    | _, _ => s

/-- CAL_LINE_TAKEN (R29, R30). -/
def execCalLineTaken (samples : List Byte) (s : State) : Host.Outcome State Fault Refusal :=
  s.heed fun s => s.takeCalLine samples

/-- SCAN_LINE_TAKEN (R41). -/
def execScanLineTaken (samples : List Byte) (s : State) : Host.Outcome State Fault Refusal :=
  s.heed fun s => s.takeScanLine samples

/-- The jam timer's expiry while feeding (R44). -/
def State.jam (s : State) : State :=
  match s.scn.session with
  | some x => if x.jamTimer.isSome then s.discardScanPage.endScan .jam false else s
  | none => s

/-- JAM_TIMER_EXPIRY. -/
def execJamTimerExpiry (s : State) : Host.Outcome State Fault Refusal := s.heed fun s => s.jam

/-- The memory wait's expiry in PAUSED_MEMORY (R46). -/
def State.memoryWaitEnds (s : State) : State :=
  match s.scn.session with
  | some x => if x.memWait.isSome then s.discardScanPage.endScan .memory false else s
  | none => s

/-- MEMORY_WAIT_EXPIRY. -/
def execMemoryWaitExpiry (s : State) : Host.Outcome State Fault Refusal := s.heed fun s => s.memoryWaitEnds

end Sys2Proof.Machine
end

