-- ==== Sys2Proof/Machine/SessionCommands.lean ====
section
/-!
DEFINITION. The events of the session protocol: what the pump delivers and reports, and the frame reply timer (R77, R78,
R88, R96 to R116).
-/

namespace Sys2Proof.Machine

/-- DATA_CHARACTER_RECEIVED (R76 to R78, R109). -/
def execDataCharacterReceived (line : LineNo) (byte : Byte) (parityError : Bool) (s : State) :
    Host.Outcome State Fault Refusal :=
  s.heed fun s => s.takeData line byte parityError

/-- DATA_READY (R78, R105, R107). -/
def execDataReady (line : LineNo) (s : State) : Host.Outcome State Fault Refusal := s.heed fun s => s.phaseReady line

/-- TRAIN_FAIL (R78, R106). -/
def execTrainFail (line : LineNo) (s : State) : Host.Outcome State Fault Refusal := s.heed fun s => s.phaseFails line

/-- CARRIER_LOST (R88, R115, R116). -/
def execCarrierLost (line : LineNo) (s : State) : Host.Outcome State Fault Refusal := s.heed fun s => s.loseCarrier line

/-- FRAME_BEGIN (R77, R78, R110). -/
def execFrameBegin (line : LineNo) (s : State) : Host.Outcome State Fault Refusal := s.heed fun s => s.openFrame line

/-- FRAME_END (R77). -/
def execFrameEnd (line : LineNo) (s : State) : Host.Outcome State Fault Refusal := s.heed fun s => s.closeFrame line

/-- OFFER delivered (R101). -/
def execOffer (line : LineNo) (f : OfferFields) (s : State) : Host.Outcome State Fault Refusal :=
  s.heed fun s => s.deliver line (.offer f)

/-- CHOOSE delivered (R102, R103, R99). -/
def execChoose (line : LineNo) (f : ChooseFields) (s : State) : Host.Outcome State Fault Refusal :=
  s.heed fun s => s.deliver line (.choose f)

/-- ACCEPT delivered (R104). -/
def execAccept (line : LineNo) (s : State) : Host.Outcome State Fault Refusal := s.heed fun s => s.deliver line .accept

/-- DECLINE delivered (R104, R108). -/
def execDecline (line : LineNo) (reason : Nat) (s : State) : Host.Outcome State Fault Refusal :=
  s.heed fun s => s.deliver line (.decline reason)

/-- PAGE_HEAD delivered (R107). -/
def execPageHead (line : LineNo) (number attempt step : Nat) (s : State) : Host.Outcome State Fault Refusal :=
  s.heed fun s => s.deliver line (.pageHead number attempt step)

/-- PAGE_TAIL delivered (R110 to R112, R99). -/
def execPageTail (line : LineNo) (lines bytes : Nat) (check : BitVec 16) (s : State) : Host.Outcome State Fault Refusal :=
  s.heed fun s => s.deliver line (.pageTail lines bytes check)

/-- PAGE_ACK delivered (R113). -/
def execPageAck (line : LineNo) (number verdict bad : Nat) (s : State) : Host.Outcome State Fault Refusal :=
  s.heed fun s => s.deliver line (.pageAck number verdict bad)

/-- END delivered (R115). -/
def execEndFrame (line : LineNo) (pages : Nat) (s : State) : Host.Outcome State Fault Refusal :=
  s.heed fun s => s.deliver line (.endCall pages)

/-- END_ACK delivered (R114). -/
def execEndAck (line : LineNo) (s : State) : Host.Outcome State Fault Refusal := s.heed fun s => s.deliver line .endAck

/-- FRAME_REPLY_EXPIRY (R98, R99, R106, R115). -/
def execFrameReplyExpiry (line : LineNo) (s : State) : Host.Outcome State Fault Refusal :=
  s.heed fun s => s.replyExpires line

end Sys2Proof.Machine
end

