-- ==== Sys2Proof/Machine/Dispatch.lean ====
section
/-! DEFINITION. The command taken to its meaning: one arm per row of spec/opcode_table.json. -/

namespace Sys2Proof.Machine

/-- A command's effect on everything but the queue. -/
def exec (i : Instr) (s : State) : Host.Outcome State Fault Refusal :=
  match i with
  | .hardReset cause => Sys2Proof.Machine.execHardReset cause s
  | .softReset tag a => Sys2Proof.Machine.execSoftReset tag a s
  | .badBlock tag => Sys2Proof.Machine.execBadBlock tag s
  | .blockLengthDiscard type tag lenHi lenLo => Sys2Proof.Machine.execBlockLengthDiscard type tag lenHi lenLo s
  | .unknownCommand tag code => Sys2Proof.Machine.execUnknownCommand tag code s
  | .blockSent => Sys2Proof.Machine.execBlockSent s
  | .reportTimerExpiry => Sys2Proof.Machine.execReportTimerExpiry s
  | .docHold tag a => Sys2Proof.Machine.execDocHold tag a s
  | .docRelease tag a => Sys2Proof.Machine.execDocRelease tag a s
  | .docClose tag a => Sys2Proof.Machine.execDocClose tag a s
  | .docFetch tag a => Sys2Proof.Machine.execDocFetch tag a s
  | .docQuery tag a => Sys2Proof.Machine.execDocQuery tag a s
  | .calibrate tag a => Sys2Proof.Machine.execCalibrate tag a s
  | .scanStart tag a => Sys2Proof.Machine.execScanStart tag a s
  | .scanStop tag a => Sys2Proof.Machine.execScanStop tag a s
  | .scanConfig tag a => Sys2Proof.Machine.execScanConfig tag a s
  | .loadCodeSet tag a => Sys2Proof.Machine.execLoadCodeSet tag a s
  | .boardPageBegin tag a => Sys2Proof.Machine.execBoardPageBegin tag a s
  | .boardPageEnd tag a => Sys2Proof.Machine.execBoardPageEnd tag a s
  | .coderConfig tag a => Sys2Proof.Machine.execCoderConfig tag a s
  | .docLines tag body => Sys2Proof.Machine.execDocLines tag body s
  | .lineConfig tag a => Sys2Proof.Machine.execLineConfig tag a s
  | .lineControl tag a => Sys2Proof.Machine.execLineControl tag a s
  | .stationConfig tag a => Sys2Proof.Machine.execStationConfig tag a s
  | .jobSubmit tag a => Sys2Proof.Machine.execJobSubmit tag a s
  | .jobCancel tag a => Sys2Proof.Machine.execJobCancel tag a s
  | .jobQuery tag a => Sys2Proof.Machine.execJobQuery tag a s
  | .loadRoutes tag a => Sys2Proof.Machine.execLoadRoutes tag a s
  | .printDoc tag a => Sys2Proof.Machine.execPrintDoc tag a s
  | .printCancel tag a => Sys2Proof.Machine.execPrintCancel tag a s
  | .printConfig tag a => Sys2Proof.Machine.execPrintConfig tag a s
  | .deskSet tag a => Sys2Proof.Machine.execDeskSet tag a s
  | .deskCredit tag a => Sys2Proof.Machine.execDeskCredit tag a s
  | .deskPeriodClose tag a => Sys2Proof.Machine.execDeskPeriodClose tag a s
  | .loadDialPlan tag a => Sys2Proof.Machine.execLoadDialPlan tag a s
  | .loadTariffs tag a => Sys2Proof.Machine.execLoadTariffs tag a s
  | .loadBands tag a => Sys2Proof.Machine.execLoadBands tag a s
  | .setClock tag a => Sys2Proof.Machine.execSetClock tag a s
  | .noticeMask tag a => Sys2Proof.Machine.execNoticeMask tag a s
  | .reportMode tag a => Sys2Proof.Machine.execReportMode tag a s
  | .statusQuery tag a => Sys2Proof.Machine.execStatusQuery tag a s
  | .startAck tag a => Sys2Proof.Machine.execStartAck tag a s
  | .clockTick => Sys2Proof.Machine.execClockTick s
  | .dispatcherTimeTick => Sys2Proof.Machine.execDispatcherTimeTick s
  | .trayPaperSensorActive level => Sys2Proof.Machine.execTrayPaperSensorActive level s
  | .edgeSensorActive level => Sys2Proof.Machine.execEdgeSensorActive level s
  | .calLineTaken samples => Sys2Proof.Machine.execCalLineTaken samples s
  | .scanLineTaken samples => Sys2Proof.Machine.execScanLineTaken samples s
  | .jamTimerExpiry => Sys2Proof.Machine.execJamTimerExpiry s
  | .memoryWaitExpiry => Sys2Proof.Machine.execMemoryWaitExpiry s
  | .ringInputChange line level => Sys2Proof.Machine.execRingInputChange line level s
  | .ringBurstQualified line => Sys2Proof.Machine.execRingBurstQualified line s
  | .ringGapExpiry line => Sys2Proof.Machine.execRingGapExpiry line s
  | .loopCheck line current => Sys2Proof.Machine.execLoopCheck line current s
  | .meterInputChange line level => Sys2Proof.Machine.execMeterInputChange line level s
  | .meterPulseQualified line => Sys2Proof.Machine.execMeterPulseQualified line s
  | .dialTone line => Sys2Proof.Machine.execDialTone line s
  | .busyTone line => Sys2Proof.Machine.execBusyTone line s
  | .farAnswer line => Sys2Proof.Machine.execFarAnswer line s
  | .dialToneWaitExpiry line => Sys2Proof.Machine.execDialToneWaitExpiry line s
  | .pauseExpiry line => Sys2Proof.Machine.execPauseExpiry line s
  | .answerWaitExpiry line => Sys2Proof.Machine.execAnswerWaitExpiry line s
  | .pumpCharacterSent line => Sys2Proof.Machine.execPumpCharacterSent line s
  | .dataCharacterReceived line byte parityError => Sys2Proof.Machine.execDataCharacterReceived line byte parityError s
  | .dataReady line => Sys2Proof.Machine.execDataReady line s
  | .trainFail line => Sys2Proof.Machine.execTrainFail line s
  | .carrierLost line => Sys2Proof.Machine.execCarrierLost line s
  | .frameBegin line => Sys2Proof.Machine.execFrameBegin line s
  | .offer line f => Sys2Proof.Machine.execOffer line f s
  | .choose line f => Sys2Proof.Machine.execChoose line f s
  | .accept line => Sys2Proof.Machine.execAccept line s
  | .decline line reason => Sys2Proof.Machine.execDecline line reason s
  | .pageHead line number attempt step => Sys2Proof.Machine.execPageHead line number attempt step s
  | .pageTail line lines bytes check => Sys2Proof.Machine.execPageTail line lines bytes check s
  | .pageAck line number verdict bad => Sys2Proof.Machine.execPageAck line number verdict bad s
  | .endFrame line pages => Sys2Proof.Machine.execEndFrame line pages s
  | .endAck line => Sys2Proof.Machine.execEndAck line s
  | .frameReplyExpiry line => Sys2Proof.Machine.execFrameReplyExpiry line s
  | .releaseGuardExpiry line => Sys2Proof.Machine.execReleaseGuardExpiry line s
  | .dueTimerExpiry job dest => Sys2Proof.Machine.execDueTimerExpiry job dest s
  | .stepBoundary line => Sys2Proof.Machine.execStepBoundary line s
  | .paperPresentChange level => Sys2Proof.Machine.execPaperPresentChange level s
  | .engineReady level => Sys2Proof.Machine.execEngineReady level s
  | .lineTaken => Sys2Proof.Machine.execLineTaken s
  | .printLineDecoded => Sys2Proof.Machine.execPrintLineDecoded s
  | .cutDone => Sys2Proof.Machine.execCutDone s
  | .resetPinAsserted => Sys2Proof.Machine.execResetPinAsserted s
  | .frameEnd line => Sys2Proof.Machine.execFrameEnd line s
  | .paceIntervalExpiry line => Sys2Proof.Machine.execPaceIntervalExpiry line s

end Sys2Proof.Machine
end

