-- ==== Sys2Proof/Safety.lean ====
section
/-!
DEFINITION. What claims about the part are stated in: what is owed to the board controller, what a command leaves alone,
and the laws the manual says the part keeps.
-/

namespace Sys2Proof.Machine

/-! ## What is owed upstream -/

/-- The replies the part still owes the board controller, oldest first: the one being sent and those queued (R184,
R187). -/
def State.repliesOwed (s : State) : List Reply :=
  (match s.bli.sending with
   | some (.reply r) => [r]
   | _ => []) ++ s.bli.replies

/-- The notices still owed, oldest first: the one being sent and those queued (R187, R188). -/
def State.noticesOwed (s : State) : List Notice :=
  (match s.bli.sending with
   | some (.notice m) => [m]
   | _ => []) ++ s.bli.notices

/-- The STATUS block being sent or pending, the pending one last (R189). -/
def State.statusOwed (s : State) : List StatusBody :=
  (match s.bli.sending with
   | some (.status b) => [b]
   | _ => []) ++ s.bli.status.toList

/-- The flag of a notice kind in the event summary (R187). -/
def State.flagged (s : State) (k : NoticeKind) : Bool := tget s.bli.summary.kinds k.index false

/-- The reply a command builds in a state: it carries the reset-unacknowledged flag as it stands (R186). -/
def State.replyNow (s : State) (tag code : Nat) (result : ResultCode) (clamped : Nat := 0) (body : ReplyBody := .none) :
    Reply :=
  { tag := tag, code := code, result := result, unack := s.bli.unack, clamped := clamped, body := body }

/-- OK, or OK_CLAMPED where fields were clamped (R185). -/
def okCode (clamped : Nat) : ResultCode := if clamped = 0 then .ok else .okClamped

/-- From `s` to `t` a reply is owed after those owed before, or, the queue holding 8, it is dropped and REPLY_LOST set
(R184). -/
def Answered (s t : State) (r : Reply) : Prop :=
  t.repliesOwed = (if s.bli.replies.length < 8 then s.repliesOwed ++ [r] else s.repliesOwed) ∧
  t.bli.summary.replyLost = (s.bli.summary.replyLost || decide (8 ≤ s.bli.replies.length))

/-! ## Frames -/

/-- What a running fetch is, whichever of its blocks has been chosen for sending (R22). -/
def Fetch.fixed (f : Fetch) : Nat × PageRef × Nat := (f.tag, f.page, f.blocks)

/-- Nothing but the board link interface and the progress of a running fetch differs between `s` and `t`. -/
def SameButLink (s t : State) : Prop :=
  t = { s with pmm := { s.pmm with fetch := t.pmm.fetch }, bli := t.bli, reports := [] } ∧
  t.pmm.fetch.map Fetch.fixed = s.pmm.fetch.map Fetch.fixed

/-- The board link interface stands but for replies and the choice of a block: notices and STATUS owed, the summary's kind
flags, mask, mode, period, report timer and the reset-unacknowledged flag. -/
def LinkKept (s t : State) : Prop :=
  t.noticesOwed = s.noticesOwed ∧ t.statusOwed = s.statusOwed ∧ t.bli.summary.kinds = s.bli.summary.kinds ∧
  t.bli.mask = s.bli.mask ∧ t.bli.mode = s.bli.mode ∧ t.bli.period = s.bli.period ∧
  t.bli.reportTimer = s.bli.reportTimer ∧ t.bli.unack = s.bli.unack

/-- From `s` to `t` the part is answered with a reply and nothing else changes; the parser is back in HUNT. -/
def OnlyAnswered (s t : State) (r : Reply) : Prop :=
  Answered s t r ∧ LinkKept s t ∧ t.bli.rx = {} ∧ SameButLink s t

/-- From `s` to `t` no block changes but the board link's choice of a block to send. -/
def NothingButChoice (s t : State) : Prop :=
  t.repliesOwed = s.repliesOwed ∧ t.bli.summary = s.bli.summary ∧ LinkKept s t ∧ t.bli.rx = s.bli.rx ∧ SameButLink s t

/-! ## When a release is asked for -/

/-- Whether a command asks for the release of line `n`'s call in a state, and with which reason (R90): BUSY_TONE and the
dial-tone and answer waits (R83 to R85), CARRIER_LOST (R88, R115), END_ACK (R114), the RESEND of a second attempt (R113),
the second training failure of a caller's page (R106), the frame reply timer at its third expiry or in LINGER (R98, R99,
R115), and a step that cannot be afforded (R89, R176). -/
def State.releaseAsked (s : State) (n : LineNo) (c : Instr) : Option EndReason :=
  let l := s.line n
  let x := s.ctx n
  let y := s.sess n
  let thrice : Bool := y.request.any fun q => decide (3 ≤ q.sent)
  match c with
  | .busyTone k => if k = n ∧ (l.state = .dialing ∨ l.state = .awaitAnswer) then some .busy else none
  | .dialToneWaitExpiry k =>
    if k = n ∧ l.dialToneWait.isSome = true ∧ (l.state = .seized ∨ l.state = .dialing) then some .noDialTone else none
  | .answerWaitExpiry k =>
    if k = n ∧ l.answerWait.isSome = true ∧ l.state = .awaitAnswer then some .noAnswer else none
  | .carrierLost k =>
    if k = n ∧ l.state.takesFrames = true then
      some (if y.role = .callee ∧ y.stage = .linger then y.lingerReason else .carrierLost)
    else none
  | .endAck k =>
    if k = n ∧ l.state = .closing ∧ l.phase = none ∧ y.role = .caller ∧ y.stage = .waitEndAck then
      y.closeCause.map CloseCause.reason
    else none
  | .pageAck k m v _ =>
    if k = n ∧ l.state = .sending ∧ l.phase = none ∧ y.role = .caller ∧ y.stage = .waitAck ∧ v = Verdict.resend.code ∧
        x.page = some m ∧ 1 ≤ m ∧ m ≤ 64 ∧ x.attempt = some 2 then some .protocolTimeout else none
  | .trainFail k =>
    if k = n ∧ l.state.takesFrames = true ∧ l.awaiting.isSome = true ∧ y.role = .caller ∧ 1 ≤ y.trainFails then
      some .trainFail
    else none
  | .frameReplyExpiry k =>
    if k = n ∧ l.state.takesFrames = true ∧ l.frameReply.isSome = true then
      match y.stage with
      | .waitReply | .waitAck | .offered => if thrice then some .protocolTimeout else none
      | .waitEndAck => if thrice then y.closeCause.map CloseCause.reason else none
      | .waitOffer | .declined | .waitHead | .waitTail => if 2 ≤ y.expiries then some .protocolTimeout else none
      | .training => if y.role = .caller ∧ 1 ≤ y.trainFails then some .trainFail else none
      | .linger => some y.lingerReason
      | .sendingData | .receivingData => none
    else none
  | .stepBoundary k =>
    match x.nextDue, x.tariff with
    | some due, some t =>
      if k = n ∧ l.state.releasable = true ∧ due ≤ x.elapsed ∧ s.guardPasses n t.stepCp = false then some .funds else none
    | _, _ => none
  | _ => none

/-! ## Holds -/

/-- A document record once one of its print holds is lowered and the free test run (R14, R16): free where it is CLOSED and
no other hold stands. -/
def DocRec.printHoldLowered (d : DocRec) : DocRec :=
  if d.state = .closed ∧ d.boardHold = false ∧ d.sendHold = 0 ∧ d.printHold ≤ 1 then {}
  else { d with printHold := d.printHold - 1 }

/-- A document record once one of its send holds is lowered and the free test run (R14, R16). -/
def DocRec.sendHoldLowered (d : DocRec) : DocRec :=
  if d.state = .closed ∧ d.boardHold = false ∧ d.printHold = 0 ∧ d.sendHold ≤ 1 then {}
  else { d with sendHold := d.sendHold - 1 }

/-- A document that the free test frees by its holds alone: it is not RECEIVED, or holds a page COMPLETE or DAMAGED
(R16). -/
abbrev State.freedByHolds (s : State) (d : Nat) : Prop :=
  (s.doc d).origin ≠ .received ∨ ∃ p ∈ (s.doc d).pages, (s.page p).state.readable = true

/-- A print entry past the boundary of its page (R152, R159): one page more printed and the next page index one higher, or
back at 1 with one copy less to go where the copy has ended and another remains; none where the entry is finished. -/
def Entry.pastPage (r : Entry) : Option Entry :=
  let r := { r with printed := min (r.printed + 1) 65535, next := r.next + 1 }
  match r.finalCount with
  | some n =>
    if r.next ≤ n then some r
    else if 1 < r.remaining ∧ n ≠ 0 then some { r with remaining := r.remaining - 1, next := 1 }
    else none
  | none => some r

/-! ## What a release leaves -/

/-- Whether page `p` is the page that line `n`'s callee is writing, FILLING still (R116). -/
def State.writes (s : State) (n : LineNo) (p : Nat) : Bool :=
  (s.sess n).page == some { page := p, gen := s.pmm.generation } && (s.page p).state == .filling

/-- The pages of document `d` that the release of line `n`'s call leaves: all but the page being written where it holds no
byte (R90, R116). -/
def State.pagesLeft (s : State) (n : LineNo) (d : Nat) : List Nat :=
  (s.doc d).pages.filter fun p => !(s.writes n p && (s.page p).byteCount == 0)

/-- Page `p` as the release of line `n`'s call leaves it: the page being written DAMAGED with the codec's counts, another
one as it was (R8, R70, R116). -/
def State.pageLeft (s : State) (n : LineNo) (p : Nat) : PageRec :=
  let l := s.line n
  let q := if l.phase.any fun f => f.dir == .receive && f.ready then l.codec.finish else l.codec
  let g := s.page p
  if s.writes n p then
    { g with state := .damaged, lineCount := min q.found g.density.maxLines, badLines := min q.bad 65535, final := true }
  else g

/-- What an outcome of the call `x` makes of its destination `d` of job `j`: the call's pages are added and the destination
is settled (R128). -/
def State.destAfter (s : State) (x : Ctx) (j : Job) (d : Dest) (o : CallOutcome) : Dest :=
  { d with confirmed := d.confirmed + x.confirmed }.settle j (s.doc j.document).pages.length s.dsp.time o

/-- Destination `jd` of job `j` has been left as `z` by an outcome (R128 to R131, R134). DEST_RESULT is raised, behind the
notices `before` of the same event where notices are sent. While a destination of the job is not terminal the job stays with
its document; after the last one the job is completed: its record freed, the send hold lowered, JOB_DONE raised. -/
def OutcomeSettled (s t : State) (jd : Nat × Nat) (j : Job) (z : Dest) (info : OutcomeInfo) (before : List Notice) : Prop :=
  let dests := j.dests.set jd.2 z
  let result : Notice :=
    { tag := 0, time := s.now
      body := .destResult jd.1 j.tag jd.2 z.state z.attempts z.calls z.confirmed
        (if z.state = .waitRetry then z.due else none) z.last (some info) }
  let done : Notice :=
    { tag := 0, time := s.now
      body := .jobDone jd.1 j.tag j.seq j.document (if j.cancel then .cancelled else .done)
        (dests.map fun d => (d.state, d.attempts, d.calls, d.confirmed, d.last)) }
  let sent : Prop := s.bli.enabled .destResult = true ∧ s.bli.enabled .jobDone = true ∧
    s.bli.notices.length + before.length + 2 ≤ 32
  t.flagged .destResult = true ∧ (∀ k, k ≠ jd.1 → t.job k = s.job k) ∧
  (dests.all (·.state.terminal) = false →
    t.job jd.1 = some { j with dests := dests } ∧ t.dsp.order = s.dsp.order ∧ t.doc j.document = s.doc j.document ∧
    (sent → t.noticesOwed = s.noticesOwed ++ before ++ [result])) ∧
  (dests.all (·.state.terminal) = true →
    t.job jd.1 = none ∧ t.dsp.order = s.dsp.order.erase jd.1 ∧ t.flagged .jobDone = true ∧
    t.doc j.document = (s.doc j.document).sendHoldLowered ∧
    (sent → t.noticesOwed = s.noticesOwed ++ before ++ [result, done]))

/-! ## The laws the part keeps -/

/-- The queues stay within their places: 8 replies (R184) and 32 notices (R188). -/
def State.queuesBounded (s : State) : Prop :=
  s.bli.replies.length ≤ Config.replyPlaces ∧ s.bli.notices.length ≤ Config.noticePlaces

/-- The two equalities of R164 for one desk. -/
def Desk.balanced (d : Desk) : Prop :=
  d.metered = d.charged + d.unrecovered ∧ d.balance = d.opening + d.credits - d.charged

/-- Every desk keeps the equalities of R164. -/
def State.ledgersBalanced (s : State) : Prop := ∀ i : Fin 16, s.chg.desks[i].balanced

/-- The clock, the counters and the tables stay in their ranges: R31 (gains), R37 (background) with R27 (target), R93,
R118, R149 and R180 (the counters that wrap), R120 (dispatcher time), R168 (clock), R169 (bands), R162 (head width),
R189 (period). -/
def State.inRange (s : State) : Prop :=
  (∀ g ∈ s.scn.gain, 64 ≤ g ∧ g ≤ 1023) ∧
  64 ≤ s.scn.config.target ∧ s.scn.config.target ≤ 250 ∧ (∀ b ∈ s.scn.bg, b ≤ 65280) ∧
  s.callCounter ≤ 65535 ∧ s.dsp.counter ≤ 65535 ∧ s.prt.counter ≤ 65535 ∧ s.chg.counter ≤ 65535 ∧
  s.dsp.time ≤ Config.maxDispatcherTime ∧
  s.chg.clock.now.day ≤ 6 ∧ s.chg.clock.now.time < Config.dsPerDay ∧
  (s.chg.bands = [] ∨ s.chg.bands.length = 168) ∧ (∀ b ∈ s.chg.bands, b ≤ 3) ∧
  headWidthOk s.prt.headWidth = true ∧ 1 ≤ s.bli.period ∧ s.bli.period ≤ 255

/-- The readers of every page stay within the limits of their kinds: 4 transmissions, 1 print, 1 fetch (R10). -/
def State.readersWithinLimits (s : State) : Prop :=
  ∀ p : Fin 256, s.pmm.pages[p].transmissions ≤ 4 ∧ s.pmm.pages[p].prints ≤ 1 ∧ s.pmm.pages[p].fetches ≤ 1

/-- Where a line's release guard and its dialling pause can run: the guard in RELEASING (R91), the pause in DIALING while
dialling waits for it (R84). -/
def Line.timersInPlace (l : Line) : Prop :=
  (l.releaseGuard.isSome = true → l.state = .releasing) ∧
  (l.pause.isSome = true → l.state = .dialing ∧ l.dialWait = some .pause)

/-- The number of lines in a call. -/
def State.callsInProgress (s : State) : Nat := s.lines.toList.countP fun l => l.state.inCall

/-- Charge record places (R93, R179): each line in a call holds exactly one reservation, reserved and queued places
together are at most 64, and every line's timers run where they can. -/
def State.placesReserved (s : State) : Prop :=
  s.chg.reservations = s.callsInProgress ∧ s.chg.reservations + s.chg.queue.length ≤ Config.recordPlaces ∧
  ∀ n : LineNo, (s.line n).timersInPlace

/-- A desk within its margin: the margin lies in 0..65535 (R165) and the balance is not below its negative (R174). -/
def Desk.withinMargin (d : Desk) : Prop := 0 ≤ d.margin ∧ d.margin ≤ 65535 ∧ -d.margin ≤ d.balance

/-- No desk's balance is below the negative of its margin (R174), and no desk is its own pool, in its record (R165) or in
a call's context (R93). -/
def State.marginsHeld (s : State) : Prop :=
  (∀ i : Fin 16, s.chg.desks[i].withinMargin ∧ s.chg.desks[i].poolOf ≠ some i.val) ∧
  ∀ n : LineNo, ∀ x ∈ (s.line n).ctx, x.pool ≠ some (x.desk.getD 0)

/-- A code set as a load installs it (R50, R51): 32 terminal and 64 bulk words of each colour, no word a prefix of another
of its colour or of the mark word, nor the mark word of any. -/
def CodeSet.sound (c : CodeSet) : Prop :=
  c.whiteTerm.length = 32 ∧ c.blackTerm.length = 32 ∧ c.whiteBulk.length = 64 ∧ c.blackBulk.length = 64 ∧
  c.prefixFree = true

end Sys2Proof.Machine
end

