-- ==== Sys2Proof/WellFormed.lean ====
section
/-!
DEFINITION. Well-formed commands: the operands that a block, a frame, a character or a pin can bring. The meanings take
ill-formed operands too; a range that a rule judges with a reply (BAD_FIELD, a clamp) is no condition here, only the width
of the field on the wire (R193).
-/

namespace Sys2Proof

/-- A number that fits `n` bytes. -/
def fitsBytes (n v : Nat) : Bool := decide (v < 256 ^ n)

/-- A string that its length byte can announce. -/
def fitsText (t : List Byte) : Bool := decide (t.length < 256)

/-- Fields that a check judges; a body that disagrees with its layout has none. -/
def Args.all {α : Type} (p : α → Bool) : Args α → Bool
  | .fields a => p a
  | .malformed => true

/-- DOC_FETCH on the wire. -/
def DocFetchArgs.wf (a : DocFetchArgs) : Bool := fitsBytes 1 a.document && fitsBytes 1 a.index

/-- SCAN_START on the wire. -/
def ScanStartArgs.wf (a : ScanStartArgs) : Bool :=
  fitsBytes 1 a.document && fitsBytes 1 a.desk && fitsBytes 2 a.width && fitsBytes 1 a.density &&
    fitsBytes 1 a.copyPriority && fitsBytes 1 a.copies

/-- A number of calibration lines behind its enumeration byte: 0 stands for a byte that names none. -/
def passLinesWf (n : Nat) : Bool := n == 0 || n == 4 || n == 8 || n == 16 || n == 32

/-- SCAN_CONFIG on the wire. -/
def ScanConfigArgs.wf (a : ScanConfigArgs) : Bool :=
  fitsBytes 1 a.clockDivider && fitsBytes 1 a.target && fitsBytes 1 a.band && fitsBytes 1 a.weakLimit &&
    passLinesWf a.nDark && passLinesWf a.nWhite && fitsBytes 1 a.beta && fitsBytes 1 a.thr && fitsBytes 1 a.hys &&
    fitsBytes 1 a.speckMin && fitsBytes 2 a.scanWait

/-- LOAD_CODE_SET on the wire: its count is the number of its entries. -/
def LoadCodeSetArgs.wf (a : LoadCodeSetArgs) : Bool :=
  fitsBytes 1 a.slot && fitsBytes 2 a.number && fitsBytes 2 a.count && a.entries.length == a.count &&
    a.entries.all fun e => fitsBytes 1 e.length

/-- BOARD_PAGE_BEGIN on the wire. -/
def BoardPageBeginArgs.wf (a : BoardPageBeginArgs) : Bool :=
  fitsBytes 1 a.document && fitsBytes 2 a.width && fitsBytes 1 a.density

/-- CODER_CONFIG on the wire. -/
def CoderConfigArgs.wf (a : CoderConfigArgs) : Bool := fitsBytes 1 a.slot && fitsBytes 1 a.coding && fitsBytes 1 a.k

/-- LINE_CONFIG on the wire. -/
def LineConfigArgs.wf (a : LineConfigArgs) : Bool :=
  fitsBytes 1 a.line && fitsBytes 1 a.ringCount && fitsBytes 2 a.ringOnMin && fitsBytes 1 a.ringGapMax &&
    fitsBytes 1 a.metering && fitsBytes 1 a.pulseOnMin && fitsBytes 2 a.pulseCp && fitsBytes 1 a.maxStep &&
    fitsText a.accessPrefix && fitsBytes 2 a.dialToneWait && fitsBytes 2 a.answerWait && fitsBytes 2 a.frameReply &&
    fitsBytes 1 a.releaseGuard && fitsBytes 1 a.parity && fitsBytes 1 a.stopBits && fitsBytes 1 a.bitOrder &&
    fitsBytes 2 a.rateDivider

/-- LINE_CONTROL on the wire. -/
def LineControlArgs.wf (a : LineControlArgs) : Bool := fitsBytes 1 a.line && fitsBytes 1 a.action

/-- STATION_CONFIG on the wire. -/
def StationConfigArgs.wf (a : StationConfigArgs) : Bool :=
  fitsText a.tag && fitsBytes 1 a.keepRatio && fitsBytes 1 a.maxConsec && fitsBytes 1 a.k

/-- JOB_SUBMIT on the wire. -/
def JobSubmitArgs.wf (a : JobSubmitArgs) : Bool :=
  fitsBytes 2 a.jobTag && fitsBytes 1 a.document && fitsBytes 1 a.desk && fitsBytes 1 a.priority &&
    fitsBytes 1 a.maxAttempts && fitsBytes 2 a.redial && fitsBytes 1 a.destinations.length && a.destinations.all fitsText

/-- A routing rule on the wire. -/
def RouteRule.wf (r : RouteRule) : Bool :=
  fitsText r.tagPrefix && fitsBytes 1 r.mask && fitsBytes 1 r.desk && fitsBytes 1 r.priority && fitsBytes 1 r.copies

/-- LOAD_ROUTES on the wire. -/
def LoadRoutesArgs.wf (a : LoadRoutesArgs) : Bool :=
  fitsBytes 1 a.count && a.rules.length == a.count && a.rules.all RouteRule.wf

/-- PRINT_DOC on the wire. -/
def PrintDocArgs.wf (a : PrintDocArgs) : Bool := fitsBytes 1 a.document && fitsBytes 1 a.copies && fitsBytes 1 a.priority

/-- DESK_SET on the wire. -/
def DeskSetArgs.wf (a : DeskSetArgs) : Bool :=
  fitsBytes 1 a.desk && fitsBytes 1 a.kind && fitsBytes 1 a.pool && fitsBytes 2 a.weight && fitsBytes 1 a.classes &&
    fitsBytes 2 a.margin

/-- DESK_CREDIT on the wire: a signed amount of four bytes. -/
def DeskCreditArgs.wf (a : DeskCreditArgs) : Bool :=
  fitsBytes 1 a.desk && decide (-2147483648 ≤ a.amount) && decide (a.amount ≤ 2147483647)

/-- DESK_PERIOD_CLOSE on the wire. -/
def DeskPeriodCloseArgs.wf (a : DeskPeriodCloseArgs) : Bool := fitsBytes 1 a.desk && fitsBytes 4 a.allowance

/-- A dial plan rule on the wire. -/
def DialRuleArgs.wf (r : DialRuleArgs) : Bool :=
  fitsText r.digits && fitsBytes 1 r.cls && fitsBytes 1 r.tariff && fitsBytes 1 r.strip && fitsText r.prepend

/-- LOAD_DIAL_PLAN on the wire. -/
def LoadDialPlanArgs.wf (a : LoadDialPlanArgs) : Bool :=
  fitsBytes 1 a.count && a.rules.length == a.count && a.rules.all DialRuleArgs.wf

/-- A tariff entry on the wire. -/
def TariffArgs.wf (e : TariffArgs) : Bool :=
  fitsBytes 1 e.id && fitsBytes 2 e.setupCp && fitsBytes 2 e.stepCp && fitsBytes 2 e.stepDs0 && fitsBytes 2 e.stepDs1 &&
    fitsBytes 2 e.stepDs2 && fitsBytes 2 e.stepDs3 && fitsBytes 1 e.minSteps

/-- LOAD_TARIFFS on the wire. -/
def LoadTariffsArgs.wf (a : LoadTariffsArgs) : Bool :=
  fitsBytes 1 a.count && a.entries.length == a.count && a.entries.all TariffArgs.wf

/-- LOAD_BANDS on the wire. -/
def bandsWf (bs : List Nat) : Bool := fitsBytes 1 bs.length && bs.all (fitsBytes 1)

/-- SET_CLOCK on the wire. -/
def SetClockArgs.wf (a : SetClockArgs) : Bool := fitsBytes 1 a.day && fitsBytes 3 a.time

/-- REPORT_MODE on the wire. -/
def ReportModeArgs.wf (a : ReportModeArgs) : Bool := fitsBytes 1 a.mode && fitsBytes 1 a.period

/-- OFFER on the wire: a frame's body has at most 128 bytes (R77). -/
def OfferFields.wf (f : OfferFields) : Bool :=
  decide (f.tag.length + 2 * f.codes.length + 8 ≤ 128) && f.codes.all (fitsBytes 2) && fitsBytes 2 f.maxWidth &&
    fitsBytes 1 f.maxStep && fitsBytes 1 f.maxPages

/-- CHOOSE on the wire: a frame's body has at most 128 bytes (R77). -/
def ChooseFields.wf (f : ChooseFields) : Bool :=
  decide (f.tag.length + 10 ≤ 128) && fitsBytes 2 f.code && fitsBytes 1 f.coding && fitsBytes 2 f.width &&
    fitsBytes 1 f.density && fitsBytes 1 f.step && fitsBytes 1 f.pages

/-- The samples of a line: as many as were asked for, 2048 at most. -/
def samplesWf (bs : List Byte) : Bool := decide (bs.length ≤ Config.columns)

/-- A command whose operands its block, frame, character or pin can bring. -/
def Instr.wf : Instr → Bool
  | .hardReset _ => true
  | .softReset tag _ => fitsBytes 1 tag
  | .badBlock tag => fitsBytes 1 tag
  | .blockLengthDiscard _ _ hi lo => decide (Config.maxBody < 256 * hi.toNat + lo.toNat)
  | .unknownCommand tag code =>
    fitsBytes 1 tag && (match code with
      | none => true
      | some c => fitsBytes 1 c && (c == 0 || decide (35 < c)))
  | .blockSent => true
  | .reportTimerExpiry => true
  | .docHold tag a | .docRelease tag a | .docClose tag a | .docQuery tag a => fitsBytes 1 tag && a.all (fitsBytes 1)
  | .docFetch tag a => fitsBytes 1 tag && a.all DocFetchArgs.wf
  | .calibrate tag _ | .scanStop tag _ => fitsBytes 1 tag
  | .scanStart tag a => fitsBytes 1 tag && a.all ScanStartArgs.wf
  | .scanConfig tag a => fitsBytes 1 tag && a.all ScanConfigArgs.wf
  | .loadCodeSet tag a => fitsBytes 1 tag && a.all LoadCodeSetArgs.wf
  | .boardPageBegin tag a => fitsBytes 1 tag && a.all BoardPageBeginArgs.wf
  | .boardPageEnd tag _ => fitsBytes 1 tag
  | .coderConfig tag a => fitsBytes 1 tag && a.all CoderConfigArgs.wf
  | .docLines tag body => fitsBytes 1 tag && decide (body.length ≤ Config.maxBody)
  | .lineConfig tag a => fitsBytes 1 tag && a.all LineConfigArgs.wf
  | .lineControl tag a => fitsBytes 1 tag && a.all LineControlArgs.wf
  | .stationConfig tag a => fitsBytes 1 tag && a.all StationConfigArgs.wf
  | .jobSubmit tag a => fitsBytes 1 tag && a.all JobSubmitArgs.wf
  | .jobCancel tag a | .jobQuery tag a => fitsBytes 1 tag && a.all (fitsBytes 1)
  | .loadRoutes tag a => fitsBytes 1 tag && a.all LoadRoutesArgs.wf
  | .printDoc tag a => fitsBytes 1 tag && a.all PrintDocArgs.wf
  | .printCancel tag a => fitsBytes 1 tag && a.all (fitsBytes 1)
  | .printConfig tag a => fitsBytes 1 tag && a.all (fitsBytes 2)
  | .deskSet tag a => fitsBytes 1 tag && a.all DeskSetArgs.wf
  | .deskCredit tag a => fitsBytes 1 tag && a.all DeskCreditArgs.wf
  | .deskPeriodClose tag a => fitsBytes 1 tag && a.all DeskPeriodCloseArgs.wf
  | .loadDialPlan tag a => fitsBytes 1 tag && a.all LoadDialPlanArgs.wf
  | .loadTariffs tag a => fitsBytes 1 tag && a.all LoadTariffsArgs.wf
  | .loadBands tag a => fitsBytes 1 tag && a.all bandsWf
  | .setClock tag a => fitsBytes 1 tag && a.all SetClockArgs.wf
  | .noticeMask tag a => fitsBytes 1 tag && a.all (fitsBytes 2)
  | .reportMode tag a => fitsBytes 1 tag && a.all ReportModeArgs.wf
  | .statusQuery tag _ | .startAck tag _ => fitsBytes 1 tag
  | .clockTick | .dispatcherTimeTick => true
  | .trayPaperSensorActive _ | .edgeSensorActive _ => true
  | .calLineTaken samples | .scanLineTaken samples => samplesWf samples
  | .jamTimerExpiry | .memoryWaitExpiry => true
  | .ringInputChange _ _ | .ringBurstQualified _ | .ringGapExpiry _ | .loopCheck _ _ => true
  | .meterInputChange _ _ | .meterPulseQualified _ => true
  | .dialTone _ | .busyTone _ | .farAnswer _ => true
  | .dialToneWaitExpiry _ | .pauseExpiry _ | .answerWaitExpiry _ => true
  | .pumpCharacterSent _ => true
  | .dataCharacterReceived _ _ _ => true
  | .dataReady _ | .trainFail _ | .carrierLost _ | .frameBegin _ => true
  | .offer _ f => f.wf
  | .choose _ f => f.wf
  | .accept _ => true
  | .decline _ r => fitsBytes 1 r
  | .pageHead _ n a st => fitsBytes 1 n && fitsBytes 1 a && fitsBytes 1 st
  | .pageTail _ l b _ => fitsBytes 2 l && fitsBytes 4 b
  | .pageAck _ n v b => fitsBytes 1 n && fitsBytes 1 v && fitsBytes 2 b
  | .endFrame _ n => fitsBytes 1 n
  | .endAck _ => true
  | .frameReplyExpiry _ | .releaseGuardExpiry _ => true
  | .dueTimerExpiry _ _ | .stepBoundary _ => true
  | .paperPresentChange _ | .engineReady _ => true
  | .lineTaken | .printLineDecoded | .cutDone | .resetPinAsserted => true
  | .frameEnd _ | .paceIntervalExpiry _ => true

end Sys2Proof
end

