-- ==== Sys2Proof/Certificates/Slice0/Obligations.lean ====
section
/-!
DEFINITION. The statements for the provers. `s.inReset = false` says that the part is not in a hard reset (R192). A
statement of what a command does concludes that `exec` answers a next state and says what that state holds.
-/

open Sys2Proof Sys2Proof.Machine

/-! ## The step and the resets -/

/-- A step takes the command at the front of the queue: it is the command's meaning on the state with the queue's rest. -/
def Sys2Proof.Claims.StepTakesFrontCommand : Prop :=
  ∀ (c : Instr) (s : State) (rest : List Instr), s.pending = c :: rest →
    Machine.step s = exec c { s with pending := rest }

/-- With no command waiting a step changes nothing. The model's choice (log entry 6). -/
def Sys2Proof.Claims.IdleStepChangesNothing : Prop :=
  ∀ s : State, s.pending = [] → Machine.step s = .next s

/-- The rows that are heeded during a hard reset: its own two and those that carry a pin's level (R192, log entry 40). -/
def Sys2Proof.Machine.heededInReset : Instr → Bool
  | .hardReset _ | .resetPinAsserted | .trayPaperSensorActive _ | .edgeSensorActive _ | .ringInputChange _ _
  | .meterInputChange _ _ | .paperPresentChange _ | .engineReady _ => true
  | _ => false

/-- During a hard reset every other command leaves the part as it is: R192 says so of the link, and that ticks, expiries and
the rows of the mechanisms are not heeded either is the model's reading (log entry 40, DEDUCED). -/
def Sys2Proof.Claims.NothingElseIsHeededInReset : Prop :=
  ∀ (c : Instr) (s : State), s.inReset = true → heededInReset c = false → exec c s = .next s

/-- RESET_PIN_ASSERTED: from then the part is in reset, with the attention line released and nothing else changed; and a
pin's row changes that pin's level alone. That the pins' levels are taken during the reset is the model's reading (log
entry 40, DEDUCED). -/
def Sys2Proof.Claims.ResetPinHoldsThePart : Prop :=
  (∀ s : State, ∃ t, exec .resetPinAsserted s = .next t ∧ t = { s with inReset := true } ∧ t.attention = false) ∧
  (∀ (s : State) (v : Bool) (n : LineNo), s.inReset = true →
    exec (.trayPaperSensorActive v) s = .next { s with scn := { s.scn with tray := v } } ∧
    exec (.edgeSensorActive v) s = .next { s with scn := { s.scn with edge := v } } ∧
    exec (.paperPresentChange v) s = .next { s with prt := { s.prt with paper := v } } ∧
    exec (.engineReady v) s = .next { s with prt := { s.prt with ready := v } } ∧
    exec (.ringInputChange n v) s = .next (s.updLine n fun l => { l with ringInput := v }) ∧
    exec (.meterInputChange n v) s = .next (s.updLine n fun l => { l with meterInput := v }))

/-- HARD_RESET: the link's values of R192, START the only block owed and the one being sent, its flag the only one of the
event summary that may be set; the page memory with every segment free, no link, no user of a slot, MEMORY_LOW armed and
nothing pending (R2, R17 to R19, R22, R24); the scan unit in IDLE with D 0, G 256, the valid flag clear, B 56320, no
session and motor and lamp off (R27, R33, R35, R49); line coder, lines, dispatcher, router and charge unit at their
values (R63, R74, R95, R136, R148, R182), the DATA_STOP of a data phase cut short handed to its link (R78); and the print
unit with no entry and no page, counter 0 and no cut requested (R149, R162, R163). The pins' levels, the page memory's
bytes and the waiting commands stand. The model's choices: log entries 1, 2, 37, 41 and 44. -/
def Obligations.HardResetLoadsResetValues : Prop :=
  ∀ (s : State) (cause : HardCause), ∃ t, exec (.hardReset cause) s = .next t ∧
    t.inReset = false ∧ t.attention = true ∧ t.pending = s.pending ∧
    t.bli.rx = {} ∧ t.repliesOwed = [] ∧ t.statusOwed = [] ∧ t.bli.mask = Vector.replicate 12 true ∧
    t.bli.mode = .events ∧ t.bli.reportTimer = none ∧ t.bli.unack = true ∧
    t.bli.sending = some (.notice (startNotice (HardCause.start cause) 0 {})) ∧ t.bli.notices = [] ∧
    t.bli.summary.replyLost = false ∧ (∀ k, k ≠ .start → t.flagged k = false) ∧
    t.freeCount = 2048 ∧ t.pmm.freeList = List.range 2048 ∧ t.pmm.mem = s.pmm.mem ∧
    t.pmm.links = Vector.replicate 2048 none ∧ t.pmm.slotUse = Vector.replicate 2 0 ∧ t.pmm.memLowArmed = true ∧
    t.pmm.pendingScan = none ∧ t.pmm.fetch = none ∧ t.pmm.generation = s.pmm.generation + 1 ∧
    (∀ p, t.page p = {}) ∧ (∀ d, t.doc d = {}) ∧
    t.lcd = {} ∧ t.scn.config = {} ∧ t.scn.state = .idle ∧ t.scn.tray = s.scn.tray ∧ t.scn.edge = s.scn.edge ∧
    t.scn.dark = List.replicate 2048 0 ∧ t.scn.gain = List.replicate 2048 256 ∧ t.scn.valid = false ∧
    t.scn.bg = List.replicate 2048 56320 ∧ t.scn.cal = none ∧ t.scn.session = none ∧ t.scn.motor = .off ∧
    t.scn.lamp = false ∧ t.scn.lineRequest = none ∧
    (∀ n, t.line n = { ringInput := (s.line n).ringInput, meterInput := (s.line n).meterInput,
                       tx := if (s.line n).phase.isSome then [.dataStop] else [] }) ∧
    t.station = {} ∧ t.callCounter = 0 ∧ t.dsp = {} ∧ t.rtr = {} ∧ t.chg = {} ∧
    t.prt.headWidth = 1728 ∧ t.prt.order = [] ∧ t.prt.paper = s.prt.paper ∧ t.prt.ready = s.prt.ready ∧
    t.prt.engine = (if s.prt.paper then .idle else .held) ∧
    t.prt.entries = Vector.replicate 32 none ∧ t.prt.counter = 0 ∧ t.prt.current = none ∧ t.prt.page = none ∧
    t.prt.cutRequest = false

/-- SOFT_RESET: no REPLY, and START with cause SOFT and the command's tag the last notice owed; the tables and
configurations are kept, pages, documents, jobs, entries and calls are gone, and each line is IDLE or OUT_OF_SERVICE by
its enabled flag, which is kept. D, G, the valid flag and B are kept (R33, R35, R49). The desk table keeps kinds, pools,
weights, classes, margins, openings and credits, with no call active (R164, R182). One record with end reason RESET joins
the queue for each call in progress, behind those queued, and raises the record counter; with no call in progress
counter, queue and every desk record stand but for the active calls (R180, R182). The model's choices: the values of a
free document record (log entry 41), START after the LINE_STATE notices and reason RESET for a line in RELEASING (log
entry 31). -/
def Obligations.SoftResetKeepsTablesAndDropsWork : Prop :=
  ∀ (s : State) (tag : Nat), s.inReset = false → ∃ t, exec (.softReset tag (.fields ())) s = .next t ∧
    t.repliesOwed = [] ∧ t.noticesOwed.getLast? = some (startNotice .soft tag s.now) ∧ t.bli.unack = true ∧
    t.bli.mask = s.bli.mask ∧ t.bli.mode = s.bli.mode ∧ t.bli.period = s.bli.period ∧
    t.pmm.freeList = List.range 2048 ∧ t.pmm.mem = s.pmm.mem ∧ (∀ p, t.page p = {}) ∧ (∀ d, t.doc d = {}) ∧
    t.pmm.generation = s.pmm.generation + 1 ∧
    t.scn.config = s.scn.config ∧ t.scn.dark = s.scn.dark ∧ t.scn.gain = s.scn.gain ∧ t.scn.state = .idle ∧
    t.scn.valid = s.scn.valid ∧ t.scn.bg = s.scn.bg ∧
    t.lcd.slots = s.lcd.slots ∧ t.lcd.config = s.lcd.config ∧ t.station = s.station ∧ t.callCounter = s.callCounter ∧
    t.dsp = {} ∧ t.rtr.table = s.rtr.table ∧ t.prt.headWidth = s.prt.headWidth ∧ t.prt.order = [] ∧
    t.chg.plan = s.chg.plan ∧ t.chg.tariffs = s.chg.tariffs ∧ t.chg.bands = s.chg.bands ∧ t.chg.clock = s.chg.clock ∧
    t.chg.reservations = 0 ∧
    (∀ i, (t.desk i).kind = (s.desk i).kind ∧ (t.desk i).pool = (s.desk i).pool ∧ (t.desk i).weight = (s.desk i).weight ∧
      (t.desk i).classes = (s.desk i).classes ∧ (t.desk i).margin = (s.desk i).margin ∧
      (t.desk i).opening = (s.desk i).opening ∧ (t.desk i).credits = (s.desk i).credits ∧ (t.desk i).active = 0) ∧
    (∃ added, t.chg.queue = s.chg.queue ++ added ∧ added.length = s.callsInProgress ∧ ∀ r ∈ added, r.reason = .reset) ∧
    t.chg.counter = Nat.repeat wrap16 s.callsInProgress s.chg.counter ∧
    (s.callsInProgress = 0 → t.chg.counter = s.chg.counter ∧ t.chg.queue = s.chg.queue ∧
      ∀ i, t.desk i = { s.desk i with active := 0 }) ∧
    ∀ n, (t.line n).config = (s.line n).config ∧ (t.line n).ctx = none ∧ (t.line n).enabled = (s.line n).enabled ∧
      (t.line n).state = (if (s.line n).enabled then .idle else .outOfService)

/-- The line coder at the two resets, and what arrives after either (R63): IDLE, no page, no held line, no pending bits and
a white reference line; slots and configuration kept by a soft reset, emptied and at their defaults after a hard one; and
DOC_LINES and BOARD_PAGE_END are refused STATE while it is IDLE. -/
def Obligations.LineCoderAtResets : Prop :=
  (∀ (s : State) (tag : Nat), s.inReset = false → ∃ t, exec (.softReset tag (.fields ())) s = .next t ∧
    t.lcd.mode = .idle ∧ t.lcd.job = none ∧ t.lcd.held = none ∧ t.lcd.bits = [] ∧ t.lcd.board = none ∧
    t.lcd.reference = whiteLine 2048 ∧ t.lcd.slots = s.lcd.slots ∧ t.lcd.config = s.lcd.config) ∧
  (∀ (s : State) (cause : HardCause), ∃ t, exec (.hardReset cause) s = .next t ∧
    t.lcd.mode = .idle ∧ t.lcd.job = none ∧ t.lcd.held = none ∧ t.lcd.bits = [] ∧ t.lcd.board = none ∧
    t.lcd.reference = whiteLine 2048 ∧ t.codeSet 0 = none ∧ t.codeSet 1 = none ∧
    t.lcd.config = { slot := 0, diff := true, k := 4 }) ∧
  (∀ (s : State) (tag : Nat) (body : List Byte) (abandon : Bool), s.inReset = false → s.lcd.mode = .idle →
    (∃ t, exec (.docLines tag body) s = .next t ∧ OnlyAnswered s t (s.replyNow tag 36 .state)) ∧
    (∃ t, exec (.boardPageEnd tag (.fields abandon)) s = .next t ∧ OnlyAnswered s t (s.replyNow tag 12 .state)))

/-! ## The laws of the whole part -/

/-- After reset the page memory has its canonical form, the queues are within their places, the ledgers are balanced, the
ranges hold, the readers are within their limits, the record places are reserved as the calls need them and no desk is
below its margin. The memory's contents are log entry 2 and the report period 1 is log entry 23: both the model's
choice. -/
def Obligations.LawsHoldAtReset : Prop :=
  Memory.wf State.reset.pmm.mem ∧ State.reset.queuesBounded ∧ State.reset.ledgersBalanced ∧ State.reset.inRange ∧
  State.reset.readersWithinLimits ∧ State.reset.placesReserved ∧ State.reset.marginsHeld

/-- Every step keeps the page memory's canonical form. -/
def Obligations.StepKeepsMemoryForm : Prop :=
  ∀ s t : State, Memory.wf s.pmm.mem → Machine.step s = .next t → Memory.wf t.pmm.mem

/-- Every step keeps the reply queue within 8 and the notice queue within 32 places. -/
def Sys2Proof.Claims.StepKeepsReplyAndNoticeBounds : Prop :=
  ∀ s t : State, s.queuesBounded → Machine.step s = .next t → t.queuesBounded

/-- Every step keeps the record places: one reservation for each call in progress, and reservations and queued records
together at most 64 (R93, R179). -/
def Sys2Proof.Claims.StepKeepsRecordPlaces : Prop :=
  ∀ s t : State, s.placesReserved → Machine.step s = .next t → t.placesReserved

/-- Every step keeps the two equalities of every desk: metered is charged plus unrecovered, and the balance is the opening
balance plus the credits minus what was charged (R164). -/
def Sys2Proof.Claims.StepKeepsDeskEqualities : Prop :=
  ∀ s t : State, s.ledgersBalanced → Machine.step s = .next t → t.ledgersBalanced

/-- Every step keeps every desk's balance at or above the negative of its margin (R174), its margin in 0..65535 (R165), and
every desk apart from its own pool. -/
def Sys2Proof.Claims.StepKeepsMargins : Prop :=
  ∀ s t : State, s.marginsHeld → Machine.step s = .next t → t.marginsHeld

/-- Every step keeps gains, background, counters, clocks, bands, head width and report period in their ranges. That the
period starts at 1 after HARD_RESET is the model's choice (log entry 23). -/
def Sys2Proof.Claims.StepKeepsFieldRanges : Prop :=
  ∀ s t : State, s.inRange → Machine.step s = .next t → t.inRange

/-- Every step keeps the readers of every page within the limits of their kinds: 4 transmissions, 1 print, 1 fetch
(R10). -/
def Sys2Proof.Claims.StepKeepsReaderLimits : Prop :=
  ∀ s t : State, s.readersWithinLimits → Machine.step s = .next t → t.readersWithinLimits

/-- Every step takes one command from the front of the queue and puts none in. R184 has commands taken one at a time; the
queue itself, and that the part puts none in, is the model's (log entry 7). -/
def Obligations.StepTakesOneCommand : Prop :=
  ∀ s t : State, Machine.step s = .next t → t.pending = s.pending.drop 1

/-! ## Layouts -/

/-- A frame whose fields fit the encoding of R193 is read back from its bytes. -/
def Obligations.FramesDecodeToThemselves : Prop :=
  ∀ (line : LineNo) (f : Frame), Instr.wf (Frame.instr line f) = true → Frame.ofBytes f.bytes = some f

/-- A block of at most 4096 body bytes sent by one end is parsed whole by the other, and the parser is back in HUNT
(R183, R193). -/
def Obligations.BlocksParseToThemselves : Prop :=
  ∀ (type : Byte) (tag : Nat) (body : List Byte), tag < 256 → body.length ≤ 4096 →
    Rx.bytes {} (blockBytes type tag body) = ({}, [.block type (BitVec.ofNat 8 tag) body])

/-- A page coded line by line under a sound code set, PLAIN or DIFF, decodes to its own lines with none replaced, whatever
bits follow the last line (R54 to R56, R64 to R66). -/
def Obligations.CodedPagesDecodeToThemselves : Prop :=
  ∀ (c : CodeSet) (coding : Coding) (w : Nat) (lines : List PixelLine) (after : Bits),
    c.sound → 1 ≤ w → w ≤ 2048 → (∀ l ∈ lines, l.length = w) →
    decodePage c coding w lines.length (c.codeLines coding 0 (whiteLine w) lines ++ after) =
      lines.map fun l => (false, l)

/-- A run is written with its colour's table: below 32 its terminal word alone; from 32 the bulk word for its multiple of
32 and the terminal word for the rest, so that 32 and 64 end with the terminal word for 0 and 2048 is the last bulk word
and the terminal word for 0 (R54). -/
def Obligations.RunsAreWrittenFromTheirTable : Prop :=
  ∀ (c : CodeSet) (black : Bool), c.sound →
    (∀ r, r < 32 → (c.term black)[r]? = some (c.runWord black r)) ∧
    (∀ r, 32 ≤ r → r ≤ 2048 → ∃ b t, (c.bulk black)[r / 32 - 1]? = some b ∧ (c.term black)[r % 32]? = some t ∧
      c.runWord black r = b ++ t) ∧
    (∀ k, 1 ≤ k → k ≤ 64 → ∃ b t, (c.bulk black)[k - 1]? = some b ∧ (c.term black)[0]? = some t ∧
      c.runWord black (32 * k) = b ++ t)

/-! ## The board link (chapter 10) -/

/-- A block whose check fails is answered BAD_BLOCK with its tag and command code 0 (R183), and a CONTROL block with an
unknown code UNKNOWN_COMMAND with that code (R184); an empty body's code 0 is the model's choice (log entry 27). Nothing
else changes. -/
def Sys2Proof.Claims.BadAndUnknownBlocksAreAnswered : Prop :=
  ∀ (s : State) (tag : Nat) (code : Option Nat), s.inReset = false →
    (∃ t, exec (.badBlock tag) s = .next t ∧ OnlyAnswered s t (s.replyNow tag 0 .badBlock)) ∧
    (∃ t, exec (.unknownCommand tag code) s = .next t ∧
      OnlyAnswered s t (s.replyNow tag (code.getD 0) .unknownCommand))

/-- A header whose length is above 4096 discards its block without reply, and the hunt resumes after its sync: a sync byte
among the four header bytes starts the next block with the bytes after it (R183). -/
def Sys2Proof.Claims.LongBlocksAreDiscarded : Prop :=
  ∀ (s : State) (type tag hi lo : Byte), s.inReset = false → 4096 < 256 * hi.toNat + lo.toNat →
    ∃ t, exec (.blockLengthDiscard type tag hi lo) s = .next t ∧
      NothingButChoice { s with bli := { s.bli with rx := t.bli.rx } } t ∧
      (type = 0xA5 → t.bli.rx = { phase := .header, got := [tag, hi, lo] }) ∧
      (type ≠ 0xA5 → tag = 0xA5 → t.bli.rx = { phase := .header, got := [hi, lo] }) ∧
      (type ≠ 0xA5 → tag ≠ 0xA5 → hi = 0xA5 → t.bli.rx = { phase := .header, got := [lo] }) ∧
      (type ≠ 0xA5 → tag ≠ 0xA5 → hi ≠ 0xA5 → lo = 0xA5 → t.bli.rx = { phase := .header, got := [] }) ∧
      (type ≠ 0xA5 → tag ≠ 0xA5 → hi ≠ 0xA5 → lo ≠ 0xA5 → t.bli.rx = {})

/-- When a reply, a STATUS block or a notice has gone, the next block is the oldest reply, else the record at the head of
its queue, else the pending STATUS block, else the oldest notice, else the running fetch's next DATA block, else none
(R187); nothing else changes. That a block leaves its queue as it is chosen is the model's choice (log entry 25). -/
def Obligations.NextBlockIsChosenBySource : Prop :=
  ∀ (s : State) (b : UpBlock), s.inReset = false → s.bli.sending = some b →
    (match b with | .record _ | .data _ _ => False | _ => True) →
    ∃ t, exec .blockSent s = .next t ∧
      t.bli.sending =
        (match s.bli.replies, s.chg.queue, s.bli.status, s.bli.notices, s.pmm.fetch with
         | r :: _, _, _, _, _ => some (.reply r)
         | [], c :: _, _, _, _ => some (.record c)
         | [], [], some x, _, _ => some (.status x)
         | [], [], none, m :: _, _ => some (.notice m)
         | [], [], none, [], some f => if f.next < f.blocks then some (.data f.tag (s.fetchBytes f f.next)) else none
         | [], [], none, [], none => none) ∧
      t.repliesOwed = s.bli.replies ∧ t.noticesOwed = s.bli.notices ∧ t.bli.summary = s.bli.summary ∧ SameButLink s t

/-- A record leaves its queue when its block has been sent whole (R181); where no job waits, nothing else changes. -/
def Sys2Proof.Claims.SentRecordLeavesItsQueue : Prop :=
  ∀ (s : State) (c : ChargeRecord) (q : List ChargeRecord), s.inReset = false → s.bli.sending = some (.record c) →
    s.chg.queue = c :: q → s.dsp.order = [] →
    ∃ t, exec .blockSent s = .next t ∧ t.chg = { s.chg with queue := q } ∧ t.repliesOwed = s.bli.replies ∧
      SameButLink { s with chg := { s.chg with queue := q } } t

/-- The last DATA block of a fetch ends it and gives its reader back (R22). -/
def Sys2Proof.Claims.LastDataBlockEndsTheFetch : Prop :=
  ∀ (s : State) (tag : Nat) (bytes : List Byte) (f : Fetch), s.inReset = false →
    s.bli.sending = some (.data tag bytes) → s.pmm.fetch = some f → f.blocks ≤ f.next → s.current f.page = true →
    f.page.page < 256 → (s.page f.page.page).document.isSome = true → 0 < (s.page f.page.page).fetches →
    ∃ t, exec .blockSent s = .next t ∧ t.pmm.fetch = none ∧
      t.page f.page.page = { s.page f.page.page with fetches := (s.page f.page.page).fetches - 1 } ∧
      t.repliesOwed = s.bli.replies ∧ t.noticesOwed = s.bli.notices

/-- The report timer's expiry restarts it with the period and makes a STATUS block of the state pending in place of one
already pending (R189). -/
def Sys2Proof.Claims.ReportTimerRefreshesStatus : Prop :=
  ∀ s : State, s.inReset = false → s.bli.reportTimer.isSome = true →
    ∃ t, exec .reportTimerExpiry s = .next t ∧ t.bli.reportTimer = some s.bli.period ∧
      t.statusOwed.getLast? = some s.statusBody ∧ t.repliesOwed = s.repliesOwed ∧ t.noticesOwed = s.noticesOwed ∧
      t.bli.mode = s.bli.mode ∧ t.bli.period = s.bli.period ∧ t.bli.summary = s.bli.summary ∧ SameButLink s t

/-- NOTICE_MASK replaces the enable flags, START's always set, and a mask naming a kind that does not exist is refused
BAD_FIELD (R188); REPORT_MODE replaces the mode and the clamped period: to EVENTS with the timer stopped and no STATUS
block pending, to STREAM with the timer started, a mode that is none refused BAD_FIELD (R189). -/
def Sys2Proof.Claims.MaskAndModeAreReplaced : Prop :=
  (∀ (s : State) (tag m : Nat), s.inReset = false → m < 4096 →
    ∃ t, exec (.noticeMask tag (.fields m)) s = .next t ∧
      (∀ i : Fin 12, t.bli.mask[i] = (decide (i.val = 0) || m.testBit i.val)) ∧
      OnlyAnswered { s with bli := { s.bli with mask := t.bli.mask } } t (s.replyNow tag 31 .ok)) ∧
  (∀ (s : State) (tag m : Nat), s.inReset = false → 4096 ≤ m →
    ∃ t, exec (.noticeMask tag (.fields m)) s = .next t ∧ OnlyAnswered s t (s.replyNow tag 31 .badField)) ∧
  (∀ (s : State) (tag p : Nat), s.inReset = false →
    (∃ t, exec (.reportMode tag (.fields { mode := 0, period := p })) s = .next t ∧
      OnlyAnswered { s with bli := { s.bli with mode := .events, period := clampNat p 1 255, reportTimer := none, status := none } } t
        (s.replyNow tag 32 (okCode (clampedField p 1 255)) (clampedField p 1 255))) ∧
    (∃ t, exec (.reportMode tag (.fields { mode := 1, period := p })) s = .next t ∧
      OnlyAnswered
        { s with bli := { s.bli with mode := .stream, period := clampNat p 1 255, reportTimer := some (clampNat p 1 255) } } t
        (s.replyNow tag 32 (okCode (clampedField p 1 255)) (clampedField p 1 255)))) ∧
  (∀ (s : State) (tag m p : Nat), s.inReset = false → 2 ≤ m →
    ∃ t, exec (.reportMode tag (.fields { mode := m, period := p })) s = .next t ∧
      OnlyAnswered s t (s.replyNow tag 32 .badField))

/-- START_ACK clears the reset-unacknowledged flag, and its own reply carries it clear; replies owed before keep the flag
they carry (R186). -/
def Sys2Proof.Claims.StartAckClearsTheFlag : Prop :=
  ∀ (s : State) (tag : Nat), s.inReset = false →
    ∃ t, exec (.startAck tag (.fields ())) s = .next t ∧ t.bli.unack = false ∧
      OnlyAnswered { s with bli := { s.bli with unack := false } } t
        { tag := tag, code := 35, result := .ok, unack := false, clamped := 0, body := .none }

/-- STATUS_QUERY, DOC_QUERY and JOB_QUERY answer with what stands as the command is taken; STATUS_QUERY clears the summary
once its reply is built (R190; before the reply joins its queue: log entry 36; the depth of the notices leaves out the one
being sent: log entry 25), and nothing else changes (R23, R135). -/
def Obligations.QueriesAnswerWhatStands : Prop :=
  (∀ (s : State) (tag : Nat), s.inReset = false →
    ∃ t, exec (.statusQuery tag (.fields ())) s = .next t ∧
      OnlyAnswered { s with bli := { s.bli with summary := {} } } t (s.replyNow tag 33 .ok 0 (.status s.statusBody)) ∧
      s.statusBody.summary = s.bli.summary ∧ s.statusBody.freeCount = s.freeCount ∧
      s.statusBody.recordDepth = s.chg.queue.length ∧ s.statusBody.reservations = s.chg.reservations ∧
      s.statusBody.noticeDepth = s.bli.notices.length ∧ s.statusBody.clock = s.chg.clock) ∧
  (∀ (s : State) (tag d : Nat), s.inReset = false → d < 64 → (s.doc d).state ≠ .free →
    ∃ t, exec (.docQuery tag (.fields d)) s = .next t ∧
      OnlyAnswered s t (s.replyNow tag 5 .ok 0 (.document d (s.doc d) ((s.doc d).pages.map fun p => (p, s.page p))))) ∧
  (∀ (s : State) (tag : Nat), s.inReset = false →
    ∃ t, exec (.docQuery tag (.fields 255)) s = .next t ∧
      OnlyAnswered s t (s.replyNow tag 5 .ok 0 (.documents (s.docsInUse.map s.docLine)))) ∧
  (∀ (s : State) (tag j : Nat) (r : Job), s.inReset = false → j < 32 → s.job j = some r →
    ∃ t, exec (.jobQuery tag (.fields j)) s = .next t ∧
      OnlyAnswered s t (s.replyNow tag 19 .ok 0 (.job s.dsp.time j r (r.dests.map s.destCallId))))

/-- The commands of the board controller, malformed: their body's length does not agree with their layout (R184). -/
def Sys2Proof.Machine.malformedCommands (tag : Nat) : List (Instr × Nat) :=
  [(.docHold tag .malformed, 1), (.docRelease tag .malformed, 2), (.docClose tag .malformed, 3),
   (.docFetch tag .malformed, 4), (.docQuery tag .malformed, 5), (.calibrate tag .malformed, 6),
   (.scanStart tag .malformed, 7), (.scanStop tag .malformed, 8), (.scanConfig tag .malformed, 9),
   (.loadCodeSet tag .malformed, 10), (.boardPageBegin tag .malformed, 11), (.boardPageEnd tag .malformed, 12),
   (.coderConfig tag .malformed, 13), (.lineConfig tag .malformed, 14), (.lineControl tag .malformed, 15),
   (.stationConfig tag .malformed, 16), (.jobSubmit tag .malformed, 17), (.jobCancel tag .malformed, 18),
   (.jobQuery tag .malformed, 19), (.loadRoutes tag .malformed, 20), (.printDoc tag .malformed, 21),
   (.printCancel tag .malformed, 22), (.printConfig tag .malformed, 23), (.deskSet tag .malformed, 24),
   (.deskCredit tag .malformed, 25), (.deskPeriodClose tag .malformed, 26), (.loadDialPlan tag .malformed, 27),
   (.loadTariffs tag .malformed, 28), (.loadBands tag .malformed, 29), (.setClock tag .malformed, 30),
   (.noticeMask tag .malformed, 31), (.reportMode tag .malformed, 32), (.statusQuery tag .malformed, 33),
   (.softReset tag .malformed, 34), (.startAck tag .malformed, 35)]

/-- A command whose body does not agree with its layout is answered BAD_FIELD with its code, and nothing else changes. -/
def Sys2Proof.Claims.MalformedCommandsAreAnsweredBadField : Prop :=
  ∀ (s : State) (tag : Nat), s.inReset = false → ∀ c ∈ malformedCommands tag,
    ∃ t, exec c.1 s = .next t ∧ OnlyAnswered s t (s.replyNow tag c.2 .badField)

/-! ## Documents (chapter 1) -/

/-- The common check of a document field: above 63 BAD_FIELD, a document not in use NOT_FOUND, and nothing else changes.
255, which DOC_QUERY takes for all documents, is BAD_FIELD to the other four. -/
def Sys2Proof.Claims.DocumentFieldsAreChecked : Prop :=
  ∀ (s : State) (tag d : Nat) (r : ResultCode), s.inReset = false →
    (64 ≤ d ∧ d ≠ 255 ∧ r = .badField ∨ d < 64 ∧ (s.doc d).state = .free ∧ r = .notFound) →
    (∃ t, exec (.docHold tag (.fields d)) s = .next t ∧ OnlyAnswered s t (s.replyNow tag 1 r)) ∧
    (∃ t, exec (.docRelease tag (.fields d)) s = .next t ∧ OnlyAnswered s t (s.replyNow tag 2 r)) ∧
    (∃ t, exec (.docClose tag (.fields d)) s = .next t ∧ OnlyAnswered s t (s.replyNow tag 3 r)) ∧
    (∃ t, exec (.docQuery tag (.fields d)) s = .next t ∧ OnlyAnswered s t (s.replyNow tag 5 r)) ∧
    (∀ i, 1 ≤ i → i ≤ 64 →
      ∃ t, exec (.docFetch tag (.fields { document := d, index := i })) s = .next t ∧ OnlyAnswered s t (s.replyNow tag 4 r))

/-- The document field 255 of DOC_HOLD, DOC_RELEASE, DOC_CLOSE and DOC_FETCH is refused BAD_FIELD, and nothing else
changes. -/
def Sys2Proof.Claims.AllDocumentsIsNoDocument : Prop :=
  ∀ (s : State) (tag i : Nat), s.inReset = false →
    (∃ t, exec (.docHold tag (.fields 255)) s = .next t ∧ OnlyAnswered s t (s.replyNow tag 1 .badField)) ∧
    (∃ t, exec (.docRelease tag (.fields 255)) s = .next t ∧ OnlyAnswered s t (s.replyNow tag 2 .badField)) ∧
    (∃ t, exec (.docClose tag (.fields 255)) s = .next t ∧ OnlyAnswered s t (s.replyNow tag 3 .badField)) ∧
    (∃ t, exec (.docFetch tag (.fields { document := 255, index := i })) s = .next t ∧
      OnlyAnswered s t (s.replyNow tag 4 .badField))

/-- DOC_HOLD sets the board hold; DOC_RELEASE clears it, and a document that is still OPEN or still held stands otherwise
(R20); no other document and no page changes. -/
def Sys2Proof.Claims.BoardHoldIsSetAndCleared : Prop :=
  ∀ (s : State) (tag d : Nat), s.inReset = false → d < 64 → (s.doc d).state ≠ .free →
    (∃ t, exec (.docHold tag (.fields d)) s = .next t ∧
      OnlyAnswered (s.setDoc d { s.doc d with boardHold := true }) t (s.replyNow tag 1 .ok)) ∧
    ((s.doc d).state = .opened ∨
        (s.doc d).origin ≠ .received ∧ (0 < (s.doc d).sendHold ∨ 0 < (s.doc d).printHold) →
      ∃ t, exec (.docRelease tag (.fields d)) s = .next t ∧
        OnlyAnswered (s.setDoc d { s.doc d with boardHold := false }) t (s.replyNow tag 2 .ok))

/-- DOC_CLOSE closes an OPEN document without a filler, here one the board controller alone holds; a document being filled
or already CLOSED is refused STATE (R21). -/
def Sys2Proof.Claims.DocCloseClosesOrRefuses : Prop :=
  ∀ (s : State) (tag d : Nat), s.inReset = false → d < 64 → (s.doc d).state ≠ .free →
    ((s.doc d).state = .opened → (s.doc d).filler = .none → (s.doc d).origin ≠ .received →
        (s.doc d).boardHold = true → (s.doc d).sendHold = 0 → (s.doc d).printHold = 0 →
      ∃ t, exec (.docClose tag (.fields d)) s = .next t ∧
        OnlyAnswered (s.setDoc d { s.doc d with state := .closed }) t (s.replyNow tag 3 .ok)) ∧
    ((s.doc d).state = .closed ∨ (s.doc d).filler ≠ .none →
      ∃ t, exec (.docClose tag (.fields d)) s = .next t ∧ OnlyAnswered s t (s.replyNow tag 3 .state))

/-- A document that nothing holds is freed: by DOC_CLOSE when it is OPEN without a filler, by DOC_RELEASE when it is
CLOSED. Its record is free, its pages without readers are FREE, its pages with readers have no document, and no other
document or page and no byte of the memory changes (R16, R20, R21); a free record's fields other than its state are the
model's choice (log entry 41). The chains of the freed pages join the tail of the free list in the order of the page list,
each freed page lowers its slot's user count by one, and a free that leaves 192 segments or more arms MEMORY_LOW (R4, R11,
R17, R19). -/
def Obligations.UnheldDocumentIsFreed : Prop :=
  ∀ (s : State) (tag d : Nat) (c : Instr) (code : Nat), s.inReset = false → d < 64 → s.pmm.pendingScan = none →
    (s.doc d).sendHold = 0 → (s.doc d).printHold = 0 → (s.doc d).pages.Nodup →
    (c = .docClose tag (.fields d) ∧ code = 3 ∧ (s.doc d).state = .opened ∧ (s.doc d).filler = .none ∧
        (s.doc d).boardHold = false ∨
      c = .docRelease tag (.fields d) ∧ code = 2 ∧ (s.doc d).state = .closed) →
    ∃ t, exec c s = .next t ∧ Answered s t (s.replyNow tag code .ok) ∧ t.doc d = {} ∧
      (∀ e, e ≠ d → t.doc e = s.doc e) ∧
      (∀ p ∈ (s.doc d).pages, (s.page p).readers = 0 → t.page p = {}) ∧
      (∀ p ∈ (s.doc d).pages, (s.page p).readers ≠ 0 → t.page p = { s.page p with document := none }) ∧
      (∀ p, p ∉ (s.doc d).pages → t.page p = s.page p) ∧
      (let freed := (s.doc d).pages.filter fun p => (s.page p).readers = 0
       let segments := freed.flatMap s.chain
       t.pmm.freeList = s.pmm.freeList ++ segments ∧
       (∀ k, tget t.pmm.slotUse k 0 = tget s.pmm.slotUse k 0 - freed.countP fun p => (s.page p).slot = k) ∧
       t.pmm.memLowArmed =
         (s.pmm.memLowArmed || (segments != [] && decide (192 ≤ (s.pmm.freeList ++ segments).length)))) ∧
      t.pmm.mem = s.pmm.mem ∧ t.lines = s.lines ∧ t.chg = s.chg ∧ t.prt = s.prt ∧ t.dsp = s.dsp

/-- DOC_FETCH of a COMPLETE or DAMAGED page acquires its fetch reader and answers with the page's byte count, line count,
state and check value; its DATA blocks, one for each 4096 bytes and at least one, wait for the selector (R22). While a
fetch runs, another is refused BUSY. -/
def Obligations.DocFetchStartsOneFetch : Prop :=
  ∀ (s : State) (tag d i p : Nat), s.inReset = false → d < 64 → (s.doc d).state ≠ .free → 1 ≤ i → i ≤ 64 →
    (s.doc d).pages[i - 1]? = some p → ((s.page p).state = .complete ∨ (s.page p).state = .damaged) →
    (s.pmm.fetch = none → (s.page p).document.isSome = true → (s.page p).fetches = 0 →
      ∃ t, exec (.docFetch tag (.fields { document := d, index := i })) s = .next t ∧
        t.pmm.fetch = some { tag := tag, page := { page := p, gen := s.pmm.generation },
                             blocks := max 1 (((s.page p).byteCount + 4095) / 4096), next := 0 } ∧
        t.page p = { s.page p with fetches := 1 } ∧ (∀ q, q ≠ p → t.page q = s.page q) ∧ (∀ e, t.doc e = s.doc e) ∧
        Answered s t (s.replyNow tag 4 .ok 0
          (.fetch (s.page p).byteCount (s.page p).lineCount (s.page p).state (s.page p).check))) ∧
    (s.pmm.fetch ≠ none →
      ∃ t, exec (.docFetch tag (.fields { document := d, index := i })) s = .next t ∧
        OnlyAnswered s t (s.replyNow tag 4 .busy))

/-! ## The line coder (chapter 3) -/

/-- LOAD_CODE_SET: an unused slot takes a set whose words pass the prefix checks and whose number the other slot does not
hold; the refusals leave the slot as it was (R51, R52). Which refusal a load gets that fails in more than one way (its
number before its prefixes, those before the slot's use) is the model's choice (log entry 26). -/
def Obligations.LoadCodeSetInstallsOrRefuses : Prop :=
  ∀ (s : State) (tag : Nat) (a : LoadCodeSetArgs), s.inReset = false → a.slot ≤ 1 → a.count = 193 →
    a.entries.length = 193 → (∀ e ∈ a.entries, 1 ≤ e.length ∧ e.length ≤ 16) →
    let c := codeSetOf a.number (a.entries.map fun e => entryWord e.length e.bits)
    let other : Prop := ∃ o, s.codeSet (1 - a.slot) = some o ∧ o.number = a.number
    (other → ∃ t, exec (.loadCodeSet tag (.fields a)) s = .next t ∧ OnlyAnswered s t (s.replyNow tag 10 .tableInvalid)) ∧
    (¬ other → c.prefixFree = false →
      ∃ t b, exec (.loadCodeSet tag (.fields a)) s = .next t ∧ c.fault = some b ∧
        OnlyAnswered s t (s.replyNow tag 10 .tableInvalid 0 b)) ∧
    (¬ other → c.prefixFree = true → (0 < tget s.pmm.slotUse a.slot 0 ∨ s.codecBound a.slot = true) →
      ∃ t, exec (.loadCodeSet tag (.fields a)) s = .next t ∧ OnlyAnswered s t (s.replyNow tag 10 .inUse)) ∧
    (¬ other → c.prefixFree = true → tget s.pmm.slotUse a.slot 0 = 0 → s.codecBound a.slot = false →
      ∃ t, exec (.loadCodeSet tag (.fields a)) s = .next t ∧ t.codeSet a.slot = some c ∧ c.sound ∧
        OnlyAnswered { s with lcd := { s.lcd with slots := t.lcd.slots } } t (s.replyNow tag 10 .ok) ∧
        t.codeSet (1 - a.slot) = s.codeSet (1 - a.slot))

/-- BOARD_PAGE_BEGIN in an OPEN BOARD document without a filler opens a FILLING page at the end of its list, with the line
coder its filler and in mode BOARD (R60, R6), and raises its slot's user count (R17); no segment is granted for it. -/
def Sys2Proof.Claims.BoardPageIsOpened : Prop :=
  ∀ (s : State) (tag d w p : Nat) (dn : Density), s.inReset = false → d < 64 → widthOk w = true →
    s.lcd.mode = .idle → (s.codeSet s.lcd.config.slot).isSome = true → (s.doc d).state = .opened →
    (s.doc d).origin = .board → (s.doc d).filler = .none → (s.doc d).pages.length < 64 →
    (∀ q ∈ (s.doc d).pages, (s.page q).state ≠ .filling) → s.freePageRecord = some p →
    ∃ t, exec (.boardPageBegin tag (.fields { document := d, width := w, density := dn.code })) s = .next t ∧
      t.doc d = { s.doc d with filler := .lcd, pages := (s.doc d).pages ++ [p] } ∧
      tget t.pmm.slotUse s.lcd.config.slot 0 = tget s.pmm.slotUse s.lcd.config.slot 0 + 1 ∧
      t.pmm.freeList = s.pmm.freeList ∧
      t.page p = { state := .filling, document := some d, index := (s.doc d).pages.length + 1, source := .board,
                   slot := s.lcd.config.slot, coding := s.lcd.config.coding, width := w, density := dn } ∧
      (∀ e, e ≠ d → t.doc e = s.doc e) ∧ (∀ q, q ≠ p → t.page q = s.page q) ∧
      t.lcd.mode = .board ∧ t.lcd.board = some { document := d, density := dn } ∧ t.lcd.bits = [] ∧ t.lcd.held = none ∧
      t.lcd.job = some { ref := { page := p, gen := s.pmm.generation }, slot := s.lcd.config.slot,
                         coding := s.lcd.config.coding, width := w } ∧
      Answered s t (s.replyNow tag 11 .ok 0 (.boardPage d ((s.doc d).pages.length + 1))) ∧ t.pmm.mem = s.pmm.mem

/-- DOC_LINES codes the block's lines in order into the board page, and answers with their number when all could be
stored (R61); a block that is no whole number of lines, or would pass the page's maximum, is refused BAD_FIELD and
changes nothing. -/
def Sys2Proof.Claims.BoardLinesAreCoded : Prop :=
  ∀ (s : State) (tag : Nat) (body : List Byte) (j : CoderPage) (b : BoardPage), s.inReset = false → s.reports = [] →
    s.bli.rx = {} → s.lcd.mode = .board → s.lcd.job = some j → s.lcd.board = some b → s.lcd.held = none →
    widthOk j.width = true →
    (body.length % (j.width / 8) ≠ 0 ∨ body ≠ [] ∧ b.density.maxLines < j.lineCount + body.length / (j.width / 8) →
      ∃ t, exec (.docLines tag body) s = .next t ∧ OnlyAnswered s t (s.replyNow tag 36 .badField)) ∧
    (body.length % (j.width / 8) = 0 → j.lineCount + body.length / (j.width / 8) ≤ b.density.maxLines →
      (s.codeSet j.slot).isSome = true →
      (takeLines (bodyLines j.width (body.length / (j.width / 8)) body) s).2.2 = true →
      ∃ t, exec (.docLines tag body) s = .next t ∧
        t.lcd = (takeLines (bodyLines j.width (body.length / (j.width / 8)) body) s).1.lcd ∧
        t.lcd.linesTaken = j.lineCount + body.length / (j.width / 8) ∧
        Answered s t (s.replyNow tag 36 .ok 0 (.linesTaken (body.length / (j.width / 8)))))

/-- A byte of a board page refused for want of a segment (R3: 64 segments or fewer are left) holds its line (R58): the
unstored bytes and the bits after them are held, DOC_LINES is answered NO_SPACE with the held line counted, and the page
and the line count stand. A DOC_LINES that finds the line held and is refused again is answered NO_SPACE with 0 lines, its
own lines not taken; one with an empty body is answered OK with 0 lines, a line held or not, and tries none (R61). That the
held line counts against the page's maximum is the model's reading (log entry 34, DEDUCED). -/
def Sys2Proof.Claims.HeldLineWaitsForASegment : Prop :=
  (∀ (s : State) (tag : Nat) (body : List Byte) (j : CoderPage) (b : BoardPage) (c : CodeSet), s.inReset = false →
    s.lcd.mode = .board → s.lcd.job = some j → s.lcd.board = some b → s.lcd.held = none → widthOk j.width = true →
    body.length = j.width / 8 → j.lineCount + 1 ≤ b.density.maxLines → s.codeSet j.slot = some c →
    s.current j.ref = true → (s.page j.ref.page).state = .filling → (s.page j.ref.page).source = .board →
    (s.page j.ref.page).byteCount % 1024 = 0 → s.pmm.freeList.length ≤ 64 →
    let bits := s.lcd.bits ++ c.codeLine j.coding j.lineCount s.lcd.reference (unpackBits body)
    8 ≤ bits.length →
    ∃ t, exec (.docLines tag body) s = .next t ∧
      OnlyAnswered
        { s with lcd := { s.lcd with
            bits := [], held := some { bytes := (packComplete bits).1, tail := (packComplete bits).2
                                       line := some (unpackBits body) } } } t
        (s.replyNow tag 36 .noSpace 0 (.linesTaken 1))) ∧
  (∀ (s : State) (tag : Nat) (body : List Byte) (j : CoderPage) (b : BoardPage) (h : HeldLine), s.inReset = false →
    s.lcd.mode = .board → s.lcd.job = some j → s.lcd.board = some b → s.lcd.held = some h → h.line.isSome = true →
    h.bytes ≠ [] → s.lcd.bits = [] → widthOk j.width = true → body ≠ [] → body.length % (j.width / 8) = 0 →
    j.lineCount + 1 + body.length / (j.width / 8) ≤ b.density.maxLines →
    s.current j.ref = true → (s.page j.ref.page).state = .filling → (s.page j.ref.page).source = .board →
    (s.page j.ref.page).byteCount % 1024 = 0 → s.pmm.freeList.length ≤ 64 →
    ∃ t, exec (.docLines tag body) s = .next t ∧
      OnlyAnswered s t (s.replyNow tag 36 .noSpace 0 (.linesTaken 0))) ∧
  (∀ (s : State) (tag : Nat) (j : CoderPage) (b : BoardPage), s.inReset = false → s.lcd.mode = .board →
    s.lcd.job = some j → s.lcd.board = some b →
    ∃ t, exec (.docLines tag []) s = .next t ∧ OnlyAnswered s t (s.replyNow tag 36 .ok 0 (.linesTaken 0)))

/-- A segment is granted to a page from the head of the free list, for a received page while one is left and for another
only while more than 64 are; it becomes the page's last segment, linked from the one before (R1, R3), and a grant that
leaves fewer than 128 while MEMORY_LOW is armed raises it with their number and disarms it (R19). -/
def Sys2Proof.Claims.SegmentsAreGranted : Prop :=
  (∀ (s : State) (p : Nat), ((s.page p).source = .received ∧ s.pmm.freeList = [] ∨
      (s.page p).source ≠ .received ∧ s.pmm.freeList.length ≤ 64) → s.grant p = none) ∧
  (∀ (s : State) (p g : Nat) (rest : List Nat), p < 256 → g < 2048 → s.pmm.freeList = g :: rest →
    ((s.page p).source = .received ∨ 64 ≤ rest.length) →
    ∃ t, s.grant p = some t ∧ t.pmm.freeList = rest ∧ t.pmm.mem = s.pmm.mem ∧
      t.page p = { s.page p with first := some ((s.page p).first.getD g), last := some g } ∧
      (∀ q, q ≠ p → t.page q = s.page q) ∧ tget t.pmm.links g none = none ∧
      (∀ l, (s.page p).last = some l → l < 2048 → l ≠ g → tget t.pmm.links l none = some g) ∧
      (∀ k, k ≠ g → (s.page p).last ≠ some k → tget t.pmm.links k none = tget s.pmm.links k none) ∧
      t.pmm.memLowArmed = (s.pmm.memLowArmed && decide (128 ≤ rest.length)) ∧
      (s.pmm.memLowArmed = true → rest.length < 128 → t.flagged .memoryLow = true ∧
        (tget s.bli.mask 1 false = true → s.bli.notices.length < 32 →
          t.bli.notices = s.bli.notices ++ [{ tag := 0, body := .memoryLow rest.length, time := s.now }])) ∧
      (s.pmm.memLowArmed = false ∨ 128 ≤ rest.length → t.bli = s.bli))

/-- A byte appended to a FILLING page (R7): where the page's count is no multiple of 1024 it goes into its last segment at
the count's offset; where it is, a segment is granted first, and a grant refused stores nothing; count and check rise with
the byte. -/
def Sys2Proof.Claims.BytesAreAppended : Prop :=
  ∀ (s : State) (r : PageRef) (b : Byte), s.current r = true → r.page < 256 → (s.page r.page).state = .filling →
    (∀ g, (s.page r.page).byteCount % 1024 ≠ 0 → (s.page r.page).last = some g →
      ∃ t, s.append r b = (t, .stored) ∧
        t.pmm.mem = s.pmm.mem.write (1024 * g + (s.page r.page).byteCount % 1024) b ∧ t.pmm.freeList = s.pmm.freeList ∧
        t.page r.page = { s.page r.page with
          byteCount := (s.page r.page).byteCount + 1, check := crcByte (s.page r.page).check b } ∧
        (∀ q, q ≠ r.page → t.page q = s.page q)) ∧
    ((s.page r.page).byteCount % 1024 = 0 → s.grant r.page = none → s.append r b = (s, .noSegment)) ∧
    (∀ u g, (s.page r.page).byteCount % 1024 = 0 → s.grant r.page = some u → (u.page r.page).last = some g →
      ∃ t, s.append r b = (t, .stored) ∧ t.pmm.mem = u.pmm.mem.write (1024 * g) b ∧
        t.pmm.freeList = u.pmm.freeList ∧
        t.page r.page = { u.page r.page with
          byteCount := (s.page r.page).byteCount + 1, check := crcByte (s.page r.page).check b })

/-- A request that names the generation of before a reset is refused and changes nothing: an append, a read, a completion, a
damage, a discard or a reader's release (R24). -/
def Sys2Proof.Claims.StaleRequestsAreRefused : Prop :=
  ∀ (s : State) (r : PageRef), r.gen ≠ s.pmm.generation →
    (∀ b, s.append r b = (s, .refused)) ∧ (∀ off, s.readByte r off = none) ∧ s.pageBytes r = [] ∧
    (∀ lines bad poor, s.completePage r lines bad poor = s) ∧ (∀ lines bad, s.damagePage r lines bad = s) ∧
    s.resetDiscard r = s ∧ s.fullDiscard r = s ∧ (∀ k, s.release k r = s)

/-- A route request that names a call which its line does not have in progress, one of before a reset, is answered
shortage and changes nothing (R148). -/
def Sys2Proof.Claims.StaleRouteRequestsAreShort : Prop :=
  ∀ (s : State) (n : LineNo) (call : Nat) (tag : Text),
    ((s.line n).state.inCall = false ∨ (s.line n).ctx = none ∨ ∃ x, (s.line n).ctx = some x ∧ x.callId ≠ call) →
    s.routeRequest n call tag = (s, none)

/-- BOARD_PAGE_END: abandoned, the page is fully discarded, its chain freed and its slot's user count lowered; ended with a
line taken, it is COMPLETE with its line count, at once on a byte boundary, and with pending bits after their byte, filled
with zero bits, is stored (R59); either way the document stays OPEN without a filler and the line coder is IDLE. With no
line taken it is refused STATE (R62). -/
def Sys2Proof.Claims.BoardPageIsEnded : Prop :=
  ∀ (s : State) (tag : Nat) (j : CoderPage) (b : BoardPage), s.inReset = false → s.lcd.mode = .board →
    s.lcd.job = some j → s.lcd.board = some b → s.lcd.held = none → s.pmm.pendingScan = none → s.prt.order = [] →
    s.current j.ref = true → (s.page j.ref.page).state = .filling → (s.page j.ref.page).document = some b.document →
    b.document < 64 → j.ref.page < 256 →
    (∃ t, exec (.boardPageEnd tag (.fields true)) s = .next t ∧ t.page j.ref.page = {} ∧
      t.pmm.freeList = s.pmm.freeList ++ s.chain j.ref.page ∧
      (∀ k, tget t.pmm.slotUse k 0 =
        if (s.page j.ref.page).slot = k then tget s.pmm.slotUse k 0 - 1 else tget s.pmm.slotUse k 0) ∧
      t.doc b.document = { s.doc b.document with filler := .none, pages := (s.doc b.document).pages.erase j.ref.page } ∧
      t.lcd.mode = .idle ∧ t.lcd.job = none ∧
      Answered s t (s.replyNow tag 12 .ok 0 (.boardAbandoned (s.page j.ref.page).index))) ∧
    (0 < j.lineCount → s.lcd.bits = [] →
      ∃ t, exec (.boardPageEnd tag (.fields false)) s = .next t ∧
        t.page j.ref.page =
          { s.page j.ref.page with state := .complete, lineCount := j.lineCount, badLines := 0, poor := false, final := true } ∧
        t.doc b.document = { s.doc b.document with filler := .none } ∧ t.lcd.mode = .idle ∧ t.lcd.job = none ∧
        Answered s t (s.replyNow tag 12 .ok 0
          (.boardEnd (s.page j.ref.page).index j.lineCount (s.page j.ref.page).byteCount))) ∧
    (∀ g, 0 < j.lineCount → 1 ≤ s.lcd.bits.length → s.lcd.bits.length < 8 →
        (s.page j.ref.page).byteCount % 1024 ≠ 0 → (s.page j.ref.page).last = some g →
      let b8 : Byte := BitVec.ofNat 8 (bitsValue s.lcd.bits * 2 ^ (8 - s.lcd.bits.length))
      ∃ t, exec (.boardPageEnd tag (.fields false)) s = .next t ∧
        t.page j.ref.page =
          { s.page j.ref.page with
            state := .complete, lineCount := j.lineCount, badLines := 0, poor := false, final := true
            byteCount := (s.page j.ref.page).byteCount + 1, check := crcByte (s.page j.ref.page).check b8 } ∧
        t.pmm.mem = s.pmm.mem.write (1024 * g + (s.page j.ref.page).byteCount % 1024) b8 ∧
        t.doc b.document = { s.doc b.document with filler := .none } ∧ t.lcd.mode = .idle ∧ t.lcd.job = none ∧
        Answered s t (s.replyNow tag 12 .ok 0
          (.boardEnd (s.page j.ref.page).index j.lineCount ((s.page j.ref.page).byteCount + 1)))) ∧
    (j.lineCount = 0 →
      ∃ t, exec (.boardPageEnd tag (.fields false)) s = .next t ∧ OnlyAnswered s t (s.replyNow tag 12 .state))

/-! ## The scan unit (chapter 2) -/

/-- SCAN_CONFIG in IDLE loads the clamped configuration with its named enumerations, and is refused BUSY in any other state
(R27). -/
def Obligations.ScanConfigIsLoadedInIdle : Prop :=
  ∀ (s : State) (tag : Nat) (a : ScanConfigArgs), s.inReset = false →
    (s.scn.state = .idle → a.nDark ∈ [4, 8, 16, 32] → a.nWhite ∈ [4, 8, 16, 32] → a.band ≤ 1 →
      ∃ t, exec (.scanConfig tag (.fields a)) s = .next t ∧
        t.scn.config =
          { clockDivider := clampNat a.clockDivider 1 127, target := clampNat a.target 64 250, large := a.band == 1,
            weakLimit := clampNat a.weakLimit 0 255, nDark := a.nDark, nWhite := a.nWhite, beta := clampNat a.beta 2 8,
            thr := clampNat a.thr 1 255, hys := clampNat a.hys 0 255, speckMin := clampNat a.speckMin 0 4,
            scanWait := clampNat a.scanWait 0 600 } ∧
        OnlyAnswered { s with scn := { s.scn with config := t.scn.config } } t
          (s.replyNow tag 9 (okCode (scanConfigClamped a)) (scanConfigClamped a))) ∧
    (s.scn.state ≠ .idle →
      ∃ t, exec (.scanConfig tag (.fields a)) s = .next t ∧ OnlyAnswered s t (s.replyNow tag 9 .busy))

/-- CALIBRATE in IDLE with no sheet under the head begins the dark pass: lamp off, motor off, empty working sums and lines
of 2048 samples asked for; with a sheet it is refused STATE, and outside IDLE BUSY (R28, R29). That outside IDLE it is
BUSY with a sheet under the head too is the model's choice (log entry 26). -/
def Sys2Proof.Claims.CalibrateBeginsTheDarkPass : Prop :=
  ∀ (s : State) (tag : Nat), s.inReset = false →
    (s.scn.state = .idle → s.scn.edge = false →
      ∃ t, exec (.calibrate tag (.fields ())) s = .next t ∧
        OnlyAnswered
          { s with scn := { s.scn with
              state := .calibrating, motor := .off, lamp := false, lineRequest := some 2048
              cal := some { pass := .dark, taken := 0, sums := List.replicate 2048 0, dark := [] } } } t
          (s.replyNow tag 6 .ok)) ∧
    (s.scn.state = .idle → s.scn.edge = true →
      ∃ t, exec (.calibrate tag (.fields ())) s = .next t ∧ OnlyAnswered s t (s.replyNow tag 6 .state)) ∧
    (s.scn.state ≠ .idle →
      ∃ t, exec (.calibrate tag (.fields ())) s = .next t ∧ OnlyAnswered s t (s.replyNow tag 6 .busy))

/-- A calibration line's samples are added to the working sums; the last dark line makes the working dark table of the
sums divided by N_dark, rounded down, and begins the white pass with the lamp on (R29, R30). -/
def Sys2Proof.Claims.CalibrationLinesAreSummed : Prop :=
  ∀ (s : State) (c : Calibration) (samples : List Byte), s.inReset = false → s.scn.state = .calibrating →
    s.scn.cal = some c → s.scn.lineRequest = some 2048 → samples.length = 2048 → c.sums.length = 2048 →
    let sums := List.zipWith (fun (a : Nat) (b : Byte) => a + b.toNat) c.sums samples
    (c.pass = .dark ∧ c.taken + 1 < s.scn.config.nDark ∨ c.pass = .white ∧ c.taken + 1 < s.scn.config.nWhite →
      ∃ t, exec (.calLineTaken samples) s = .next t ∧
        NothingButChoice { s with scn := { s.scn with cal := some { c with taken := c.taken + 1, sums := sums } } } t) ∧
    (c.pass = .dark → s.scn.config.nDark ≤ c.taken + 1 →
      ∃ t, exec (.calLineTaken samples) s = .next t ∧
        NothingButChoice
          { s with scn := { s.scn with
              lamp := true
              cal := some { pass := .white, taken := 0, sums := List.replicate 2048 0
                            dark := sums.map (· / s.scn.config.nDark) } } } t)

/-- The last white line of a calibration outside a session concludes it: with no more weak columns than allowed the
working tables are installed and valid, otherwise the tables in force stand; lamp off, IDLE, and CAL_RESULT raised (R30 to
R33). Every gain installed lies in 64..1023. -/
def Sys2Proof.Claims.CalibrationConcludes : Prop :=
  ∀ (s : State) (c : Calibration) (samples : List Byte), s.inReset = false → s.scn.state = .calibrating →
    s.scn.session = none → s.scn.cal = some c → c.pass = .white → s.scn.lineRequest = some 2048 →
    samples.length = 2048 → s.scn.config.nWhite ≤ c.taken + 1 →
    let white := (List.zipWith (fun (a : Nat) (b : Byte) => a + b.toNat) c.sums samples).map (· / s.scn.config.nWhite)
    let weak := (white.zip c.dark).countP fun x => weakColumn s.scn.config x.1 x.2
    ∃ t, exec (.calLineTaken samples) s = .next t ∧ t.scn.state = .idle ∧ t.scn.lamp = false ∧ t.scn.cal = none ∧
      t.scn.lineRequest = none ∧ t.flagged .calResult = true ∧ t.repliesOwed = s.repliesOwed ∧
      (if weak ≤ s.scn.config.weakLimit then
        t.scn.dark = c.dark ∧ t.scn.gain = (white.zip c.dark).map (fun x => workingGain s.scn.config.target x.1 x.2) ∧
        t.scn.valid = true ∧ ∀ g ∈ t.scn.gain, 64 ≤ g ∧ g ≤ 1023
       else t.scn.dark = s.scn.dark ∧ t.scn.gain = s.scn.gain ∧ t.scn.valid = s.scn.valid)

/-- The columns a calibration counts as weak (R32): d being the white reading less the dark reading, the expected white is
floor((d × G′ + 128)/256), or 0 where d is not above 0, and a column is weak where it differs from the target by more
than the band, a sixteenth of the target for SMALL and an eighth for LARGE; so a column with d not above 0 is always
weak. -/
def Sys2Proof.Claims.WeakColumnsFollowR32 : Prop :=
  ∀ (c : ScanConfig) (white dark : Nat),
    (let d : Int := (white : Int) - dark
     let expected : Int := if 1 ≤ d then (d * workingGain c.target white dark + 128) / 256 else 0
     let band : Nat := if c.large then c.target / 8 else c.target / 16
     weakColumn c white dark = decide (band < (expected - c.target).natAbs)) ∧
    (64 ≤ c.target → white ≤ dark → weakColumn c white dark = true)

/-- The working gain of a column by R31, d being its white reading less its dark reading, and the gains that a calibration
installs. -/
def Obligations.WorkingGainFollowsR31 : Prop :=
  (∀ target white dark : Nat,
    (dark < white →
      workingGain target white dark = clampNat ((target * 256 + (white - dark) / 2) / (white - dark)) 64 1023) ∧
    (white ≤ dark → workingGain target white dark = 1023) ∧
    64 ≤ workingGain target white dark ∧ workingGain target white dark ≤ 1023) ∧
  (∀ x lo hi : Nat, lo ≤ hi → clampNat x lo hi = max lo (min x hi)) ∧
  (∀ s t : State, (∀ g ∈ s.scn.gain, 64 ≤ g ∧ g ≤ 1023) → Machine.step s = .next t →
    ∀ g ∈ t.scn.gain, 64 ≤ g ∧ g ≤ 1023) ∧
  (∀ g ∈ State.reset.scn.gain, 64 ≤ g ∧ g ≤ 1023)

/-- SCAN_START of a new document, without automatic calibration and with both sensors inactive: the document is created
OPEN with the scan unit its filler, the session filled, and the scan unit waits for paper (R38, R39, R40). -/
def Sys2Proof.Claims.ScanStartWaitsForPaper : Prop :=
  ∀ (s : State) (tag d desk w p : Nat) (dn : Density), s.inReset = false → desk < 16 → widthOk w = true →
    s.scn.state = .idle → s.lcd.board = none → (s.codeSet s.lcd.config.slot).isSome = true →
    s.freeDocRecord = some d → s.freePageRecord = some p → s.scn.tray = false → s.scn.edge = false →
    ∃ t, exec (.scanStart tag (.fields
        { document := 255, desk := desk, width := w, density := dn.code, autoCal := false, copy := false
          copyPriority := 0, copies := 0 })) s = .next t ∧
      Answered s t (s.replyNow tag 7 .ok 0 (.docId d)) ∧
      t.doc d = { state := .opened, origin := .scan, boardHold := true, filler := .scn, desk := desk, created := s.now } ∧
      (∀ e, e ≠ d → t.doc e = s.doc e) ∧ (∀ q, t.page q = s.page q) ∧ t.lcd = { s.lcd with mode := .scan } ∧
      t.scn = { s.scn with
        state := .waitPaper, motor := .off, lamp := false, lineRequest := none
        session := some { document := d, desk := desk, copy := false, width := w, density := dn
                          slot := s.lcd.config.slot, coding := s.lcd.config.coding } }

/-- A sensor that becomes active while the session waits for paper opens the sheet's page and feeds it: motor and lamp on,
the jam timer at 5 s, and the background reseeded from the target (R35, R39, R40). The edge sensor then takes the sheet
into SCANNING, with the next line asked for. -/
def Sys2Proof.Claims.SensorsFeedTheSheet : Prop :=
  (∀ (s : State) (x : ScanSession) (p : Nat), s.inReset = false → s.scn.state = .waitPaper → s.scn.session = some x →
    x.feeding = false → s.scn.edge = false → x.document < 64 → (s.doc x.document).state = .opened →
    (s.doc x.document).filler = .scn → (s.doc x.document).pages.length < 64 →
    (∀ q ∈ (s.doc x.document).pages, (s.page q).state ≠ .filling) → s.freePageRecord = some p →
    ∃ t, exec (.trayPaperSensorActive true) s = .next t ∧ t.scn.state = .waitPaper ∧ t.scn.tray = true ∧
      t.scn.motor = .running ∧ t.scn.lamp = true ∧ t.scn.bg = List.replicate 2048 (s.scn.config.target * 256) ∧
      t.scn.session = some { x with
        page := some { page := p, gen := s.pmm.generation }, lineCount := 0, ending := none, feeding := true
        jamTimer := some 5, memWait := none, resume := none } ∧
      t.page p = { state := .filling, document := some x.document, index := (s.doc x.document).pages.length + 1
                   source := .scan, slot := x.slot, coding := x.coding, width := x.width, density := x.density
                   uncalibrated := !s.scn.valid } ∧
      (t.doc x.document).pages = (s.doc x.document).pages ++ [p] ∧ t.repliesOwed = s.repliesOwed) ∧
  (∀ (s : State) (x : ScanSession), s.inReset = false → s.scn.state = .waitPaper → s.scn.session = some x →
    x.feeding = true →
    ∃ t, exec (.edgeSensorActive true) s = .next t ∧
      NothingButChoice
        { s with scn := { s.scn with
            edge := true, state := .scanning, motor := .perLine, lamp := true, lineRequest := some x.width
            session := some { x with jamTimer := none, feeding := false, resume := none } } } t)

/-- A page line taken is corrected, thresholded and filtered, tracked into the background, counted and handed to the line
coder; where it is stored whole, the sheet is under the head and the page is not at its maximum, the next line is asked
for (R25, R34 to R37, R41). -/
def Sys2Proof.Claims.ScanLineIsProcessedAndCoded : Prop :=
  ∀ (s : State) (x : ScanSession) (samples : List Byte) (n : Nat), s.inReset = false → s.reports = [] →
    s.scn.state = .scanning → s.scn.session = some x → s.scn.lineRequest = some n → samples.length = n →
    s.scn.edge = true → x.lineCount + 1 < x.density.maxLines →
    let line := (s.scn.process samples).1
    (s.codeLine line).2 = true →
    ∃ t, exec (.scanLineTaken samples) s = .next t ∧
      t.scn = { s.scn with
        bg := (s.scn.process samples).2, lineRequest := some x.width
        motorSteps := s.scn.motorSteps + (match x.density with | .fine => 1 | .std => 2)
        session := some { x with lineCount := x.lineCount + 1 } } ∧
      t.lcd = (s.codeLine line).1.lcd ∧ t.pmm.pages = (s.codeLine line).1.pmm.pages ∧
      t.pmm.mem = (s.codeLine line).1.pmm.mem ∧ t.repliesOwed = s.repliesOwed

/-- The end of a scanned page: a line stored whole ends it at the page's maximum or with the edge sensor inactive. Where
the padding byte cannot be stored the session pauses; else the page is COMPLETE and final with its line count. Then, the
edge inactive and the tray empty, the session ends SCAN_DONE with the document closed; with a sheet left it ends DOC_FULL
at 64 pages, the document OPEN, and below them the next page is opened, fed or, with the edge active, SCANNING at once.
With no page record FREE it pauses (R42, R43, R45, R59; SCAN_END's page count: log entry 45). -/
def Sys2Proof.Claims.ScanPagesEnd : Prop :=
  ∀ (s : State) (x : ScanSession) (j : CoderPage) (samples : List Byte) (n : Nat), s.inReset = false → s.reports = [] →
    s.scn.state = .scanning → s.scn.session = some x → s.scn.lineRequest = some n → samples.length = n →
    s.lcd.job = some j → (s.codeSet j.slot).isSome = true → s.current j.ref = true → j.ref.page < 256 →
    (s.page j.ref.page).state = .filling → s.prt.order = [] →
    (s.scn.edge = false ∨ x.density.maxLines ≤ x.lineCount + 1) →
    let coded := s.codeLine (s.scn.process samples).1
    coded.2 = true →
    let padded := coded.1.padPage
    let p := j.ref.page
    let d := s.doc x.document
    let after : Scn := { s.scn with
      bg := (s.scn.process samples).2, lineRequest := none
      motorSteps := s.scn.motorSteps + (match x.density with | .fine => 1 | .std => 2) }
    let wait : Timer := if s.scn.config.scanWait = 0 then none else some s.scn.config.scanWait
    (padded.2 = false →
      ∃ t, exec (.scanLineTaken samples) s = .next t ∧ t.pmm.pendingScan = some .grant ∧ t.lcd = padded.1.lcd ∧
        t.lcd.held.isSome = true ∧
        t.scn = { after with
          state := .pausedMemory, motor := .off, lamp := true
          session := some { x with
            lineCount := x.lineCount + 1, resume := some .scanning, jamTimer := none, memWait := wait
            ending := some (if x.density.maxLines ≤ x.lineCount + 1 then .length else .edge) } }) ∧
    (padded.2 = true → d.state = .opened → d.filler = .scn → (∀ q ∈ d.pages, q ≠ p → (s.page q).state ≠ .filling) →
      let done : PageRec := { padded.1.page p with
        state := .complete, lineCount := j.lineCount + 1, badLines := 0, poor := false, final := true }
      let z : ScanSession := { x with
        lineCount := x.lineCount + 1, completed := x.completed + 1, page := none, ending := none }
      let idle : Scn := { after with state := .idle, motor := .off, lamp := false, session := none, cal := none }
      let told (t : State) (r : ScanReason) : Prop := t.flagged .scanEnd = true ∧
        (s.bli.enabled .scanEnd = true → s.bli.notices.length < 31 →
          ∃ m ∈ t.noticesOwed, m.body = .scanEnd r x.document (x.completed + 1) d.pages.length)
      let more : Prop := (s.scn.edge = true ∨ s.scn.tray = true) ∧ d.pages.length < 64
      let back : ScanState := if s.scn.edge then .scanning else .waitPaper
      (s.scn.edge = false → s.scn.tray = false →
        ∃ t, exec (.scanLineTaken samples) s = .next t ∧ t.scn = idle ∧ t.lcd.mode = .idle ∧ t.lcd.job = none ∧
          told t .scanDone ∧
          (d.boardHold = true → t.page p = done ∧ (t.doc x.document).state = .closed ∧
            (t.doc x.document).filler = .none ∧ (t.doc x.document).pages = d.pages) ∧
          (d.origin ≠ .received → d.boardHold = false → d.sendHold = 0 → d.printHold = 0 → t.doc x.document = {})) ∧
      ((s.scn.edge = true ∨ s.scn.tray = true) → 64 ≤ d.pages.length →
        ∃ t, exec (.scanLineTaken samples) s = .next t ∧ t.scn = idle ∧ t.lcd.mode = .idle ∧ t.lcd.job = none ∧
          told t .docFull ∧ t.page p = done ∧ t.doc x.document = { d with filler := .none }) ∧
      (∀ g, more → s.freePageRecord = some g →
        ∃ t, exec (.scanLineTaken samples) s = .next t ∧ t.page p = done ∧
          t.doc x.document = { d with pages := d.pages ++ [g] } ∧
          t.page g = { state := .filling, document := some x.document, index := d.pages.length + 1, source := .scan
                       slot := x.slot, coding := x.coding, width := x.width, density := x.density
                       uncalibrated := !s.scn.valid } ∧
          t.lcd = { padded.1.lcd with
            job := some { ref := { page := g, gen := s.pmm.generation }, slot := x.slot, coding := x.coding
                          width := x.width, lineCount := 0 }
            reference := whiteLine 2048, bits := [], held := none } ∧
          t.scn = { after with
            state := back, motor := if s.scn.edge then .perLine else .running, lamp := true
            bg := List.replicate 2048 (s.scn.config.target * 256)
            lineRequest := if s.scn.edge then some x.width else none
            session := some { z with
              page := some { page := g, gen := s.pmm.generation }, lineCount := 0, resume := none
              feeding := !s.scn.edge, jamTimer := if s.scn.edge then none else some 5
              memWait := if s.scn.edge then x.memWait else none } }) ∧
      (more → s.freePageRecord = none →
        ∃ t, exec (.scanLineTaken samples) s = .next t ∧ t.page p = done ∧ t.pmm.pendingScan = some .openPage ∧
          t.lcd.job = none ∧ t.doc x.document = d ∧
          t.scn = { after with
            state := .pausedMemory, motor := .off, lamp := true
            session := some { z with
              resume := some back, jamTimer := none, memWait := wait, feeding := x.feeding || !s.scn.edge } }))

/-- The pixels of a line and the background after it. The class of column c (R36): with Bi = floor(B/256), T =
floor(Bi × thr/256) and H = floor(T × hys/256), black where Bi − v is at least T + H after a white prior pixel and T − H
after a black one, the prior of column 0 being white. The final line (R37): a pixel is black where it lies in an unbroken
run of black classes of at least speck_min. The background of a column the final line has white moves by
floor((v × 256 − B)/2^beta), and that of a black one stands (R37). -/
def Sys2Proof.Claims.PixelsFollowR36AndR37 : Prop :=
  ∀ (u : Scn) (samples : List Byte),
    let raw := classifyLine u.config false (u.bg.zip (u.correct samples))
    let final := (u.process samples).1
    (∀ (i b v : Nat), u.bg[i]? = some b → (u.correct samples)[i]? = some v →
      let bi : Int := ((b / 256 : Nat) : Int)
      let t : Int := ((b / 256 * u.config.thr / 256 : Nat) : Int)
      let h : Int := ((b / 256 * u.config.thr / 256 * u.config.hys / 256 : Nat) : Int)
      let prior : Bool := if i = 0 then false else (raw[i - 1]?).getD false
      raw[i]? = some (decide ((if prior then t - h else t + h) ≤ bi - v))) ∧
    final.length = raw.length ∧
    (∀ i, i < raw.length → (final[i]? = some true ↔
      ∃ a e, a ≤ i ∧ i < e ∧ u.config.speckMin ≤ e - a ∧ ∀ k, a ≤ k → k < e → raw[k]? = some true)) ∧
    (u.process samples).2.length = u.bg.length ∧
    (∀ (i b v : Nat), u.bg[i]? = some b → (u.correct samples)[i]? = some v →
      (final[i]? = some true → (u.process samples).2[i]? = some b) ∧
      (final[i]? = some false → ∃ n, (u.process samples).2[i]? = some n ∧
        (n : Int) = b + ((v : Int) * 256 - b) / 2 ^ u.config.beta))

/-- A page line whose bytes cannot all be stored pauses the session for memory (R45): the line stays held with the line
coder and is counted, the refused grant is the pending scan request (R18), the motor is off and the lamp on, no line is
asked for, SCANNING is the state to return to, and the memory wait runs at scan_wait seconds unless that is 0. -/
def Sys2Proof.Claims.ScanUnitPausesForMemory : Prop :=
  ∀ (s : State) (x : ScanSession) (samples : List Byte) (n : Nat), s.inReset = false → s.reports = [] →
    s.scn.state = .scanning → s.scn.session = some x → s.scn.lineRequest = some n → samples.length = n →
    let line := (s.scn.process samples).1
    (s.codeLine line).2 = false →
    ∃ t, exec (.scanLineTaken samples) s = .next t ∧ t.pmm.pendingScan = some .grant ∧
      t.scn = { s.scn with
        state := .pausedMemory, motor := .off, lamp := true, lineRequest := none, bg := (s.scn.process samples).2
        motorSteps := s.scn.motorSteps + (match x.density with | .fine => 1 | .std => 2)
        session := some { x with
          lineCount := x.lineCount + 1, resume := some .scanning, jamTimer := none
          memWait := if s.scn.config.scanWait = 0 then none else some s.scn.config.scanWait } } ∧
      t.lcd = (s.codeLine line).1.lcd ∧ t.lcd.held.isSome = true ∧ t.repliesOwed = s.repliesOwed

/-- Segments freed let the pending grant be tried again (R18): here DOC_RELEASE frees a document of one page, over 64
segments are then free, and the held line goes on. The session is back in SCANNING
with the memory wait stopped, the motor stepping and the next line asked for (R41, R45). -/
def Sys2Proof.Claims.FreedMemoryResumesTheScan : Prop :=
  ∀ (s : State) (x : ScanSession) (j : CoderPage) (h : HeldLine) (l : PixelLine) (tag d p : Nat), s.inReset = false →
    d < 64 → (s.doc d).state = .closed → (s.doc d).sendHold = 0 → (s.doc d).printHold = 0 → (s.doc d).pages = [p] →
    p < 256 → p ≠ j.ref.page → (s.page p).readers = 0 → s.chain p ≠ [] →
    64 < s.pmm.freeList.length + (s.chain p).length →
    s.scn.state = .pausedMemory → s.pmm.pendingScan = some .grant → s.scn.session = some x → x.ending = none →
    s.scn.edge = true → x.lineCount < x.density.maxLines → s.lcd.job = some j → s.lcd.held = some h →
    h.line = some l → 1 ≤ h.bytes.length → h.bytes.length ≤ 1024 → j.ref.page < 256 → s.current j.ref = true →
    (s.page j.ref.page).state = .filling → (s.page j.ref.page).source = .scan →
    (s.page j.ref.page).byteCount % 1024 = 0 →
    ∃ t, exec (.docRelease tag (.fields d)) s = .next t ∧ Answered s t (s.replyNow tag 2 .ok) ∧
      t.pmm.pendingScan = none ∧
      t.scn = { s.scn with
        state := .scanning, motor := .perLine, lineRequest := some x.width
        session := some { x with memWait := none, resume := none } } ∧
      t.lcd = { s.lcd with
        held := none, bits := h.tail, reference := l, job := some { j with lineCount := j.lineCount + 1 } } ∧
      t.pmm.freeList = (s.pmm.freeList ++ s.chain p).tail ∧
      (t.page j.ref.page).byteCount = (s.page j.ref.page).byteCount + h.bytes.length ∧
      (t.page j.ref.page).last = (s.pmm.freeList ++ s.chain p).head?

/-- The correction of a sample (R34): its value lies in 0..255, a sample at or below the dark level gives 0, with D = 0 and
G = 256 the value is the sample, the same formula holds whether or not the tables were installed, and the page a session
opens is marked uncalibrated when they were not. -/
def Obligations.CorrectionFollowsR34 : Prop :=
  (∀ dark gain sample : Nat,
    corrected dark gain sample = min 255 (((sample - dark) * gain + 128) / 256) ∧ corrected dark gain sample ≤ 255 ∧
    (sample ≤ dark → corrected dark gain sample = 0)) ∧
  (∀ sample : Nat, sample ≤ 255 → corrected 0 256 sample = sample) ∧
  (∀ (u : Scn) (samples : List Byte) (i : Nat) (d g : Nat) (b : Byte), u.dark[i]? = some d → u.gain[i]? = some g →
    samples[i]? = some b → (u.correct samples)[i]? = some (corrected d g b.toNat)) ∧
  (∀ (s t : State) (x : ScanSession), s.openScanPage x = (t, true) →
    ∃ r, t.lcd.job.map (·.ref) = some r ∧ (t.page r.page).uncalibrated = !s.scn.valid)

/-- JAM_TIMER_EXPIRY, MEMORY_WAIT_EXPIRY and SCAN_STOP end the session: IDLE, motor and lamp off, no line asked for, the
line coder without a page, the document without a filler, SCAN_END raised; SCAN_STOP is replied OK, and STATE where no
session runs (R44, R46, R47, R48). -/
def Obligations.SessionsAreEnded : Prop :=
  (∀ (s : State) (x : ScanSession) (c : Instr), s.inReset = false → s.scn.session = some x →
    (c = .jamTimerExpiry ∧ x.jamTimer.isSome = true ∨ c = .memoryWaitExpiry ∧ x.memWait.isSome = true ∨
      ∃ tag, c = .scanStop tag (.fields ()) ∧ s.scn.state ≠ .idle) →
    ∃ t, exec c s = .next t ∧ t.scn.state = .idle ∧ t.scn.session = none ∧ t.scn.motor = .off ∧ t.scn.lamp = false ∧
      t.scn.lineRequest = none ∧ t.pmm.pendingScan = none ∧ t.lcd.mode = .idle ∧ t.lcd.job = none ∧
      (t.doc x.document).filler = .none ∧ t.flagged .scanEnd = true ∧
      (∀ tag, c = .scanStop tag (.fields ()) → Answered s t (s.replyNow tag 8 .ok))) ∧
  (∀ (s : State) (tag : Nat), s.inReset = false → s.scn.session = none →
    ∃ t, exec (.scanStop tag (.fields ())) s = .next t ∧ OnlyAnswered s t (s.replyNow tag 8 .state))

/-! ## The line channels (chapter 4) -/

/-- LINE_CONFIG outside a call loads the clamped configuration of its line, here with no job waiting for a line; in a call
it is refused IN_USE, and a line number above 3 or a format the link does not offer is refused BAD_FIELD (R74). -/
def Sys2Proof.Claims.LineConfigIsLoadedOutsideCalls : Prop :=
  ∀ (s : State) (tag : Nat) (a : LineConfigArgs), s.inReset = false →
    (∀ (n : LineNo) (c : LineConfig), a.line = n.val → (s.line n).state.inCall = false → lineConfigOf a = some c →
        s.dsp.order = [] →
      ∃ t, exec (.lineConfig tag (.fields a)) s = .next t ∧
        OnlyAnswered (s.updLine n fun l => { l with config := c }) t
          (s.replyNow tag 14 (okCode (lineConfigClamped a)) (lineConfigClamped a))) ∧
    (∀ n : LineNo, a.line = n.val → (s.line n).state.inCall = true →
      ∃ t, exec (.lineConfig tag (.fields a)) s = .next t ∧ OnlyAnswered s t (s.replyNow tag 14 .inUse)) ∧
    (4 ≤ a.line ∨ (∃ n : LineNo, a.line = n.val ∧ (s.line n).state.inCall = false ∧ lineConfigOf a = none) →
      ∃ t, exec (.lineConfig tag (.fields a)) s = .next t ∧ OnlyAnswered s t (s.replyNow tag 14 .badField))

/-- The configuration LINE_CONFIG's fields make (R74): none where the access prefix is longer than 4 or holds another
character than a digit, an enumeration or the number of stop bits is out of range, or parity is odd with two stop bits;
otherwise the fields, each tuning value clamped to its range. -/
def Sys2Proof.Claims.LineConfigFollowsR74 : Prop :=
  ∀ a : LineConfigArgs,
    let bad : Prop := 4 < a.accessPrefix.length ∨ (∃ c ∈ a.accessPrefix, c.toNat < 0x30 ∨ 0x39 < c.toNat) ∨
      2 ≤ a.metering ∨ 3 ≤ a.parity ∨ (a.stopBits ≠ 1 ∧ a.stopBits ≠ 2) ∨ 2 ≤ a.bitOrder ∨
      (a.parity = 2 ∧ a.stopBits = 2)
    (bad → lineConfigOf a = none) ∧
    (¬ bad → lineConfigOf a = some
      { enableIn := a.enableIn, enableOut := a.enableOut, ringCount := clampNat a.ringCount 1 15
        ringOnMin := clampNat a.ringOnMin 50 1000, ringGapMax := clampNat a.ringGapMax 2 10
        metering := if a.metering = 0 then .tariff else .pulse
        pulseOnMin := clampNat a.pulseOnMin 10 250, pulseCp := clampNat a.pulseCp 0 65535
        maxStep := clampNat a.maxStep 0 5, accessPrefix := a.accessPrefix
        dialToneWait := clampNat a.dialToneWait 10 600, answerWait := clampNat a.answerWait 100 1800
        frameReply := clampNat a.frameReply 10 300, releaseGuard := clampNat a.releaseGuard 5 100
        parity := if a.parity = 0 then .none else if a.parity = 1 then .even else .odd
        stopBits := a.stopBits, bitOrder := if a.bitOrder = 0 then .lsbFirst else .msbFirst
        rateDivider := clampNat a.rateDivider 16 4095 })

/-- LINE_CONTROL: ENABLE takes a line out of service to IDLE with LINE_STATE, here with no job waiting; DISABLE takes it
out of service at once in IDLE and RINGING, and in a call only clears the enabled flag (R92). -/
def Sys2Proof.Claims.LineControlEnablesAndDisables : Prop :=
  ∀ (s : State) (tag : Nat) (n : LineNo), s.inReset = false →
    ((s.line n).state = .outOfService → s.dsp.order = [] →
      ∃ t, exec (.lineControl tag (.fields { line := n.val, action := 0 })) s = .next t ∧
        t.line n = { s.line n with
          enabled := true, state := .idle
          ringQual := if (s.line n).ringInput then some ((s.line n).ringQual.getD (s.line n).config.ringOnMin) else none } ∧
        (∀ m, m ≠ n → t.line m = s.line m) ∧ t.flagged .lineState = true ∧ Answered s t (s.replyNow tag 15 .ok)) ∧
    ((s.line n).state = .idle ∨ (s.line n).state = .ringing →
      ∃ t, exec (.lineControl tag (.fields { line := n.val, action := 1 })) s = .next t ∧
        t.line n = { s.line n with
          enabled := false, state := .outOfService, ringQual := none, ringGap := none, ringing := none } ∧
        (∀ m, m ≠ n → t.line m = s.line m) ∧ t.flagged .lineState = true ∧ Answered s t (s.replyNow tag 15 .ok)) ∧
    ((s.line n).state.inCall = true →
      ∃ t, exec (.lineControl tag (.fields { line := n.val, action := 1 })) s = .next t ∧
        OnlyAnswered (s.updLine n fun l => { l with enabled := false }) t (s.replyNow tag 15 .ok)) ∧
    (∃ t, exec (.lineControl tag (.fields { line := n.val, action := 2 })) s = .next t ∧
      OnlyAnswered s t (s.replyNow tag 15 .badField))

/-- A ring input that becomes active on an IDLE or RINGING line starts the qualification timer, and one that becomes
inactive stops it; the timer's expiry in IDLE begins RINGING with one burst and the gap timer, and in RINGING, with
ring_count not yet reached, counts a burst and restarts the gap timer (R79, R86). -/
def Sys2Proof.Claims.RingBurstsAreQualified : Prop :=
  ∀ (s : State) (n : LineNo), s.inReset = false →
    ((s.line n).ringInput = false → ((s.line n).state = .idle ∨ (s.line n).state = .ringing) →
      ∃ t, exec (.ringInputChange n true) s = .next t ∧
        NothingButChoice
          (s.updLine n fun l => { l with ringInput := true, ringQual := some (s.line n).config.ringOnMin }) t) ∧
    (∃ t, exec (.ringInputChange n false) s = .next t ∧
      NothingButChoice (s.updLine n fun l => { l with ringInput := false, ringQual := none }) t) ∧
    ((s.line n).ringQual.isSome = true → (s.line n).state = .idle → 2 ≤ (s.line n).config.ringCount →
      ∃ t, exec (.ringBurstQualified n) s = .next t ∧
        NothingButChoice
          (s.updLine n fun l =>
            { l with
              state := .ringing, ringQual := none, ringGap := some (s.line n).config.ringGapMax
              ringing := some { time := s.now, bursts := 1, reason := none, unset := !s.chg.clock.set } }) t) ∧
    (∀ r : RingRecord, (s.line n).ringQual.isSome = true → (s.line n).state = .ringing → (s.line n).ringing = some r →
        r.bursts + 1 < (s.line n).config.ringCount →
      ∃ t, exec (.ringBurstQualified n) s = .next t ∧
        NothingButChoice
          (s.updLine n fun l =>
            { l with
              ringQual := none, ringGap := some (s.line n).config.ringGapMax
              ringing := some { r with bursts := r.bursts + 1 } }) t)

/-- From ring_count bursts on the answer test is made (R86), with ring_count 1 at the first burst, in IDLE: passed, the
line is ANSWERING with the hook closed, a charge record place reserved, the loop check timed and the call id taken (R87);
failed, it is RINGING and keeps the first failing condition. `r` is the ringing record with this burst. The context's
fields that nobody has written hold the values of log entry 41 (DESIGN CHOICE). -/
def Sys2Proof.Claims.AnswerTestDecidesAtRingCount : Prop :=
  ∀ (s : State) (n : LineNo) (r : RingRecord), s.inReset = false → (s.line n).ringQual.isSome = true →
    ((∃ q, (s.line n).state = .ringing ∧ (s.line n).ringing = some q ∧ r = { q with bursts := q.bursts + 1 }) ∨
      (s.line n).state = .idle ∧ r = { time := s.now, bursts := 1, reason := none, unset := !s.chg.clock.set }) →
    (s.line n).config.ringCount ≤ r.bursts →
    ((s.line n).config.enableIn = true → s.chg.reservations + s.chg.queue.length < 64 → 32 ≤ s.freeCount →
        ((s.codeSet 0).isSome = true ∨ (s.codeSet 1).isSome = true) →
      ∃ t, exec (.ringBurstQualified n) s = .next t ∧ (t.line n).state = .answering ∧ (t.line n).hookClosed = true ∧
        (t.line n).loopTimer = some 300 ∧ (t.line n).ringing = none ∧
        (t.line n).ctx = some { callId := s.callCounter, dir := .inbound, start := r.time, clockUnset := r.unset
                                reservation := true } ∧
        t.chg = { s.chg with reservations := s.chg.reservations + 1 } ∧ t.callCounter = wrap16 s.callCounter ∧
        t.pmm.mem = s.pmm.mem ∧ (∀ m, m ≠ n → t.line m = s.line m)) ∧
    (∀ f, (if (s.line n).config.enableIn = false then f = AnswerFail.notEnabled
        else if 64 ≤ s.chg.reservations + s.chg.queue.length then f = .noRecordSlot
        else if s.freeCount < 32 then f = .noMemory
        else s.codeSet 0 = none ∧ s.codeSet 1 = none ∧ f = .noCodeSet) →
      ∃ t, exec (.ringBurstQualified n) s = .next t ∧
        NothingButChoice
          (s.updLine n fun l =>
            { l with
              state := .ringing, ringQual := none, ringGap := some (s.line n).config.ringGapMax
              ringing := some { r with reason := some f } }) t)

/-- RING_GAP_EXPIRY abandons ringing: IDLE with the ringing record gone, and MISSED_CALL raised (R86); here with no job
waiting. That a running qualification is carried over, and an input held active qualifies afresh, is the model's reading
(log entry 29, DEDUCED). -/
def Sys2Proof.Claims.RingingIsAbandoned : Prop :=
  ∀ (s : State) (n : LineNo) (r : RingRecord), s.inReset = false → s.dsp.order = [] → (s.line n).ringGap.isSome = true →
    (s.line n).state = .ringing → (s.line n).ringing = some r →
    ∃ t, exec (.ringGapExpiry n) s = .next t ∧
      t.line n = { s.line n with
        state := .idle, ringGap := none, ringing := none
        ringQual := if (s.line n).ringInput then some ((s.line n).ringQual.getD (s.line n).config.ringOnMin) else none } ∧
      t.flagged .missedCall = true ∧ t.repliesOwed = s.repliesOwed ∧ t.chg = s.chg

/-- LOOP_CHECK: with loop current in SEIZED the loop is found, and a dial tone heard before is taken: its wait stops and
DIALING begins with the access prefix and the call's dial string, of which the first digit is sent; in ANSWERING the
answer time is read and the callee's OFFER goes out; without loop current the line is out of service, disabled, with the
hook open and no call, and LINE_STATE raised (R80, R83, R87, R100). -/
def Obligations.LoopCheckDecides : Prop :=
  ∀ (s : State) (n : LineNo), s.inReset = false → (s.line n).loopTimer.isSome = true →
    ((s.line n).state = .seized → (s.line n).toneSeen = false →
      ∃ t, exec (.loopCheck n true) s = .next t ∧
        NothingButChoice (s.updLine n fun l => { l with loopTimer := none, loopFound := true }) t) ∧
    (∀ (x : Ctx) (c : Byte) (cs : Text), (s.line n).state = .seized → (s.line n).toneSeen = true →
        (s.line n).ctx = some x → (s.line n).config.accessPrefix ++ x.dial = c :: cs → isKeyChar c = true →
      ∃ t, exec (.loopCheck n true) s = .next t ∧
        NothingButChoice
          (s.updLine n fun l =>
            { l with
              state := .dialing, loopTimer := none, loopFound := true, dialToneWait := none, toneSeen := false
              dial := cs, dialWait := some .carried, tx := l.tx ++ [.dialDigit c] }) t) ∧
    (∀ x : Ctx, (s.line n).state = .answering → (s.line n).ctx = some x →
      ∃ t, exec (.loopCheck n true) s = .next t ∧ (t.line n).state = .negotiating ∧
        (t.line n).tx = (s.line n).tx ++ Frame.chars (.offer
          { tag := s.station.tag, codes := (List.range 2).filterMap fun k => (s.codeSet k).map (·.number)
            diff := true, std := true, fine := true, receiveOk := (s.line n).enabled
            maxWidth := 2048, maxStep := (s.line n).config.maxStep, maxPages := 64 }) ∧
        (t.ctx n).answer = some s.now ∧ (t.ctx n).elapsed = 0 ∧ (t.ctx n).elapsedOn = true ∧
        (t.sess n).role = .callee ∧ (t.sess n).stage = .offered ∧
        (t.line n).frameReply = some (s.line n).config.frameReply) ∧
    (((s.line n).state = .seized ∨ (s.line n).state = .answering) →
      ∃ t, exec (.loopCheck n false) s = .next t ∧ (t.line n).state = .outOfService ∧ (t.line n).enabled = false ∧
        (t.line n).hookClosed = false ∧ (t.line n).ctx = none ∧ t.flagged .lineState = true ∧
        t.repliesOwed = s.repliesOwed)

/-- A meter input that becomes active while an outbound call counts pulses starts their qualification, and one that becomes
inactive stops it; a qualified pulse is counted, and under TARIFF metering charges nothing (R81, R177). -/
def Sys2Proof.Claims.MeterPulsesAreCounted : Prop :=
  ∀ (s : State) (n : LineNo), s.inReset = false →
    ((s.line n).meterInput = false → (s.line n).counts = true →
      ∃ t, exec (.meterInputChange n true) s = .next t ∧
        NothingButChoice
          (s.updLine n fun l => { l with meterInput := true, meterQual := some (s.line n).config.pulseOnMin }) t) ∧
    (∃ t, exec (.meterInputChange n false) s = .next t ∧
      NothingButChoice (s.updLine n fun l => { l with meterInput := false, meterQual := none }) t) ∧
    (∀ x : Ctx, (s.line n).ctx = some x → (s.line n).counts = true → (s.line n).meterQual.isSome = true →
        x.metering = .tariff →
      ∃ t, exec (.meterPulseQualified n) s = .next t ∧
        NothingButChoice (s.updLine n fun l => { l with meterQual := none, ctx := some { x with pulses := x.pulses + 1 } }) t)

/-- A qualified pulse of a PULSE call of a desk without a pool is a mandatory charge of pulse_cp: the desk is debited down
to its margin, what is left is written off, and a charge cut short releases the call with reason FUNDS (R174, R177). -/
def Sys2Proof.Claims.MeterPulseChargesTheDesk : Prop :=
  ∀ (s : State) (n : LineNo) (x : Ctx) (k : Nat), s.inReset = false → (s.line n).ctx = some x → (s.line n).counts = true →
    (s.line n).meterQual.isSome = true → x.metering = .pulse → x.desk = some k → k < 16 → x.pool = none →
    0 ≤ (s.desk k).balance + (s.desk k).margin →
    let c : Int := (s.line n).config.pulseCp
    let d := min c ((s.desk k).balance + (s.desk k).margin)
    ∃ t, exec (.meterPulseQualified n) s = .next t ∧
      (t.desk k).balance = (s.desk k).balance - d ∧ (t.desk k).metered = (s.desk k).metered + c ∧
      (t.desk k).charged = (s.desk k).charged + d ∧ (t.desk k).unrecovered = (s.desk k).unrecovered + (c - d) ∧
      -(t.desk k).margin ≤ (t.desk k).balance ∧ (t.ctx n).pulses = x.pulses + 1 ∧ (t.ctx n).charge = x.charge + d ∧
      (d < c → (s.line n).state.releasable = true →
        (t.line n).state = .releasing ∧ (t.ctx n).reason = some .funds)

/-- A qualified pulse of a PULSE call of a desk with a pool charges both (R173, R174): the pool's share of the charge is
floor((c × weight + 2048)/4096) by the desk's weight, each of the two is debited down to its own margin and writes off the
rest, the context's four sums rise with them, the closing flag is set where a balance is left at 0 or below, and a charge
cut short on either releases the call with reason FUNDS. -/
def Sys2Proof.Claims.MeterPulseChargesDeskAndPool : Prop :=
  ∀ (s : State) (n : LineNo) (x : Ctx) (k p : Nat), s.inReset = false → (s.line n).ctx = some x →
    (s.line n).counts = true → (s.line n).meterQual.isSome = true → x.metering = .pulse → x.desk = some k → k < 16 →
    x.pool = some p → p < 16 → p ≠ k → 0 ≤ (s.desk k).balance + (s.desk k).margin →
    0 ≤ (s.desk p).balance + (s.desk p).margin →
    let c : Int := (s.line n).config.pulseCp
    let h : Int := (c * (s.desk k).weight + 2048) / 4096
    let d := min c ((s.desk k).balance + (s.desk k).margin)
    let e := min h ((s.desk p).balance + (s.desk p).margin)
    ∃ t, exec (.meterPulseQualified n) s = .next t ∧
      (t.desk k).balance = (s.desk k).balance - d ∧ (t.desk k).metered = (s.desk k).metered + c ∧
      (t.desk k).charged = (s.desk k).charged + d ∧ (t.desk k).unrecovered = (s.desk k).unrecovered + (c - d) ∧
      (t.desk p).balance = (s.desk p).balance - e ∧ (t.desk p).metered = (s.desk p).metered + h ∧
      (t.desk p).charged = (s.desk p).charged + e ∧ (t.desk p).unrecovered = (s.desk p).unrecovered + (h - e) ∧
      (t.ctx n).pulses = x.pulses + 1 ∧ (t.ctx n).charge = x.charge + d ∧ (t.ctx n).poolShare = x.poolShare + e ∧
      (t.ctx n).unrecovered = x.unrecovered + (c - d) ∧ (t.ctx n).poolUnrecovered = x.poolUnrecovered + (h - e) ∧
      (t.ctx n).closing = (x.closing || decide ((s.desk k).balance - d ≤ 0) || decide ((s.desk p).balance - e ≤ 0)) ∧
      ((d < c ∨ e < h) → (s.line n).state.releasable = true →
        (t.line n).state = .releasing ∧ (t.ctx n).reason = some .funds)

/-- DIAL_TONE in SEIZED with the loop found begins DIALING with the access prefix and the call's dial string; heard before
the loop check it is remembered (R83, R84). -/
def Sys2Proof.Claims.DialToneBeginsDialling : Prop :=
  ∀ (s : State) (n : LineNo) (x : Ctx) (c : Byte) (cs : Text), s.inReset = false → (s.line n).state = .seized →
    (s.line n).ctx = some x →
    ((s.line n).loopFound = true → (s.line n).config.accessPrefix ++ x.dial = c :: cs → isKeyChar c = true →
      ∃ t, exec (.dialTone n) s = .next t ∧
        NothingButChoice
          (s.updLine n fun l =>
            { l with
              state := .dialing, dialToneWait := none, toneSeen := false, dial := cs, dialWait := some .carried
              tx := l.tx ++ [.dialDigit c] }) t) ∧
    ((s.line n).loopFound = false →
      ∃ t, exec (.dialTone n) s = .next t ∧ NothingButChoice (s.updLine n fun l => { l with toneSeen := true }) t)

/-- The dial string goes on at a pause's end or when the link has carried a digit: a digit, * or # is sent, a P pauses for
2 s, a W waits for a dial tone, and after the last character the line is in AWAIT_ANSWER (R84, R85). -/
def Sys2Proof.Claims.DiallingGoesOn : Prop :=
  ∀ (s : State) (n : LineNo) (e : Instr) (rest : List PumpChar), s.inReset = false → (s.line n).state = .dialing →
    (e = .pauseExpiry n ∧ (s.line n).pause.isSome = true ∧ rest = (s.line n).tx ∨
      e = .pumpCharacterSent n ∧ (s.line n).dialWait = some .carried ∧ (s.line n).pause = none ∧
        rest.any PumpChar.isDialDigit = false ∧ ∃ p, (s.line n).tx = p :: rest) →
    ((s.line n).dial = [] →
      ∃ t, exec e s = .next t ∧
        NothingButChoice
          (s.updLine n fun l =>
            { l with
              state := .awaitAnswer, pause := none, dialWait := none, answerWait := some l.config.answerWait, tx := rest }) t) ∧
    (∀ c cs, (s.line n).dial = c :: cs →
      (isKeyChar c = true →
        ∃ t, exec e s = .next t ∧
          NothingButChoice
            (s.updLine n fun l =>
              { l with pause := none, dial := cs, dialWait := some .carried, tx := rest ++ [.dialDigit c] }) t) ∧
      (c = 0x50 →
        ∃ t, exec e s = .next t ∧
          NothingButChoice
            (s.updLine n fun l => { l with pause := some 20, dial := cs, dialWait := some .pause, tx := rest }) t) ∧
      (c = 0x57 →
        ∃ t, exec e s = .next t ∧
          NothingButChoice
            (s.updLine n fun l =>
              { l with
                pause := none, dial := cs, dialWait := some .tone, dialToneWait := some l.config.dialToneWait
                tx := rest }) t))

/-- What releases a call: BUSY_TONE, the waits, CARRIER_LOST, END_ACK, a second RESEND, a second training failure, the frame
reply timer's last expiry and a step without funds (`State.releaseAsked`). The line is RELEASING with the hook open, its
guard running and its other call timers stopped, a data phase ended with DATA_STOP, the codec free, and the release reason
and time kept (R84, R85, R88 to R90, R98, R106, R113 to R115). DATA_STOP after CARRIER_LOST (log entry 33) and the counts
and check of a free codec (log entry 41) are the model's choice. -/
def Sys2Proof.Claims.CallsAreReleased : Prop :=
  ∀ (s : State) (n : LineNo) (x : Ctx) (c : Instr) (r : EndReason), s.inReset = false → (s.line n).ctx = some x →
    s.releaseAsked n c = some r →
    ∃ t, exec c s = .next t ∧ (t.line n).state = .releasing ∧ (t.line n).hookClosed = false ∧
      (t.line n).releaseGuard = some (s.line n).config.releaseGuard ∧ (t.line n).dialToneWait = none ∧
      (t.line n).answerWait = none ∧ (t.line n).frameReply = none ∧ (t.line n).pause = none ∧
      (t.line n).loopTimer = none ∧ (t.line n).phase = none ∧ (t.line n).codec = {} ∧
      (t.line n).tx = (s.line n).tx ++ (if (s.line n).phase.isSome then [.dataStop] else []) ∧
      (t.ctx n).reason = some r ∧ (t.ctx n).releaseTime = some s.now ∧ (t.ctx n).callId = x.callId ∧
      t.repliesOwed = s.repliesOwed

/-- The end of a received call (R90, R116, R143 to R146). Of the page in progress the call leaves a DAMAGED page with the
codec's counts where it holds bytes, and nothing where it holds none. The document is then closed: with no page left it is
freed and there is no DOC_RECEIVED; else DOC_RECEIVED carries the page counts and the disposition of R146's table, the
document stays with its pages under its board hold, goes without a hold, and its print entry learns the page count. The
reception record is emptied. -/
def Sys2Proof.Claims.ReceptionEndsWithTheCall : Prop :=
  ∀ (s : State) (n : LineNo) (x : Ctx) (c : Instr) (r : EndReason) (rc : Reception), s.inReset = false →
    (s.line n).ctx = some x → x.job = none → x.dir = .inbound → s.releaseAsked n c = some r → (s.sess n).reader = none →
    tget s.rtr.reception n.val none = some rc → s.pmm.pendingScan = none →
    (s.doc rc.document).state = .opened → (s.doc rc.document).origin = .received → (s.doc rc.document).pages.Nodup →
    let y := s.sess n
    let d := s.doc rc.document
    let kept := s.pagesLeft n rc.document
    let pages := kept.map (s.pageLeft n)
    (∀ p : PageRef, y.page = some p → s.writes n p.page = true →
      p.page ∈ d.pages ∧ (s.page p.page).document = some rc.document) →
    (∀ p ∈ kept, (s.pageLeft n p).state.readable = true) →
    ∃ t, exec c s = .next t ∧ tget t.rtr.reception n.val none = none ∧
      (kept = [] → t.doc rc.document = {} ∧ t.flagged .docReceived = s.flagged .docReceived) ∧
      (kept ≠ [] → t.flagged .docReceived = true) ∧
      (kept ≠ [] → s.bli.enabled .docReceived = true → s.bli.notices.length < 32 →
          (rc.entry.isSome = true ∨ d.boardHold = true ∨ d.sendHold = 0 ∧ d.printHold = 0) →
        t.noticesOwed[s.noticesOwed.length]? = some
          { tag := 0, time := s.now
            body := .docReceived n rc.callId rc.document (x.senderTag.getD []) rc.rule rc.desk r y.settled y.endPages
              (pages.countP fun g => g.state == .complete && !g.poor)
              (pages.countP fun g => g.state == .complete && g.poor)
              (pages.countP fun g => g.state == .damaged) (pages.map (·.badLines)).sum
              (if rc.entry.isSome then (if d.boardHold then .printingHeld else .printing)
               else if d.boardHold then .held else .discarded)
              rc.queueFull rc.entry }) ∧
      (kept ≠ [] → d.boardHold = true → (t.doc rc.document).state = .closed ∧ (t.doc rc.document).filler = .none ∧
        (t.doc rc.document).pages = kept ∧
        ∀ p ∈ kept, (t.page p).state = (s.pageLeft n p).state ∧ (t.page p).lineCount = (s.pageLeft n p).lineCount ∧
          (t.page p).badLines = (s.pageLeft n p).badLines ∧ (t.page p).final = (s.pageLeft n p).final) ∧
      (kept ≠ [] → d.boardHold = false → d.sendHold = 0 → d.printHold = 0 → t.doc rc.document = {}) ∧
      (∀ e, rc.entry = some e → ∀ w, s.entry e = some w → s.prt.order = [e] → w.document = rc.document →
        w.finalCount = none → 0 < d.printHold → (∀ p ∈ d.pages, s.writes n p = false) → kept ≠ [] →
        (w.state ≠ .blocked ∨ w.next ≤ kept.length) → t.entry e = some { w with finalCount := some kept.length })

/-- FAR_ANSWER of a TARIFF call of a desk without a pool, with funds for the set-up and the first step: the answer time is
read, the desk charged, the elapsed count begun, the first boundary timed by the band in force, and the line is
NEGOTIATING as caller, waiting for OFFER (R85, R98, R174, R175). -/
def Sys2Proof.Claims.FarAnswerChargesAndNegotiates : Prop :=
  ∀ (s : State) (n : LineNo) (x : Ctx) (tf : Tariff) (k : Nat), s.inReset = false → (s.line n).state = .awaitAnswer →
    (s.line n).ctx = some x → x.metering = .tariff → x.tariff = some tf → x.desk = some k → k < 16 → x.pool = none →
    let c : Int := (tf.setupCp + tf.stepCp : Nat)
    c ≤ (s.desk k).balance + (s.desk k).margin →
    ∃ t, exec (.farAnswer n) s = .next t ∧ (t.line n).state = .negotiating ∧ (t.line n).answerWait = none ∧
      (t.line n).frameReply = some (s.line n).config.frameReply ∧ (t.sess n).role = .caller ∧
      (t.sess n).stage = .waitOffer ∧ (t.ctx n).answer = some s.now ∧ (t.ctx n).elapsed = 0 ∧
      (t.ctx n).elapsedOn = true ∧ (t.ctx n).steps = 1 ∧ (t.ctx n).nextDue = some (tf.stepDs.getD s.chg.band 0) ∧
      (t.ctx n).charge = x.charge + c ∧
      (t.ctx n).closing = (x.closing || decide ((s.desk k).balance - c ≤ 0)) ∧
      t.desk k = { s.desk k with
        balance := (s.desk k).balance - c, metered := (s.desk k).metered + c, charged := (s.desk k).charged + c
        unrecovered := (s.desk k).unrecovered + 0 } ∧
      (∀ j, j ≠ k → t.desk j = s.desk j) ∧ t.repliesOwed = s.repliesOwed

/-- FAR_ANSWER of a TARIFF call of a desk with a pool, both with funds: the desk is charged the set-up and the first step
and the pool its share of the sum, floor((c × weight + 2048)/4096) (R173 to R175). -/
def Sys2Proof.Claims.FarAnswerChargesDeskAndPool : Prop :=
  ∀ (s : State) (n : LineNo) (x : Ctx) (tf : Tariff) (k p : Nat), s.inReset = false →
    (s.line n).state = .awaitAnswer → (s.line n).ctx = some x → x.metering = .tariff → x.tariff = some tf →
    x.desk = some k → k < 16 → x.pool = some p → p < 16 → p ≠ k →
    let c : Int := (tf.setupCp + tf.stepCp : Nat)
    let h : Int := (c * (s.desk k).weight + 2048) / 4096
    c ≤ (s.desk k).balance + (s.desk k).margin → h ≤ (s.desk p).balance + (s.desk p).margin →
    ∃ t, exec (.farAnswer n) s = .next t ∧ (t.line n).state = .negotiating ∧ (t.sess n).role = .caller ∧
      (t.ctx n).answer = some s.now ∧ (t.ctx n).steps = 1 ∧
      (t.ctx n).nextDue = some (tf.stepDs.getD s.chg.band 0) ∧ (t.ctx n).charge = x.charge + c ∧
      (t.ctx n).poolShare = x.poolShare + h ∧
      (t.ctx n).closing = (x.closing || decide ((s.desk k).balance - c ≤ 0) || decide ((s.desk p).balance - h ≤ 0)) ∧
      t.desk k = { s.desk k with
        balance := (s.desk k).balance - c, metered := (s.desk k).metered + c, charged := (s.desk k).charged + c
        unrecovered := (s.desk k).unrecovered + 0 } ∧
      t.desk p = { s.desk p with
        balance := (s.desk p).balance - h, metered := (s.desk p).metered + h, charged := (s.desk p).charged + h
        unrecovered := (s.desk p).unrecovered + 0 } ∧
      (∀ j, j ≠ k → j ≠ p → t.desk j = s.desk j) ∧ t.repliesOwed = s.repliesOwed

/-- A first charge that the margin cuts short releases the call at once with reason FUNDS, the debit made and the rest
written off (R89, R174, R175). That no session is begun is the model's reading (log entry 32, DEDUCED). -/
def Sys2Proof.Claims.ClampedFirstChargeReleases : Prop :=
  ∀ (s : State) (n : LineNo) (x : Ctx) (tf : Tariff) (k : Nat), s.inReset = false →
    (s.line n).state = .awaitAnswer → (s.line n).ctx = some x → x.metering = .tariff → x.tariff = some tf →
    tf.minSteps ≤ 1 → x.dir = .out → x.sess = none → x.desk = some k → k < 16 → x.pool = none →
    0 ≤ (s.desk k).balance + (s.desk k).margin →
    let c : Int := (tf.setupCp + tf.stepCp : Nat)
    (s.desk k).balance + (s.desk k).margin < c →
    ∃ t, exec (.farAnswer n) s = .next t ∧ (t.line n).state = .releasing ∧ (t.ctx n).reason = some .funds ∧
      (t.ctx n).sess = none ∧ (t.desk k).balance = -(s.desk k).margin ∧ (t.desk k).metered = (s.desk k).metered + c ∧
      (t.desk k).unrecovered = (s.desk k).unrecovered + (c - ((s.desk k).balance + (s.desk k).margin)) ∧
      (t.ctx n).steps = 1 ∧ (t.ctx n).nextDue = none ∧ t.repliesOwed = s.repliesOwed

/-- A charge record's fields (R180), for a call released with a reason: desk and pool are the context's, or desk 0 and its
pool where the context names none (R147); steps are those charged, and 0 for a PULSE call; the pages are the confirmed ones
of an outbound call and the settled ones of an inbound call. -/
def Sys2Proof.Claims.ChargeRecordFollowsR180 : Prop :=
  ∀ (s : State) (n : LineNo) (x : Ctx) (r : EndReason), (s.line n).ctx = some x → x.reason = some r →
    s.chargeRecord n =
      { seq := s.chg.counter, callId := x.callId, line := n, dir := x.dir
        desk := x.desk.getD 0
        pool := if x.desk.isSome then x.pool else if (s.desk 0).kind = .member then (s.desk 0).pool else none
        dialled := x.dial, cls := x.cls, tariffId := x.tariffId, start := x.start, answer := x.answer
        duration := x.elapsed, steps := if x.metering = .tariff then x.steps else 0, pulses := x.pulses
        charge := x.charge, poolShare := x.poolShare, unrecovered := x.unrecovered
        poolUnrecovered := x.poolUnrecovered
        pages := if x.dir = .out then x.confirmed else (x.sess.map (·.settled)).getD 0
        reason := r, jobTag := x.jobTag, dest := x.job.map Prod.snd, senderTag := x.senderTag.getD []
        clockUnset := x.clockUnset }

/-- RELEASE_GUARD_EXPIRY completes the call's record in place of its reservation and frees the line: IDLE where it is
enabled, here with no job waiting, else OUT_OF_SERVICE with LINE_STATE (R91, R178 to R180). -/
def Sys2Proof.Claims.GuardEndCompletesTheRecord : Prop :=
  ∀ (s : State) (n : LineNo), s.inReset = false → (s.line n).releaseGuard.isSome = true →
    ((s.line n).enabled = true → s.dsp.order = []) →
    ∃ t, exec (.releaseGuardExpiry n) s = .next t ∧ t.chg.queue = s.chg.queue ++ [s.chargeRecord n] ∧
      (s.chargeRecord n).seq = s.chg.counter ∧ t.chg.counter = wrap16 s.chg.counter ∧
      t.chg.reservations = s.chg.reservations - 1 ∧ (t.line n).ctx = none ∧ (t.line n).releaseGuard = none ∧
      (t.line n).state = (if (s.line n).enabled then .idle else .outOfService) ∧
      ((s.line n).enabled = false → t.flagged .lineState = true) ∧ t.repliesOwed = s.repliesOwed

/-- In a send data phase with the link free and the pace interval over, the codec's next byte starts, whether the link has
carried the character before or the interval has run out; after the last byte the phase is ended with DATA_STOP and
PAGE_TAIL goes out as a request, kept with a send count of 1 (R78, R98, R105). -/
def Obligations.PageBytesAreSent : Prop :=
  ∀ (s : State) (n : LineNo) (x : Ctx) (y : Session) (p : DataPhase) (e : Instr), s.inReset = false →
    (s.line n).ctx = some x → x.sess = some y → y.stage = .sendingData → (s.line n).phase = some p → p.dir = .send →
    p.ready = true → (s.line n).state = .sending →
    (e = .pumpCharacterSent n ∧ (∃ ch, (s.line n).tx = [ch]) ∧ (s.line n).pace = none ∨
      e = .paceIntervalExpiry n ∧ (s.line n).tx = [] ∧ (s.line n).pace.isSome = true) →
    (∀ b, s.nextByte n = some b →
      ∃ t, exec e s = .next t ∧
        NothingButChoice
          (s.updLine n fun l =>
            { l with
              tx := [.data b], pace := some 8
              codec := { l.codec with pos := l.codec.pos + 1, check := crcByte l.codec.check b } }) t) ∧
    (s.nextByte n = none →
      ∃ t, exec e s = .next t ∧ (t.line n).phase = none ∧ (t.sess n).stage = .waitAck ∧
        (t.line n).tx = .dataStop ::
          Frame.chars (.pageTail (s.tailValues n).1 (s.tailValues n).2.1 (s.tailValues n).2.2) ∧
        (t.sess n).request = some
          { frame := .pageTail (s.tailValues n).1 (s.tailValues n).2.1 (s.tailValues n).2.2, sent := 1 } ∧
        (t.sess n).expiries = 0 ∧
        (t.line n).frameReply = some (s.line n).config.frameReply)

/-! ## The session protocol (chapter 5) -/

/-- FRAME_BEGIN in a session state opens a fresh frame body, ends a receive phase with DATA_STOP and takes a callee whose
data flowed to WAIT_TAIL; data characters then join the body, up to 128 of them, with their error marks; a longer body is
dropped, and FRAME_END of a marked body discards it (R77, R110). -/
def Sys2Proof.Claims.FrameBodiesAreAssembled : Prop :=
  (∀ (s : State) (n : LineNo), s.inReset = false → (s.line n).state.takesFrames = true → (s.line n).phase = none →
    ∃ t, exec (.frameBegin n) s = .next t ∧ NothingButChoice (s.updLine n fun l => { l with frame := some {} }) t) ∧
  (∀ (s : State) (n : LineNo) (x : Ctx) (y : Session) (st : Nat), s.inReset = false →
    (s.line n).state.takesFrames = true → (s.line n).ctx = some x → x.sess = some y →
    (s.line n).phase = some { dir := .receive, step := st, ready := true } →
    ∃ t, exec (.frameBegin n) s = .next t ∧ (t.line n).frame = some {} ∧ (t.line n).phase = none ∧
      (t.line n).tx = (s.line n).tx ++ [.dataStop] ∧ (t.line n).codec = (s.line n).codec.finish ∧
      (t.sess n).stage = .waitTail ∧ (t.line n).frameReply = some (s.line n).config.frameReply) ∧
  (∀ (s : State) (n : LineNo) (f : FrameBody) (b : Byte) (e : Bool), s.inReset = false → (s.line n).frame = some f →
    ∃ t, exec (.dataCharacterReceived n b e) s = .next t ∧
      NothingButChoice
        (s.updLine n fun l =>
          { l with frame := if f.bytes.length < 128 then some { bytes := f.bytes ++ [b], marked := f.marked || e } else none })
        t) ∧
  (∀ (s : State) (n : LineNo) (f : FrameBody), s.inReset = false → (s.line n).frame = some f → f.marked = true →
    ∃ t, exec (.frameEnd n) s = .next t ∧ NothingButChoice (s.updLine n fun l => { l with frame := none }) t)

/-- FRAME_END of an unmarked body that spells a frame acts as that frame delivered, and one that spells none is discarded
(R77, R96). -/
def Sys2Proof.Claims.FrameEndDeliversTheFrame : Prop :=
  ∀ (s : State) (n : LineNo) (b : FrameBody), s.inReset = false → (s.line n).frame = some b → b.marked = false →
    (∀ f, Frame.ofBytes b.bytes = some f → exec (.frameEnd n) s = exec (f.instr n) s) ∧
    (Frame.ofBytes b.bytes = none →
      ∃ t, exec (.frameEnd n) s = .next t ∧ NothingButChoice (s.updLine n fun l => { l with frame := none }) t)

/-- A page character received in a running receive phase, outside a frame, is appended to the FILLING page and verified by
the codec (R7, R70, R109): here within a granted segment. -/
def Sys2Proof.Claims.ReceivedByteIsAppended : Prop :=
  ∀ (s : State) (n : LineNo) (x : Ctx) (y : Session) (r : PageRef) (k : Nat) (set : CodeSet) (b : Byte) (e : Bool) (st : Nat),
    s.inReset = false → (s.line n).ctx = some x → x.sess = some y → y.page = some r → (s.line n).frame = none →
    (s.line n).phase = some { dir := .receive, step := st, ready := true } → s.current r = true →
    (s.page r.page).state = .filling → (s.page r.page).byteCount % 1024 ≠ 0 → (s.line n).codec.slot = some k →
    s.codeSet k = some set →
    ∃ t, exec (.dataCharacterReceived n b e) s = .next t ∧
      t.page r.page = { s.page r.page with
        byteCount := (s.page r.page).byteCount + 1, check := crcByte (s.page r.page).check b } ∧
      t.pmm.mem = s.pmm.mem.write (segmentAddress ((s.page r.page).last.getD 0) (s.page r.page).byteCount) b ∧
      (∀ q, q ≠ r.page → t.page q = s.page q) ∧
      t.line n = { s.line n with codec := (s.line n).codec.verifyByte set x.params.coding.isDiff x.params.width b e } ∧
      (∀ m, m ≠ n → t.line m = s.line m) ∧ t.pmm.freeList = s.pmm.freeList ∧ t.repliesOwed = s.repliesOwed

/-- A page character received where the page's count is a multiple of 1024 (R3, R7, R109): a segment is granted from the
head of the free list, down to its last one, and takes the character; with no segment left the page is DAMAGED and final
with the bytes it holds, the callee has run out of memory, and the codec goes on reading. Here no print entry waits. -/
def Sys2Proof.Claims.ReceivedByteTakesASegment : Prop :=
  ∀ (s : State) (n : LineNo) (x : Ctx) (y : Session) (r : PageRef) (k : Nat) (set : CodeSet) (b : Byte) (e : Bool) (st : Nat),
    s.inReset = false → (s.line n).ctx = some x → x.sess = some y → y.page = some r → (s.line n).frame = none →
    (s.line n).phase = some { dir := .receive, step := st, ready := true } → s.current r = true → r.page < 256 →
    (s.page r.page).state = .filling → (s.page r.page).source = .received → (s.page r.page).byteCount % 1024 = 0 →
    (s.line n).codec.slot = some k → s.codeSet k = some set → s.prt.order = [] →
    let q := (s.line n).codec
    (∀ g rest, s.pmm.freeList = g :: rest →
      ∃ t, exec (.dataCharacterReceived n b e) s = .next t ∧ t.pmm.freeList = rest ∧
        t.page r.page = { s.page r.page with
          first := some ((s.page r.page).first.getD g), last := some g
          byteCount := (s.page r.page).byteCount + 1, check := crcByte (s.page r.page).check b } ∧
        t.pmm.mem = s.pmm.mem.write (1024 * g) b ∧ (∀ p, p ≠ r.page → t.page p = s.page p) ∧
        t.line n = { s.line n with codec := q.verifyByte set x.params.coding.isDiff x.params.width b e } ∧
        (∀ m, m ≠ n → t.line m = s.line m) ∧ t.repliesOwed = s.repliesOwed) ∧
    (s.pmm.freeList = [] →
      ∃ t, exec (.dataCharacterReceived n b e) s = .next t ∧
        t.page r.page = { s.page r.page with
          state := .damaged, lineCount := min q.found (s.page r.page).density.maxLines, badLines := min q.bad 65535
          final := true } ∧
        t.pmm.mem = s.pmm.mem ∧ (t.sess n).memExhausted = true ∧ (t.sess n).stage = y.stage ∧
        (t.line n).codec = q.verifyByte set x.params.coding.isDiff x.params.width b e ∧
        (t.line n).phase = (s.line n).phase ∧ t.repliesOwed = s.repliesOwed)

/-- DATA_READY starts the phase that awaits training, stops the training bound and takes the stage to SENDING_DATA or
RECEIVING_DATA, the first byte of a page sent starting at once on a free link (R78, R105, R107). -/
def Sys2Proof.Claims.DataReadyStartsThePhase : Prop :=
  ∀ (s : State) (n : LineNo) (x : Ctx) (y : Session) (st : Nat), s.inReset = false → (s.line n).ctx = some x →
    x.sess = some y →
    ((s.line n).phase = some { dir := .receive, step := st, ready := false } →
      ∃ t, exec (.dataReady n) s = .next t ∧
        NothingButChoice
          (s.updLine n fun l =>
            { l with
              phase := some { dir := .receive, step := st, ready := true }, frameReply := none
              ctx := some { x with sess := some { y with stage := .receivingData } } }) t) ∧
    (∀ b, (s.line n).phase = some { dir := .send, step := st, ready := false } → (s.line n).tx = [] →
        (s.line n).pace = none → s.nextByte n = some b →
      ∃ t, exec (.dataReady n) s = .next t ∧
        NothingButChoice
          (s.updLine n fun l =>
            { l with
              phase := some { dir := .send, step := st, ready := true }, frameReply := none
              tx := [.data b], pace := some 8
              codec := { l.codec with pos := l.codec.pos + 1, check := crcByte l.codec.check b }
              ctx := some { x with sess := some { y with stage := .sendingData } } }) t)

/-- A training failure, by TRAIN_FAIL or by the training bound's expiry: the caller that fails the first time ends the
phase, lowers the step and announces the page again; the second time it releases the call TRAIN_FAIL; the callee waits for
a new PAGE_HEAD (R106). A TRAIN_FAIL is taken by a phase that awaits training; one that the bound's expiry has begun anew
does so from the moment the link has carried its DATA_START (log entry 43, DEDUCED). DATA_STOP after TRAIN_FAIL is the
model's choice (log entry 33). -/
def Sys2Proof.Claims.TrainingFailureIsTriedOnceMore : Prop :=
  ∀ (s : State) (n : LineNo) (x : Ctx) (y : Session) (p : DataPhase) (e : Instr), s.inReset = false →
    (s.line n).ctx = some x → x.sess = some y → y.stage = .training → (s.line n).phase = some p → p.ready = false →
    (e = .trainFail n ∧ (s.line n).awaiting = some p ∨ e = .frameReplyExpiry n ∧ (s.line n).frameReply.isSome = true) →
    (y.role = .caller → y.trainFails = 0 →
      ∃ t, exec e s = .next t ∧ (t.sess n).step = y.step - 1 ∧ (t.sess n).trainFails = 1 ∧
        (t.sess n).stage = .training ∧
        (t.line n).tx = (s.line n).tx ++ .dataStop ::
          (Frame.chars (.pageHead (x.page.getD 0) (x.attempt.getD 0) (y.step - 1)) ++ [.dataStart (y.step - 1) .send]) ∧
        (t.line n).phase = some { dir := .send, step := y.step - 1, ready := false } ∧
        (t.line n).renewed = decide (e = .frameReplyExpiry n) ∧
        (t.line n).frameReply = some (s.line n).config.frameReply ∧ t.repliesOwed = s.repliesOwed) ∧
    (y.role = .caller → 1 ≤ y.trainFails → (s.line n).state.releasable = true →
      ∃ t, exec e s = .next t ∧ (t.line n).state = .releasing ∧ (t.ctx n).reason = some .trainFail) ∧
    (y.role = .callee →
      ∃ t, exec e s = .next t ∧ (t.line n).phase = none ∧ (t.line n).tx = (s.line n).tx ++ [.dataStop] ∧
        (t.sess n).stage = .waitHead ∧ (t.line n).frameReply = some (s.line n).config.frameReply)

/-- The phase that awaits training (R78), and the answers that belong to a failed one (R106): a send phase begun anew by the
bound's expiry, its DATA_START not yet carried by the link, takes neither DATA_READY nor TRAIN_FAIL, and nothing changes;
every other phase that has not begun awaits its training. That the link tells the two apart is the model's reading (log
entry 43, DEDUCED). -/
def Sys2Proof.Claims.OldAnswersAreDiscarded : Prop :=
  ∀ (s : State) (n : LineNo) (p : DataPhase), s.inReset = false → (s.line n).phase = some p → p.ready = false →
    (p.dir = .send → (s.line n).renewed = true → (∃ st d, PumpChar.dataStart st d ∈ (s.line n).tx) →
      (∃ t, exec (.dataReady n) s = .next t ∧ NothingButChoice s t) ∧
      (∃ t, exec (.trainFail n) s = .next t ∧ NothingButChoice s t)) ∧
    ((p.dir = .receive ∨ (s.line n).renewed = false ∨ ∀ st d, PumpChar.dataStart st d ∉ (s.line n).tx) →
      (s.line n).awaiting = some p)

/-- The code-set number a caller chooses and the fields of its CHOOSE (R101): the number of the page slot named by
CODER_CONFIG where that slot is loaded and the number is in the offer, else that of the other slot under the same test;
DIFF with the station's k where the offer takes DIFF; the smaller of the offer's width and the widest page; FINE where
every page is FINE and the offer takes FINE; the smaller of the two maximum steps. -/
def Sys2Proof.Claims.ChoiceFollowsR101 : Prop :=
  (∀ (s : State) (codes : List Nat) (c : CodeSet),
    (s.codeSet s.lcd.config.slot = some c → c.number ∈ codes →
      s.commonCode codes = some (s.lcd.config.slot, c.number)) ∧
    ((∀ d, s.codeSet s.lcd.config.slot = some d → d.number ∉ codes) → s.codeSet (1 - s.lcd.config.slot) = some c →
      c.number ∈ codes → s.commonCode codes = some (1 - s.lcd.config.slot, c.number))) ∧
  (∀ (s : State) (codes : List Nat), (∀ k, (k = s.lcd.config.slot ∨ k = 1 - s.lcd.config.slot) →
    ∀ d, s.codeSet k = some d → d.number ∉ codes) → s.commonCode codes = none) ∧
  (∀ (s : State) (n : LineNo) (d remaining number w : Nat) (f : OfferFields),
    (∀ p ∈ (s.doc d).pages, (s.page p).width ≤ w) →
    (w = 0 ∧ (s.doc d).pages = [] ∨ ∃ p ∈ (s.doc d).pages, (s.page p).width = w) →
    let c := s.chooseFields n d remaining number f
    c.tag = (s.ctx n).params.station.tag ∧ c.code = number ∧ c.pages = remaining ∧
    c.coding = (if f.diff then (s.ctx n).params.station.k else 0) ∧ c.width = min f.maxWidth w ∧
    ((∀ p ∈ (s.doc d).pages, (s.page p).density = .fine) → f.fine = true → c.density = 1) ∧
    (f.fine = false ∨ (∃ p ∈ (s.doc d).pages, (s.page p).density = .std) → c.density = 0) ∧
    c.step = min f.maxStep (s.line n).config.maxStep)

/-- What a callee's OFFER supports (R102): a code-set number held in a loaded slot, a width of 256..2048 in multiples of 32
and not above the offer's, a density the offer takes, PLAIN or DIFF with k 1..8, a step not above the offer's, and 1 to 64
pages. -/
def Sys2Proof.Claims.SupportFollowsR102 : Prop :=
  ∀ (s : State) (o : OfferFields) (f : ChooseFields),
    (s.choiceSupported o f = true ↔
      (∃ k c, k < 2 ∧ s.codeSet k = some c ∧ c.number = f.code) ∧ 256 ≤ f.width ∧ f.width ≤ 2048 ∧ f.width % 32 = 0 ∧
      f.width ≤ o.maxWidth ∧ (f.density = 0 ∧ o.std = true ∨ f.density = 1 ∧ o.fine = true) ∧ f.coding ≤ 8 ∧
      f.step ≤ o.maxStep ∧ 1 ≤ f.pages ∧ f.pages ≤ 64)

/-- The route of a call (R139): the first rule of the table that covers the line and whose tag prefix begins the caller's
tag, with its number; with none, desk 0, priority 2, one copy, the hold clear, and no number. -/
def Sys2Proof.Claims.RouteFollowsR139 : Prop :=
  ∀ (t : Rtr) (n : LineNo) (tag : Text),
    let hits (r : RouteRule) : Prop := r.mask.testBit n.val = true ∧ ∃ rest, tag = r.tagPrefix ++ rest
    (∀ i r, t.table[i]? = some r → hits r → (∀ j q, j < i → t.table[j]? = some q → ¬ hits q) →
      t.route n tag = (some i, r)) ∧
    ((∀ q ∈ t.table, ¬ hits q) → (t.route n tag).1 = none ∧ (t.route n tag).2.desk = 0 ∧
      (t.route n tag).2.priority = 2 ∧ (t.route n tag).2.copies = 1 ∧ (t.route n tag).2.hold = false)

/-- The bad count and the keep test (R111): bad lines and the difference between the lines found and those stated, at most
65535; and the ratio, the longest bad run, the check value and the byte count. -/
def Sys2Proof.Claims.KeepTestFollowsR111 : Prop :=
  ∀ (s : State) (n : LineNo) (g : PageRec) (lines bytes : Nat) (check : BitVec 16),
    let q := (s.line n).codec
    let st := (s.ctx n).params.station
    badCount q lines = min 65535 (q.bad + ((q.found : Int) - lines).natAbs) ∧
    (s.keepTest n g lines bytes check = true ↔
      badCount q lines * 64 ≤ lines * st.keepRatio ∧ q.longest ≤ st.maxConsec ∧ g.check = check ∧ g.byteCount = bytes)

/-- The caller takes OFFER in WAIT_OFFER: with reception allowed, room for its pages and a code set in common it binds its
codec, keeps the far tag and answers with CHOOSE as a request; else it closes with END as a request and the cause (R98,
R101, R114). The counts and check of the codec just bound are the model's choice (log entry 41). -/
def Sys2Proof.Claims.CallerTakesOffer : Prop :=
  ∀ (s : State) (n : LineNo) (x : Ctx) (y : Session) (f : OfferFields) (jd : Nat × Nat) (j : Job), s.inReset = false →
    (s.line n).ctx = some x → x.sess = some y → y.role = .caller → y.stage = .waitOffer →
    (s.line n).state = .negotiating → (s.line n).phase = none → (Frame.offer f).inRange = true →
    x.job = some jd → s.job jd.1 = some j →
    let remaining := (s.doc j.document).pages.length - y.base
    (∀ k number, f.receiveOk = true → remaining ≤ f.maxPages → s.commonCode f.codes = some (k, number) →
      ∃ t, exec (.offer n f) s = .next t ∧ (t.sess n).stage = .waitReply ∧ (t.sess n).farTag = f.tag ∧
        (t.sess n).step = min f.maxStep (s.line n).config.maxStep ∧ (t.line n).codec = Codec.bound k ∧
        (t.ctx n).params.code = number ∧ (t.ctx n).params.pages = remaining ∧
        (t.line n).tx = (s.line n).tx ++ Frame.chars (.choose (s.chooseFields n j.document remaining number f)) ∧
        (t.sess n).request = some { frame := .choose (s.chooseFields n j.document remaining number f), sent := 1 } ∧
        (t.line n).frameReply = some (s.line n).config.frameReply ∧ (t.line n).frame = none) ∧
    (∀ cause, (if f.receiveOk = false then cause = CloseCause.declined .notReceiving
        else if f.maxPages < remaining then cause = .declined .unsupported
        else s.commonCode f.codes = none ∧ cause = .noCommonCode) →
      ∃ t, exec (.offer n f) s = .next t ∧ (t.line n).state = .closing ∧ (t.sess n).stage = .waitEndAck ∧
        (t.sess n).closeCause = some cause ∧ (t.sess n).farTag = f.tag ∧
        (t.sess n).request = some { frame := .endCall x.confirmed, sent := 1 } ∧
        (t.line n).tx = (s.line n).tx ++ Frame.chars (.endCall x.confirmed) ∧
        (t.line n).frameReply = some (s.line n).config.frameReply)

/-- The callee takes its first CHOOSE: a choice its OFFER does not support is declined UNSUPPORTED, every choice is declined
NOT_RECEIVING where the OFFER said so, and the sender tag is kept; a duplicate is answered from the stored reply, ACCEPT
in WAIT_HEAD and DECLINE in DECLINED (R99, R102). -/
def Sys2Proof.Claims.CalleeDeclinesChoose : Prop :=
  ∀ (s : State) (n : LineNo) (x : Ctx) (y : Session) (o : OfferFields) (f : ChooseFields), s.inReset = false →
    (s.line n).ctx = some x → x.sess = some y → y.role = .callee → (s.line n).state.takesFrames = true →
    (s.line n).phase = none → f.tag.length ≤ 20 →
    (∀ r, y.stage = .offered → y.offered = some o →
        (if o.receiveOk = false then r = DeclineReason.notReceiving
         else s.choiceSupported o f = false ∧ r = .unsupported) →
      ∃ t, exec (.choose n f) s = .next t ∧ (t.sess n).stage = .declined ∧ (t.sess n).declined = some r ∧
        (t.sess n).farTag = f.tag ∧ (t.ctx n).senderTag = some f.tag ∧
        (t.line n).tx = (s.line n).tx ++ Frame.chars (.decline r.code) ∧
        (t.sess n).storedReply = some (.decline r.code) ∧
        (t.line n).frameReply = some (s.line n).config.frameReply ∧ (∀ d, t.doc d = s.doc d)) ∧
    (y.stage = .waitHead → y.storedReply = some .accept →
      ∃ t, exec (.choose n f) s = .next t ∧ (t.sess n).stage = .waitHead ∧ (t.sess n).expiries = 0 ∧
        (t.line n).tx = (s.line n).tx ++ Frame.chars .accept ∧
        (t.line n).frameReply = some (s.line n).config.frameReply ∧ (∀ d, t.doc d = s.doc d)) ∧
    (∀ r : DeclineReason, y.stage = .declined → y.storedReply = some (.decline r.code) →
      ∃ t, exec (.choose n f) s = .next t ∧ (t.sess n).stage = .declined ∧ (t.sess n).declined = y.declined ∧
        (t.sess n).expiries = 0 ∧ (t.sess n).storedReply = some (.decline r.code) ∧
        (t.line n).tx = (s.line n).tx ++ Frame.chars (.decline r.code) ∧
        (t.line n).frameReply = some (s.line n).config.frameReply ∧ (∀ d, t.doc d = s.doc d))

/-- A supported CHOOSE is accepted: the router's document is created with the route's desk and hold and the caller's tag,
filled by the line; the line is RECEIVING, waits for a PAGE_HEAD, and its codec is bound to the chosen slot. A route that
prints has its BLOCKED entry and the document its print hold; with all 32 entries in use the document has its board hold
instead, and PRINT_QUEUE_FULL is raised. The reception record says which (R102, R103, R139 to R142, R150). The counts and
check of the codec just bound are the model's choice (log entry 41). -/
def Sys2Proof.Claims.CalleeAcceptsChoose : Prop :=
  ∀ (s : State) (n : LineNo) (x : Ctx) (y : Session) (o : OfferFields) (f : ChooseFields) (k d p : Nat) (rule : Option Nat)
    (route : RouteRule), s.inReset = false → (s.line n).ctx = some x → x.sess = some y → y.role = .callee →
    y.stage = .offered → y.offered = some o → (s.line n).state = .negotiating → (s.line n).phase = none →
    f.tag.length ≤ 20 → o.receiveOk = true → s.choiceSupported o f = true → s.slotOf f.code = some k →
    s.freePageRecord = some p → s.freeDocRecord = some d → s.rtr.route n f.tag = (rule, route) →
    let prints : Bool := decide (1 ≤ route.copies)
    let full : Bool := prints && s.freeEntry.isNone
    ∃ t, exec (.choose n f) s = .next t ∧ (t.line n).state = .receiving ∧ (t.sess n).stage = .waitHead ∧
      (t.line n).codec = Codec.bound k ∧ (t.line n).tx = (s.line n).tx ++ Frame.chars .accept ∧
      (t.sess n).storedReply = some .accept ∧ (t.ctx n).senderTag = some f.tag ∧ (t.ctx n).desk = some route.desk ∧
      (t.ctx n).pool = (s.desk route.desk).poolOf ∧ (t.ctx n).params.width = f.width ∧
      t.doc d = { state := .opened, origin := .received, boardHold := route.hold || full, filler := .lch n
                  desk := route.desk, senderTag := some f.tag, created := s.now
                  printHold := if prints && !full then 1 else 0 } ∧
      (∀ e, e ≠ d → t.doc e = s.doc e) ∧
      tget t.rtr.reception n.val none = some
        { callId := x.callId, document := d, rule := rule, desk := route.desk, pool := (s.desk route.desk).poolOf
          priority := route.priority, copies := route.copies, hold := route.hold
          entry := if prints then s.freeEntry else none, queueFull := full } ∧
      (∀ e, s.freeEntry = some e → prints = true →
        t.entry e = some
          { seq := s.prt.counter, source := .route, document := d, priority := route.priority, copies := route.copies
            remaining := route.copies, state := .blocked, finalCount := none } ∧
        t.prt.order = s.prt.order ++ [e] ∧ t.prt.counter = wrap16 s.prt.counter ∧ ∀ g, g ≠ e → t.entry g = s.entry g) ∧
      ((prints && !full) = false → t.prt = s.prt) ∧
      (full = true → t.flagged .printQueueFull = true) ∧
      (full = true → s.bli.enabled .printQueueFull = true → s.bli.notices.length < 32 →
        t.noticesOwed = s.noticesOwed ++
          [{ tag := 0, time := s.now
             body := .printQueueFull n x.callId d f.tag rule route.priority route.copies }])

/-- A supported CHOOSE for which no page record or no document record is FREE: the router answers shortage and creates
nothing, and the callee unbinds its codec, sets memory exhausted and answers DECLINE NO_MEMORY as for a decline (R103,
R140). The counts and check of a free codec are the model's choice (log entry 41). -/
def Sys2Proof.Claims.ShortageDeclinesChoose : Prop :=
  ∀ (s : State) (n : LineNo) (x : Ctx) (y : Session) (o : OfferFields) (f : ChooseFields), s.inReset = false →
    (s.line n).ctx = some x → x.sess = some y → y.role = .callee → y.stage = .offered → y.offered = some o →
    (s.line n).state = .negotiating → (s.line n).phase = none → f.tag.length ≤ 20 → o.receiveOk = true →
    s.choiceSupported o f = true → (s.freePageRecord = none ∨ s.freeDocRecord = none) →
    ∃ t, exec (.choose n f) s = .next t ∧ (t.line n).state = .negotiating ∧ (t.sess n).stage = .declined ∧
      (t.sess n).declined = some .noMemory ∧ (t.sess n).memExhausted = true ∧ (t.sess n).farTag = f.tag ∧
      (t.ctx n).senderTag = some f.tag ∧ (t.ctx n).desk = x.desk ∧ (t.line n).codec = {} ∧
      (t.line n).tx = (s.line n).tx ++ Frame.chars (.decline 1) ∧ (t.sess n).storedReply = some (.decline 1) ∧
      (t.line n).frameReply = some (s.line n).config.frameReply ∧ (∀ d, t.doc d = s.doc d) ∧
      t.rtr = s.rtr ∧ t.prt = s.prt ∧ t.noticesOwed = s.noticesOwed

/-- The caller takes ACCEPT in WAIT_REPLY: with the closing flag set it closes with END; else the line is SENDING, the
first page's reader is acquired, its PAGE_HEAD and DATA_START go out, and training is bounded (R104, R105). -/
def Sys2Proof.Claims.CallerTakesAccept : Prop :=
  ∀ (s : State) (n : LineNo) (x : Ctx) (y : Session) (jd : Nat × Nat) (j : Job) (p : Nat), s.inReset = false →
    (s.line n).ctx = some x → x.sess = some y → y.role = .caller → y.stage = .waitReply →
    (s.line n).state = .negotiating → (s.line n).phase = none → x.job = some jd → s.job jd.1 = some j →
    (s.doc j.document).pages[y.base]? = some p → (s.page p).state.readable = true →
    (s.page p).document.isSome = true → (s.page p).transmissions < 4 →
    (x.closing = false →
      ∃ t, exec (.accept n) s = .next t ∧ (t.line n).state = .sending ∧ (t.sess n).stage = .training ∧
        (t.ctx n).page = some 1 ∧ (t.ctx n).attempt = some 1 ∧
        (t.sess n).reader = some { page := p, gen := s.pmm.generation } ∧
        t.page p = { s.page p with transmissions := (s.page p).transmissions + 1 } ∧
        (t.line n).tx = (s.line n).tx ++ Frame.chars (.pageHead 1 1 y.step) ++ [.dataStart y.step .send] ∧
        (t.line n).phase = some { dir := .send, step := y.step, ready := false } ∧
        (t.line n).frameReply = some (s.line n).config.frameReply) ∧
    (x.closing = true →
      ∃ t, exec (.accept n) s = .next t ∧ (t.line n).state = .closing ∧ (t.sess n).closeCause = some .closingFlag ∧
        (t.line n).tx = (s.line n).tx ++ Frame.chars (.endCall x.confirmed) ∧ ∀ q, t.page q = s.page q)

/-- A caller that takes a DECLINE in TRAINING, SENDING_DATA or WAIT_ACK ends its data phase with DATA_STOP if one runs,
gives its transmission reader back and closes with END, the close cause DECLINED with the frame's reason; the page being
sent is not confirmed (R108). -/
def Obligations.CallerTakesDecline : Prop :=
  ∀ (s : State) (n : LineNo) (x : Ctx) (y : Session) (r : DeclineReason) (ref : PageRef), s.inReset = false →
    (s.line n).ctx = some x → x.sess = some y → y.role = .caller →
    (y.stage = .training ∨ y.stage = .sendingData ∨ y.stage = .waitAck) → (s.line n).state = .sending →
    (∀ p, (s.line n).phase = some p → p.dir = .send) → y.reader = some ref → s.current ref = true →
    ref.page < 256 → (s.page ref.page).document.isSome = true → 0 < (s.page ref.page).transmissions →
    ∃ t, exec (.decline n r.code) s = .next t ∧ (t.line n).state = .closing ∧ (t.sess n).stage = .waitEndAck ∧
      (t.sess n).closeCause = some (.declined r) ∧ (t.sess n).reader = none ∧
      t.page ref.page = { s.page ref.page with transmissions := (s.page ref.page).transmissions - 1 } ∧
      (t.ctx n).confirmed = x.confirmed ∧ (t.line n).phase = none ∧
      (t.line n).tx = (s.line n).tx ++ (if (s.line n).phase.isSome then [.dataStop] else []) ++
        Frame.chars (.endCall x.confirmed) ∧ t.repliesOwed = s.repliesOwed

/-- The callee takes a PAGE_HEAD for the next page: it opens a FILLING page of the call's document with the negotiated
parameters, starts verification, and begins a receive phase at the step named (R107). That this step is from then on the
callee's current step is the model's choice (log entry 48). -/
def Sys2Proof.Claims.CalleeTakesPageHead : Prop :=
  ∀ (s : State) (n : LineNo) (x : Ctx) (y : Session) (rc : Reception) (m st p k : Nat), s.inReset = false →
    (s.line n).ctx = some x → x.sess = some y → y.role = .callee → y.stage = .waitHead → y.headSince = false →
    y.memExhausted = false → (s.line n).state = .receiving → (s.line n).phase = none → m = y.settled + 1 →
    m ≤ x.params.pages → m ≤ 64 → st ≤ 5 → x.page ≠ some m → tget s.rtr.reception n.val none = some rc →
    (s.line n).codec.slot = some k → rc.document < 64 → (s.doc rc.document).state = .opened →
    (s.doc rc.document).filler = .lch n → (s.doc rc.document).pages.length < 64 →
    (∀ q ∈ (s.doc rc.document).pages, (s.page q).state ≠ .filling) → s.freePageRecord = some p →
    ∃ t, exec (.pageHead n m 1 st) s = .next t ∧ (t.sess n).stage = .training ∧ (t.sess n).step = st ∧
      (t.ctx n).page = some m ∧ (t.ctx n).attempt = some 1 ∧
      (t.sess n).page = some { page := p, gen := s.pmm.generation } ∧
      (t.line n).codec = (s.line n).codec.verifying ∧
      (t.line n).phase = some { dir := .receive, step := st, ready := false } ∧
      (t.line n).tx = (s.line n).tx ++ [.dataStart st .receive] ∧
      t.page p = { state := .filling, document := some rc.document, index := (s.doc rc.document).pages.length + 1
                   source := .received, slot := k, coding := x.params.coding, width := x.params.width
                   density := x.params.density } ∧
      (t.doc rc.document).pages = (s.doc rc.document).pages ++ [p]

/-- The callee judges a PAGE_TAIL in WAIT_TAIL by the keep test of R111 and answers PAGE_ACK with its verdict and bad
count: a page that passes is COMPLETE and settled, a failed first attempt is discarded for a RESEND, a failed second
attempt is kept as poor, and a damaged page stays as it is (R111, R112). That a kept page takes the line count of any
PAGE_TAIL, above a page's maximum too, is the model's reading (log entry 38, DEDUCED). -/
def Sys2Proof.Claims.CalleeJudgesPageTail : Prop :=
  ∀ (s : State) (n : LineNo) (x : Ctx) (y : Session) (r : PageRef) (lines bytes m : Nat) (check : BitVec 16),
    s.inReset = false → s.prt.order = [] → s.pmm.pendingScan = none → (s.line n).ctx = some x → x.sess = some y →
    y.role = .callee → y.stage = .waitTail → (s.line n).state = .receiving → (s.line n).phase = none →
    y.page = some r → s.current r = true → r.page < 256 → x.page = some m → x.attempt.isSome = true →
    let g := s.page r.page
    let bad := badCount (s.line n).codec lines
    let pass := s.keepTest n g lines bytes check
    let v := if g.state = .damaged then Verdict.keepPoor else if pass then .keep
      else if x.attempt = some 1 then .resend else .keepPoor
    (g.state = .filling ∨ g.state = .damaged) →
    ∃ t, exec (.pageTail n lines bytes check) s = .next t ∧
      (t.line n).tx = (s.line n).tx ++ Frame.chars (.pageAck m v.code bad) ∧ (t.sess n).stage = .waitHead ∧
      (t.sess n).storedReply = some (.pageAck m v.code bad) ∧ (t.sess n).headSince = false ∧
      (t.line n).frameReply = some (s.line n).config.frameReply ∧
      (g.state = .damaged → t.page r.page = g) ∧
      (g.state = .filling → v = .keep ∨ v = .keepPoor →
        t.page r.page = { g with
          state := .complete, lineCount := lines, badLines := bad, poor := decide (v = .keepPoor), final := true }) ∧
      (g.state = .filling → v = .resend → (t.page r.page).state = .filling ∧ (t.page r.page).byteCount = 0 ∧
        (t.page r.page).check = 0xFFFF ∧ (t.sess n).page = some r ∧ (t.sess n).settled = y.settled) ∧
      (v ≠ .resend → (t.sess n).settled = y.settled + 1 ∧ (t.sess n).page = none)

/-- The caller takes the PAGE_ACK of its current page in WAIT_ACK: RESEND of a first attempt announces the page again one
step lower, RESEND of a second releases the call PROTOCOL_TIMEOUT. KEEP and KEEP_POOR confirm the page and give its
transmission reader back; after the last page, or with the closing flag set, the caller closes with END, and otherwise the
next page begins: its reader acquired, attempt 1, no training failure, PASS or RECODE chosen, PAGE_HEAD and DATA_START
sent at the current step and its training bounded (R105, R113, R114). -/
def Obligations.CallerTakesPageAck : Prop :=
  ∀ (s : State) (n : LineNo) (x : Ctx) (y : Session) (m bad : Nat) (v : Verdict), s.inReset = false →
    (s.line n).ctx = some x → x.sess = some y → y.role = .caller → y.stage = .waitAck → (s.line n).state = .sending →
    (s.line n).phase = none → x.page = some m → 1 ≤ m → m ≤ 64 →
    (v = .resend → x.attempt = some 1 →
      ∃ t, exec (.pageAck n m v.code bad) s = .next t ∧ (t.sess n).stage = .training ∧ (t.sess n).step = y.step - 1 ∧
        (t.ctx n).attempt = some 2 ∧ (t.ctx n).confirmed = x.confirmed ∧ (t.sess n).reader = y.reader ∧
        (t.sess n).trainFails = y.trainFails ∧
        (t.line n).tx = (s.line n).tx ++ Frame.chars (.pageHead m 2 (y.step - 1)) ++ [.dataStart (y.step - 1) .send]) ∧
    (v = .resend → x.attempt = some 2 →
      ∃ t, exec (.pageAck n m v.code bad) s = .next t ∧ (t.line n).state = .releasing ∧
        (t.ctx n).reason = some .protocolTimeout ∧ (t.ctx n).confirmed = x.confirmed) ∧
    (v ≠ .resend → (m = x.params.pages ∨ x.closing = true) →
      ∃ t, exec (.pageAck n m v.code bad) s = .next t ∧ (t.ctx n).confirmed = x.confirmed + 1 ∧
        (t.line n).state = .closing ∧ (t.sess n).stage = .waitEndAck ∧ (t.sess n).reader = none ∧
        (t.sess n).closeCause = some (if m = x.params.pages then .lastPage else .closingFlag) ∧
        (t.line n).tx = (s.line n).tx ++ Frame.chars (.endCall (x.confirmed + 1)) ∧
        ∀ ref, y.reader = some ref → s.current ref = true → ref.page < 256 →
          (s.page ref.page).document.isSome = true → 0 < (s.page ref.page).transmissions →
          t.page ref.page = { s.page ref.page with transmissions := (s.page ref.page).transmissions - 1 }) ∧
    (∀ (ref : PageRef) (jd : Nat × Nat) (j : Job) (p : Nat), v ≠ .resend → m < x.params.pages → x.closing = false →
        y.reader = some ref → s.current ref = true → ref.page < 256 → (s.page ref.page).document.isSome = true →
        0 < (s.page ref.page).transmissions → x.job = some jd → s.job jd.1 = some j →
        (s.doc j.document).pages[y.base + m]? = some p → p ≠ ref.page → (s.page p).state.readable = true →
        (s.page p).document.isSome = true → (s.page p).transmissions < 4 →
      ∃ t, exec (.pageAck n m v.code bad) s = .next t ∧ (t.ctx n).confirmed = x.confirmed + 1 ∧
        (t.line n).state = .sending ∧ (t.sess n).stage = .training ∧ (t.ctx n).page = some (m + 1) ∧
        (t.ctx n).attempt = some 1 ∧ (t.sess n).trainFails = 0 ∧ (t.sess n).step = y.step ∧
        (t.sess n).request = none ∧ (t.sess n).reader = some { page := p, gen := s.pmm.generation } ∧
        t.page p = { s.page p with transmissions := (s.page p).transmissions + 1 } ∧
        t.page ref.page = { s.page ref.page with transmissions := (s.page ref.page).transmissions - 1 } ∧
        (t.line n).codec.work = (if s.passes n (s.page p) then .pass else .recode) ∧
        (t.line n).codec.page = some { page := p, gen := s.pmm.generation } ∧
        (t.line n).phase = some { dir := .send, step := y.step, ready := false } ∧
        (t.line n).tx =
          (s.line n).tx ++ Frame.chars (.pageHead (m + 1) 1 y.step) ++ [.dataStart y.step .send] ∧
        (t.line n).frameReply = some (s.line n).config.frameReply)

/-- END and END_ACK: the callee answers END with END_ACK, is CLOSING and lingers; the caller releases the call at END_ACK
with the reason of its close cause (R114, R115). -/
def Sys2Proof.Claims.CallsAreClosed : Prop :=
  (∀ (s : State) (n : LineNo) (x : Ctx) (y : Session) (k : Nat), s.inReset = false → (s.line n).ctx = some x →
    x.sess = some y → y.role = .callee →
    (y.stage = .waitHead ∨ y.stage = .waitTail ∨ y.stage = .offered ∨ y.stage = .declined) →
    (s.line n).state.takesFrames = true → (s.line n).phase = none → k ≤ 64 →
    ∃ t, exec (.endFrame n k) s = .next t ∧ (t.line n).state = .closing ∧ (t.sess n).stage = .linger ∧
      (t.sess n).endPages = some k ∧ (t.line n).tx = (s.line n).tx ++ Frame.chars .endAck ∧
      (t.line n).frameReply = some (s.line n).config.frameReply) ∧
  (∀ (s : State) (n : LineNo) (x : Ctx) (y : Session) (cause : CloseCause), s.inReset = false →
    (s.line n).ctx = some x → x.sess = some y → y.role = .caller → y.stage = .waitEndAck →
    (s.line n).state = .closing → (s.line n).phase = none → y.closeCause = some cause →
    ∃ t, exec (.endAck n) s = .next t ∧ (t.line n).state = .releasing ∧ (t.line n).hookClosed = false ∧
      (t.line n).releaseGuard = some (s.line n).config.releaseGuard ∧
      (t.ctx n).reason = some (match cause with
        | .lastPage | .closingFlag => EndReason.completed
        | .noCommonCode => .noCommonCode
        | .declined r => .declined r))

/-- The frame reply timer's expiry: a request sent fewer than three times is sent again, the third expiry of a wait
without a request releases the call PROTOCOL_TIMEOUT and an earlier one is counted, and a lingering callee releases the
call with the reason of R115 (R98, R99, R115). -/
def Sys2Proof.Claims.ReplyTimerRepeatsOrReleases : Prop :=
  ∀ (s : State) (n : LineNo) (x : Ctx) (y : Session), s.inReset = false → (s.line n).ctx = some x → x.sess = some y →
    (s.line n).frameReply.isSome = true → (s.line n).state.takesFrames = true →
    (∀ q : Request, (y.stage = .waitReply ∨ y.stage = .waitAck ∨ y.stage = .offered ∨ y.stage = .waitEndAck) →
        y.request = some q → q.sent < 3 →
      ∃ t, exec (.frameReplyExpiry n) s = .next t ∧
        NothingButChoice
          (s.updLine n fun l =>
            { l with
              tx := l.tx ++ q.frame.chars, frameReply := some l.config.frameReply
              ctx := some { x with sess := some { y with request := some { q with sent := q.sent + 1 } } } }) t) ∧
    (∀ q : Request, (y.stage = .waitReply ∨ y.stage = .waitAck ∨ y.stage = .offered) → y.request = some q → 3 ≤ q.sent →
      ∃ t, exec (.frameReplyExpiry n) s = .next t ∧ (t.line n).state = .releasing ∧
        (t.ctx n).reason = some .protocolTimeout) ∧
    ((y.stage = .waitOffer ∨ y.stage = .declined ∨ y.stage = .waitHead ∨ y.stage = .waitTail) → y.expiries < 2 →
      ∃ t, exec (.frameReplyExpiry n) s = .next t ∧
        NothingButChoice
          (s.updLine n fun l =>
            { l with
              frameReply := some l.config.frameReply
              ctx := some { x with sess := some { y with expiries := y.expiries + 1 } } }) t) ∧
    ((y.stage = .waitOffer ∨ y.stage = .declined ∨ y.stage = .waitHead ∨ y.stage = .waitTail) → 2 ≤ y.expiries →
      ∃ t, exec (.frameReplyExpiry n) s = .next t ∧ (t.line n).state = .releasing ∧
        (t.ctx n).reason = some .protocolTimeout) ∧
    (y.stage = .linger →
      ∃ t, exec (.frameReplyExpiry n) s = .next t ∧ (t.line n).state = .releasing ∧
        (t.ctx n).reason = some y.lingerReason)

/-! ## The dispatcher and the router (chapters 6 and 7) -/

/-- JOB_SUBMIT fills the lowest free job record with the clamped values and its destinations PENDING, raises the document's
send hold and answers with the job's id and sequence number (R121, R122); here with no line that can take a destination. -/
def Sys2Proof.Claims.JobSubmitFillsARecord : Prop :=
  ∀ (s : State) (tag j : Nat) (a : JobSubmitArgs), s.inReset = false → a.document < 64 → a.desk < 16 → a.priority ≤ 3 →
    1 ≤ a.destinations.length → a.destinations.length ≤ 16 → (∀ t ∈ a.destinations, dialStringOk t = true) →
    (s.doc a.document).state ≠ .free → ((s.doc a.document).state = .opened ∨ (s.doc a.document).pages ≠ []) →
    s.freeJob = some j → s.openLine = none →
    let clamped := clampedField a.maxAttempts 1 9 + clampedField a.redial 10 3600
    ∃ t, exec (.jobSubmit tag (.fields a)) s = .next t ∧
      t.job j = some
        { tag := a.jobTag, seq := s.dsp.counter, document := a.document, desk := a.desk, priority := a.priority
          maxAttempts := clampNat a.maxAttempts 1 9, redial := clampNat a.redial 10 3600, submitTime := s.dsp.time
          state := .active, cancel := false, dests := a.destinations.map fun d => { dial := d } } ∧
      (∀ i, i ≠ j → t.job i = s.job i) ∧ t.dsp.order = s.dsp.order ++ [j] ∧ t.dsp.counter = wrap16 s.dsp.counter ∧
      t.dsp.time = s.dsp.time ∧
      t.doc a.document = { s.doc a.document with sendHold := (s.doc a.document).sendHold + 1 } ∧
      Answered s t (s.replyNow tag 17 (okCode clamped) clamped (.jobAccepted j s.dsp.counter)) ∧
      t.lines = s.lines ∧ t.chg = s.chg

/-- JOB_CANCEL of a job with a destination in a call: its waiting destinations become CANCELLED, those of a call stay, the
job is marked, and the reply counts both (R133). -/
def Sys2Proof.Claims.JobCancelEndsWaitingDestinations : Prop :=
  ∀ (s : State) (tag j : Nat) (r : Job), s.inReset = false → j < 32 → s.job j = some r → r.cancel = false →
    (∃ d ∈ r.dests, d.state = .inCall) →
    ∃ t u, exec (.jobCancel tag (.fields j)) s = .next t ∧ t.job j = some u ∧ u.cancel = true ∧
      u.dests.length = r.dests.length ∧
      (∀ (i : Nat) (x : Dest), r.dests[i]? = some x →
        u.dests[i]? = some (if x.state.waits then
          { x with state := .cancelled, due := none, timer := false, last := some .cancelled } else x)) ∧
      Answered s t (s.replyNow tag 18 .ok 0 (.jobCancelled (r.dests.countP (·.state.waits))
        (r.dests.countP (·.state == .inCall)))) ∧
      ∀ (i : Nat) (x : Dest) (n : LineNo) (c : Ctx), r.dests[i]? = some x → x.state = .inCall → x.line = some n →
        (s.line n).ctx = some c → (t.ctx n).closing = true

/-- JOB_CANCEL of a job with no destination in a call completes it (R133, R134): its record is freed, JOB_DONE is raised
with the final state CANCELLED and its waiting destinations CANCELLED, the send hold is lowered, no DEST_RESULT is raised,
and the reply counts the destinations cancelled. A job id above 31 is refused BAD_FIELD, a free record NOT_FOUND, and a job
already being cancelled is answered OK unchanged. -/
def Sys2Proof.Claims.JobCancelCompletesOrRefuses : Prop :=
  ∀ (s : State) (tag i : Nat), s.inReset = false →
    (∀ j : Job, i < 32 → s.job i = some j → j.cancel = false → (∀ d ∈ j.dests, d.state ≠ .inCall) → j.dests.length ≤ 16 →
        s.pmm.pendingScan = none → s.freedByHolds j.document →
      let cancelled (d : Dest) : Dest :=
        if d.state.waits then { d with state := .cancelled, due := none, timer := false, last := some .cancelled } else d
      ∃ t, exec (.jobCancel tag (.fields i)) s = .next t ∧ t.job i = none ∧ t.dsp.order = s.dsp.order.erase i ∧
        (∀ k, k ≠ i → t.job k = s.job k) ∧ t.doc j.document = (s.doc j.document).sendHoldLowered ∧
        t.flagged .jobDone = true ∧ t.flagged .destResult = s.flagged .destResult ∧
        (s.bli.enabled .jobDone = true → s.bli.notices.length < 32 →
          t.noticesOwed = s.noticesOwed ++
            [{ tag := 0, time := s.now
               body := .jobDone i j.tag j.seq j.document .cancelled
                 (j.dests.map fun d =>
                   ((cancelled d).state, d.attempts, d.calls, d.confirmed, (cancelled d).last)) }]) ∧
        Answered s t (s.replyNow tag 18 .ok 0 (.jobCancelled (j.dests.countP (·.state.waits)) 0))) ∧
    (32 ≤ i → ∃ t, exec (.jobCancel tag (.fields i)) s = .next t ∧ OnlyAnswered s t (s.replyNow tag 18 .badField)) ∧
    (i < 32 → s.job i = none →
      ∃ t, exec (.jobCancel tag (.fields i)) s = .next t ∧ OnlyAnswered s t (s.replyNow tag 18 .notFound)) ∧
    (∀ j : Job, i < 32 → s.job i = some j → j.cancel = true →
      ∃ t b, exec (.jobCancel tag (.fields i)) s = .next t ∧ OnlyAnswered s t (s.replyNow tag 18 .ok 0 b))

/-- How an outcome settles its destination, once the call's pages are added (R128 to R131): DONE where every page is
confirmed, else CANCELLED where the job is cancelled, whatever the outcome; else a counted failure raises attempts by one
and leaves WAIT_RETRY, due a redial interval later, or FAILED at max attempts; COMPLETED waits for funds, NO_DIAL_TONE
retries in 10 s with attempts as they were, NO_COMMON_CODE and the other declines fail, and a line fault returns the
destination to PENDING. -/
def Sys2Proof.Claims.DestinationsSettleByR128 : Prop :=
  ∀ (x : Dest) (j : Job) (total now : Nat) (o : CallOutcome),
    let z := { x with line := none, due := none, timer := false }
    (x.confirmed = total → x.settle j total now o = { z with state := .done, last := some .completed }) ∧
    (x.confirmed ≠ total → j.cancel = true →
      x.settle j total now o = { z with state := .cancelled, last := some .cancelled }) ∧
    (x.confirmed ≠ total → j.cancel = false →
      (∀ r l, o = .released r →
          (r, l) ∈ [(EndReason.busy, LastReason.busy), (.noAnswer, .noAnswer), (.trainFail, .trainFail),
            (.protocolTimeout, .protocolTimeout), (.carrierLost, .carrierLost),
            (.declined .noMemory, .declinedNoMemory), (.funds, .funds)] →
        let y := { z with attempts := x.attempts + 1, last := some l }
        (x.attempts + 1 < j.maxAttempts → x.settle j total now o =
          { y with state := .waitRetry, due := some (min (now + j.redial) 4294967295), timer := true }) ∧
        (j.maxAttempts ≤ x.attempts + 1 → x.settle j total now o = { y with state := .failed })) ∧
      (o = .released .completed → x.settle j total now o = { z with state := .waitFunds, last := some .fundsClosing }) ∧
      (o = .released .noDialTone → x.settle j total now o =
        { z with state := .waitRetry, due := some (min (now + 10) 4294967295), timer := true, last := some .noDialTone }) ∧
      (∀ r l, o = .released r →
          (r, l) ∈ [(EndReason.noCommonCode, LastReason.noCommonCode),
            (.declined .unsupported, .declinedUnsupported), (.declined .notReceiving, .declinedNotReceiving)] →
        x.settle j total now o = { z with state := .failed, last := some l }) ∧
      (o = .lineFault → x.settle j total now o = { z with state := .pending, last := some .lineFault }))

/-- The release of an outbound call hands its outcome to the dispatcher: the call's pages are added to the destination's,
the destination is settled and its DEST_RESULT raised, with the call id, the call's pages, the far tag, the step and the
recode replacements (a call that never negotiated: the model's choice, log entry 53); after the last of the job JOB_DONE is
raised, the send hold lowered and the record freed (R90, R117, R128, R131, R134). Here no evaluation follows at once: no line
can take a destination, or the retry falls due later. -/
def Sys2Proof.Claims.ReleasedCallsSettleDestinations : Prop :=
  ∀ (s : State) (n : LineNo) (x : Ctx) (c : Instr) (r : EndReason) (jd : Nat × Nat) (j : Job) (d : Dest),
    s.inReset = false → (s.line n).ctx = some x → s.releaseAsked n c = some r → x.job = some jd → s.job jd.1 = some j →
    j.dests[jd.2]? = some d → tget s.rtr.reception n.val none = none → (s.sess n).page = none →
    (∀ p, (s.sess n).reader = some p → s.current p = true → (s.page p.page).document.isSome = true) →
    (s.openLine = none ∨ 1 ≤ j.redial ∧ s.dsp.time < 4294967295) →
    let z := s.destAfter x j d (.released r)
    ((j.dests.set jd.2 z).all (·.state.terminal) = true → s.pmm.pendingScan = none ∧ s.freedByHolds j.document) →
    ∃ t, exec c s = .next t ∧
      OutcomeSettled s t jd j z
        { callId := x.callId, confirmed := x.confirmed, farTag := (s.sess n).farTag, step := x.sess.map (·.step)
          recoded := (s.sess n).recoded } [] ∧
      (t.line n).state = .releasing ∧ t.repliesOwed = s.repliesOwed

/-- A line fault at seize hands its outcome back too (R80, R128, R130): the line goes out of service with LINE_STATE, and
its destination is settled as by R128, DEST_RESULT by log entry 53, a pending one left for an evaluation, here one that no
line can take. -/
def Sys2Proof.Claims.LineFaultReturnsTheDestination : Prop :=
  ∀ (s : State) (n : LineNo) (x : Ctx) (jd : Nat × Nat) (j : Job) (d : Dest), s.inReset = false →
    (s.line n).state = .seized → (s.line n).loopTimer.isSome = true → (s.line n).ctx = some x → x.job = some jd →
    s.job jd.1 = some j → j.dests[jd.2]? = some d → s.openLine = none →
    let z := s.destAfter x j d .lineFault
    ((j.dests.set jd.2 z).all (·.state.terminal) = true → s.pmm.pendingScan = none ∧ s.freedByHolds j.document) →
    ∃ t, exec (.loopCheck n false) s = .next t ∧
      OutcomeSettled s t jd j z
        { callId := x.callId, confirmed := x.confirmed, farTag := (s.sess n).farTag, step := x.sess.map (·.step)
          recoded := (s.sess n).recoded }
        (if s.bli.enabled .lineState then
          [{ tag := 0, time := s.now, body := .lineState n .outOfService .loopFault }] else []) ∧
      (t.line n).state = .outOfService ∧ (t.line n).ctx = none ∧ t.repliesOwed = s.repliesOwed

/-- DESK_CREDIT returns the destinations that wait for its funds (R132): in every ACTIVE job of the desk credited, or of a
member of the pool credited, each WAIT_FUNDS destination whose funds check now passes becomes PENDING, and no other
destination changes; here with no line that can take one. That the last reason stands is the model's choice (log entry
49), and that the check takes the dial plan and tariffs as they stand its reading (log entry 12, DEDUCED). -/
def Sys2Proof.Claims.CreditReturnsDestinations : Prop :=
  ∀ (s : State) (tag k : Nat) (amount : Int), s.inReset = false → k < 16 → s.openLine = none →
    -(s.desk k).margin ≤ (s.desk k).balance + amount → (s.desk k).balance + amount ≤ 2147483647 →
    (∀ i ∈ s.dsp.order, ∀ r, s.job i = some r → r.state = .active ∧ r.dests.length ≤ 16) →
    let u := s.updDesk k fun d => { d with balance := d.balance + amount, credits := d.credits + amount }
    ∃ t, exec (.deskCredit tag (.fields { desk := k, amount := amount })) s = .next t ∧ t.chg = u.chg ∧
      t.dsp.order = s.dsp.order ∧
      (∀ i ∈ s.dsp.order, ∀ r, s.job i = some r → t.job i = some { r with
        dests := r.dests.map fun x =>
          if x.state = .waitFunds ∧ (r.desk = k ∨ (s.desk r.desk).poolOf = some k) ∧ u.fundsTest r.desk x.dial = true then
            { x with state := .pending } else x }) ∧
      (∀ i, i ∉ s.dsp.order → t.job i = s.job i) ∧ t.noticesOwed = s.noticesOwed ∧
      Answered s t (s.replyNow tag 25 .ok 0 (.balance ((s.desk k).balance + amount)))

/-- A document with a send hold closed empty fails its job (R124, R134): each waiting destination becomes FAILED with
NO_PAGES and its DEST_RESULT (their order: log entry 50), and the job, none of its destinations being in a call, is
completed. -/
def Sys2Proof.Claims.EmptyDocumentFailsItsJob : Prop :=
  ∀ (s : State) (tag d i : Nat) (j : Job), s.inReset = false → d < 64 → (s.doc d).state = .opened →
    (s.doc d).filler = .none → (s.doc d).pages = [] → (s.doc d).origin ≠ .received → 0 < (s.doc d).sendHold →
    s.pmm.pendingScan = none → s.prt.order = [] → s.dsp.order = [i] → s.job i = some j → j.document = d →
    j.dests.length ≤ 16 → (∃ x ∈ j.dests, x.state.waits = true) → (∀ x ∈ j.dests, x.state ≠ .inCall) →
    ∃ t, exec (.docClose tag (.fields d)) s = .next t ∧ t.job i = none ∧ t.dsp.order = [] ∧
      t.doc d = ({ s.doc d with state := .closed } : DocRec).sendHoldLowered ∧ t.flagged .destResult = true ∧
      t.flagged .jobDone = true ∧ Answered s t (s.replyNow tag 3 .ok) ∧
      (s.bli.enabled .destResult = true → s.bli.enabled .jobDone = true → s.bli.notices.length + 17 ≤ 32 →
        let failed (x : Dest) : Dest :=
          if x.state.waits then
            { x with state := .failed, due := none, timer := false, last := some .noPages } else x
        t.noticesOwed = s.noticesOwed ++
          ((List.range j.dests.length).filterMap fun k => (j.dests[k]?).bind fun x =>
            if x.state.waits then
              some { tag := 0, time := s.now
                     body := .destResult i j.tag k .failed x.attempts x.calls x.confirmed none (some .noPages) none }
            else none) ++
          [{ tag := 0, time := s.now
             body := .jobDone i j.tag j.seq d (if j.cancel then .cancelled else .done)
               (j.dests.map fun x =>
                 ((failed x).state, x.attempts, x.calls, x.confirmed, (failed x).last)) }])

/-- Time: a dispatcher tick raises dispatcher time by 1 s up to its upper value (R120); a clock tick raises the clock by
1 ds, over midnight and from day 6 to day 0, and every running elapsed count (R168, R175). That a clock tick raises the
elapsed counts, and makes no step boundary of itself, is the model's choice (log entry 10). -/
def Obligations.TimeTicks : Prop :=
  ∀ s : State, s.inReset = false →
    (∃ t, exec .dispatcherTimeTick s = .next t ∧
      NothingButChoice { s with dsp := { s.dsp with time := min (s.dsp.time + 1) 4294967295 } } t) ∧
    (∃ t, exec .clockTick s = .next t ∧
      t.chg.clock.now =
        (if s.now.time + 1 < 864000 then { day := s.now.day, time := s.now.time + 1 }
         else { day := if s.now.day < 6 then s.now.day + 1 else 0, time := 0 }) ∧
      NothingButChoice
        { s with chg := { s.chg with clock := { s.chg.clock with now := t.chg.clock.now } }, lines := t.lines } t ∧
      ∀ n : LineNo, t.line n = { s.line n with
        ctx := (s.line n).ctx.map fun x => { x with elapsed := x.elapsed + x.elapsedOn.toNat } })

/-- DUE_TIMER_EXPIRY of a destination whose due time has come leaves it in WAIT_RETRY, its timer stopped, for the
evaluation that follows, here one that no line can take; a timer that does not run, or a due time not reached, changes
nothing (R120; that the row waits for the due time is the model's choice, log entry 10). -/
def Sys2Proof.Claims.DueTimersExpire : Prop :=
  ∀ (s : State) (j : Fin 32) (i : Fin 16) (r : Job) (x : Dest), s.inReset = false → s.job j = some r →
    r.dests[i.val]? = some x →
    (x.timer = true → x.state = .waitRetry → x.due.getD 0 ≤ s.dsp.time → s.openLine = none →
      ∃ t, exec (.dueTimerExpiry j i) s = .next t ∧
        NothingButChoice (s.setJob j (some { r with dests := r.dests.set i.val { x with timer := false } })) t) ∧
    ((x.timer = false ∨ x.state ≠ .waitRetry ∨ s.dsp.time < x.due.getD 0) →
      ∃ t, exec (.dueTimerExpiry j i) s = .next t ∧ NothingButChoice s t)

/-- The classification of a dial string for a desk (R172, R173). With the key the string without its P and W: no rule whose
prefix begins the key, NO_ROUTE; else, by the longest such rule, BLOCKED is BARRED, an empty tariff or a failed
transformation NO_ROUTE, a class that the desk or its pool may not dial BARRED, a desk's balance below E = setup_cp +
step_cp × max(1, min_steps), or its pool's below the share of E, NO_FUNDS, and the rest a pass with the class, the tariff,
the transformed string and the pool. -/
def Sys2Proof.Claims.ClassificationFollowsR172 : Prop :=
  ∀ (s : State) (desk : Nat) (t : Text),
    let key := t.filter isKeyChar
    let k := s.desk desk
    ((∀ r ∈ s.chg.plan, ¬ r.digits <+: key) → s.classify desk t = .noRoute) ∧
    (∀ r ∈ s.chg.plan, r.digits <+: key →
        (∀ q ∈ s.chg.plan, q ≠ r → q.digits <+: key → q.digits.length < r.digits.length) →
      (r.cls = .blocked → s.classify desk t = .barred) ∧
      (r.cls ≠ .blocked → (tget s.chg.tariffs r.tariff none = none ∨ transformDial r t = none) →
        s.classify desk t = .noRoute) ∧
      (∀ tf out, r.cls ≠ .blocked → tget s.chg.tariffs r.tariff none = some tf → transformDial r t = some out →
        let allowed : Prop := k.classes.permits r.cls = true ∧
          ∀ p, k.kind = .member → k.pool = some p → (s.desk p).classes.permits r.cls = true
        let e : Int := tf.setupCp + tf.stepCp * max 1 tf.minSteps
        let funded : Prop := e ≤ k.balance ∧
          ∀ p, k.kind = .member → k.pool = some p → (e * k.weight + 2048) / 4096 ≤ (s.desk p).balance
        (¬ allowed → s.classify desk t = .barred) ∧
        (allowed → ¬ funded → s.classify desk t = .noFunds) ∧
        (allowed → funded → s.classify desk t = .pass
          { cls := r.cls, tariffId := r.tariff, tariff := tf, dial := out
            pool := if k.kind = .member then k.pool else none })))

/-- The transformation of a dial string (R172): the first strip key characters go, with every P and W before the last of
them, and the prepend digits come in front; it fails where the key is shorter than strip, where nothing but P and W is left,
and above 24 characters. -/
def Sys2Proof.Claims.TransformationFollowsR172 : Prop :=
  (∀ (r : DialRule) (t : Text), (t.filter isKeyChar).length < r.strip → transformDial r t = none) ∧
  (∀ (r : DialRule) (a b : Text), (a.filter isKeyChar).length = r.strip →
    (a = [] ∨ ∃ u c, a = u ++ [c] ∧ isKeyChar c = true) →
    transformDial r (a ++ b) =
      if (∃ c ∈ r.prepend ++ b, isKeyChar c = true) ∧ (r.prepend ++ b).length ≤ 24 then some (r.prepend ++ b) else none) ∧
  (∀ c : Byte, isDialChar c = true → isKeyChar c = (c != 0x50 && c != 0x57))

/-- A ready destination is dispatched at DUE_TIMER_EXPIRY: with its number classified, its class permitted and the funds
there, it is bound to the lowest-numbered line that can take it, which is SEIZED with the hook closed, the loop check and
the dial-tone wait timed and a charge record place reserved (R83, R120, R125, R126). The destination's last reason stays
the one it was: the model's choice (log entry 49). -/
def Sys2Proof.Claims.DueDestinationIsDispatched : Prop :=
  ∀ (s : State) (j : Fin 32) (r : Job) (x : Dest) (p : Pass) (n : LineNo), s.inReset = false →
    s.dsp.order = [j.val] → s.job j = some r → r.state = .active → r.dests = [x] → x.timer = true → x.state = .waitRetry →
    x.due.getD 0 ≤ s.dsp.time → (s.doc r.document).state = .closed → (s.doc r.document).pages ≠ [] →
    s.openLine = some n → s.chg.reservations + s.chg.queue.length < 64 → s.classify r.desk x.dial = .pass p →
    ∃ t, exec (.dueTimerExpiry j 0) s = .next t ∧ (t.line n).state = .seized ∧ (t.line n).hookClosed = true ∧
      (t.line n).loopTimer = some 300 ∧ (t.line n).dialToneWait = some (s.line n).config.dialToneWait ∧
      (t.ctx n).callId = s.callCounter ∧ (t.ctx n).dial = p.dial ∧ (t.ctx n).tariff = some p.tariff ∧
      (t.ctx n).desk = some r.desk ∧ (t.ctx n).pool = p.pool ∧ (t.ctx n).job = some (j.val, 0) ∧
      (t.ctx n).start = s.now ∧ t.chg.reservations = s.chg.reservations + 1 ∧
      t.dest j 0 = some { x with
        state := .inCall, line := some n, due := none, timer := false, calls := min (x.calls + 1) 65535 } ∧
      ∀ m, m ≠ n → t.line m = s.line m

/-! ## Tables and configurations -/

/-- The loads of the station, the coder, the band table, the clock and the tariffs replace what they name, tuning values
clamped and counted, and change nothing else (R53, R75, R168, R169, R171). -/
def Sys2Proof.Claims.TablesAreReplaced : Prop :=
  ∀ (s : State) (tag : Nat), s.inReset = false →
    (∀ a : StationConfigArgs, a.tag.length ≤ 20 → a.tag.all isPrintable = true →
      let k := clampedField a.keepRatio 0 63 + clampedField a.maxConsec 0 255 + clampedField a.k 1 8
      ∃ t, exec (.stationConfig tag (.fields a)) s = .next t ∧
        OnlyAnswered
          { s with
            station :=
              { tag := a.tag, keepRatio := min a.keepRatio 63, maxConsec := min a.maxConsec 255, k := clampNat a.k 1 8 } } t
          (s.replyNow tag 16 (okCode k) k)) ∧
    (∀ a : CoderConfigArgs, a.slot ≤ 1 → a.coding ≤ 1 →
      ∃ t, exec (.coderConfig tag (.fields a)) s = .next t ∧
        OnlyAnswered
          { s with lcd := { s.lcd with config := { slot := a.slot, diff := a.coding == 1, k := clampNat a.k 1 8 } } } t
          (s.replyNow tag 13 (okCode (clampedField a.k 1 8)) (clampedField a.k 1 8))) ∧
    (∀ bs : List Nat, bs.length = 168 → (∀ b ∈ bs, b ≤ 3) →
      ∃ t, exec (.loadBands tag (.fields bs)) s = .next t ∧
        OnlyAnswered { s with chg := { s.chg with bands := bs } } t (s.replyNow tag 29 .ok)) ∧
    (∀ day time : Nat, day ≤ 6 → time < 864000 →
      ∃ t, exec (.setClock tag (.fields { day := day, time := time })) s = .next t ∧
        OnlyAnswered
          { s with chg := { s.chg with clock := { now := { day := day, time := time }, set := true } } } t
          (s.replyNow tag 30 .ok)) ∧
    (∀ a : LoadTariffsArgs, a.count ≤ 16 → a.entries.length = a.count → (∀ e ∈ a.entries, e.id < 16) →
        (a.entries.map (·.id)).Nodup →
      let k := (a.entries.map tariffClamped).sum
      ∃ t, exec (.loadTariffs tag (.fields a)) s = .next t ∧
        (∀ e ∈ a.entries, tget t.chg.tariffs e.id none = some (tariffOf e)) ∧
        (∀ i, i ∉ a.entries.map (·.id) → tget t.chg.tariffs i none = none) ∧
        OnlyAnswered { s with chg := { s.chg with tariffs := t.chg.tariffs } } t (s.replyNow tag 28 (okCode k) k))

/-- The values of a tariff a load makes, each clamped to its range (R171), and the number of them clamped. -/
def Sys2Proof.Claims.TariffsFollowR171 : Prop :=
  ∀ e : TariffArgs,
    tariffOf e =
      { setupCp := min e.setupCp 65535, stepCp := max 1 (min e.stepCp 65535)
        stepDs := [max 10 (min e.stepDs0 36000), max 10 (min e.stepDs1 36000), max 10 (min e.stepDs2 36000),
                   max 10 (min e.stepDs3 36000)]
        minSteps := min e.minSteps 15 } ∧
    tariffClamped e =
      [(e.setupCp, 0, 65535), (e.stepCp, 1, 65535), (e.stepDs0, 10, 36000), (e.stepDs1, 10, 36000),
       (e.stepDs2, 10, 36000), (e.stepDs3, 10, 36000), (e.minSteps, 0, 15)].countP
        fun (v : Nat × Nat × Nat) => decide (v.1 < v.2.1 ∨ v.2.2 < v.1)

/-- The refusals of those loads, each of which changes nothing: a station tag of more than 20 characters or with one that
is not printable, a code slot above 1 or a coding that is none, a band table of other than 168 bands or with a band above
3, a day above 6 or a time of day above 863999, a tariff count above 16, one that disagrees with the body, or a tariff id
above 15 are refused BAD_FIELD, and a tariff id named twice TABLE_INVALID (R53, R75, R168, R169, R171; BAD_FIELD before
TABLE_INVALID: log entry 26). -/
def Sys2Proof.Claims.FaultyLoadsAreRefused : Prop :=
  ∀ (s : State) (tag : Nat), s.inReset = false →
    (∀ a : StationConfigArgs, (20 < a.tag.length ∨ ∃ c ∈ a.tag, c.toNat < 0x20 ∨ 0x7E < c.toNat) →
      ∃ t, exec (.stationConfig tag (.fields a)) s = .next t ∧ OnlyAnswered s t (s.replyNow tag 16 .badField)) ∧
    (∀ a : CoderConfigArgs, (2 ≤ a.slot ∨ 2 ≤ a.coding) →
      ∃ t, exec (.coderConfig tag (.fields a)) s = .next t ∧ OnlyAnswered s t (s.replyNow tag 13 .badField)) ∧
    (∀ bs : List Nat, (bs.length ≠ 168 ∨ ∃ b ∈ bs, 3 < b) →
      ∃ t, exec (.loadBands tag (.fields bs)) s = .next t ∧ OnlyAnswered s t (s.replyNow tag 29 .badField)) ∧
    (∀ day time : Nat, (6 < day ∨ 863999 < time) →
      ∃ t, exec (.setClock tag (.fields { day := day, time := time })) s = .next t ∧
        OnlyAnswered s t (s.replyNow tag 30 .badField)) ∧
    (∀ a : LoadTariffsArgs, (16 < a.count ∨ a.entries.length ≠ a.count ∨ ∃ e ∈ a.entries, 16 ≤ e.id) →
      ∃ t, exec (.loadTariffs tag (.fields a)) s = .next t ∧ OnlyAnswered s t (s.replyNow tag 28 .badField)) ∧
    (∀ a : LoadTariffsArgs, a.count ≤ 16 → a.entries.length = a.count → (∀ e ∈ a.entries, e.id < 16) →
        ¬ (a.entries.map (·.id)).Nodup →
      ∃ t, exec (.loadTariffs tag (.fields a)) s = .next t ∧ OnlyAnswered s t (s.replyNow tag 28 .tableInvalid))

/-- When a rule of a dial plan (R170) or of a routing table (R138) is in range. -/
def Sys2Proof.Claims.RuleRangesFollowR138AndR170 : Prop :=
  (∀ r : DialRuleArgs, dialRuleOk r = true ↔
    1 ≤ r.digits.length ∧ r.digits.length ≤ 8 ∧ (∀ c ∈ r.digits, 0x30 ≤ c.toNat ∧ c.toNat ≤ 0x39) ∧ r.cls ≤ 4 ∧
    r.tariff ≤ 15 ∧ r.strip ≤ 8 ∧ r.prepend.length ≤ 4 ∧ ∀ c ∈ r.prepend, 0x30 ≤ c.toNat ∧ c.toNat ≤ 0x39) ∧
  (∀ r : RouteRule, routeRuleOk r = true ↔
    r.tagPrefix.length ≤ 20 ∧ (∀ c ∈ r.tagPrefix, 0x20 ≤ c.toNat ∧ c.toNat ≤ 0x7E) ∧ 1 ≤ r.mask ∧ r.mask ≤ 15 ∧
    r.desk ≤ 15 ∧ r.priority ≤ 3)

/-- LOAD_DIAL_PLAN and LOAD_ROUTES replace their whole tables, or change nothing: a field out of range is refused
BAD_FIELD with the first faulty rule, a count above its limit or other than the rules of the body BAD_FIELD, and a dial
plan with a prefix twice TABLE_INVALID with the later of the two (R138, R170). The model's choices: a mask bit which names
no line is out of range (log entry 28), the rule of a dial plan that a refusal names is counted from 0 (log entry 20), BAD_FIELD
is judged before TABLE_INVALID (log entry 26), and of several prefixes that come twice TABLE_INVALID names the rule that first
repeats one (log entry 54). -/
def Sys2Proof.Claims.RuleTablesAreReplacedWhole : Prop :=
  ∀ (s : State) (tag : Nat), s.inReset = false →
    (∀ a : LoadDialPlanArgs, a.count ≤ 128 → a.rules.length = a.count →
      ((∀ r ∈ a.rules, dialRuleOk r = true) → (a.rules.map (·.digits)).Nodup →
        ∃ t, exec (.loadDialPlan tag (.fields a)) s = .next t ∧
          OnlyAnswered { s with chg := { s.chg with plan := a.rules.map dialRuleOf } } t
            (s.replyNow tag 27 .ok 0 (.ruleCount a.count))) ∧
      (∀ (i : Nat) (r : DialRuleArgs), (∀ q ∈ a.rules, dialRuleOk q = true) → a.rules[i]? = some r →
          (∃ j q, j < i ∧ a.rules[j]? = some q ∧ q.digits = r.digits) →
          ((a.rules.take i).map (·.digits)).Nodup →
        ∃ t, exec (.loadDialPlan tag (.fields a)) s = .next t ∧
          OnlyAnswered s t (s.replyNow tag 27 .tableInvalid 0 (.faultAt i))) ∧
      (∀ (i : Nat) (r : DialRuleArgs), a.rules[i]? = some r → dialRuleOk r = false →
          (∀ j q, j < i → a.rules[j]? = some q → dialRuleOk q = true) →
        ∃ t, exec (.loadDialPlan tag (.fields a)) s = .next t ∧
          OnlyAnswered s t (s.replyNow tag 27 .badField 0 (.faultAt i))) ∧
      ((∀ r ∈ a.rules, dialRuleOk r = true) → ¬ (a.rules.map (·.digits)).Nodup →
        ∃ t b, exec (.loadDialPlan tag (.fields a)) s = .next t ∧
          OnlyAnswered s t (s.replyNow tag 27 .tableInvalid 0 b))) ∧
    (∀ a : LoadRoutesArgs, a.count ≤ 32 → a.rules.length = a.count → (∀ r ∈ a.rules, routeRuleOk r = true) →
      let k := (a.rules.map fun (r : RouteRule) => clampedField r.copies 0 3).sum
      ∃ t, exec (.loadRoutes tag (.fields a)) s = .next t ∧
        OnlyAnswered
          { s with rtr := { s.rtr with table := a.rules.map fun (r : RouteRule) => { r with copies := min r.copies 3 } } } t
          (s.replyNow tag 20 (okCode k) k (.ruleCount a.count))) ∧
    (∀ (a : LoadRoutesArgs) (i : Nat) (r : RouteRule), a.count ≤ 32 → a.rules.length = a.count → a.rules[i]? = some r →
        routeRuleOk r = false → (∀ j q, j < i → a.rules[j]? = some q → routeRuleOk q = true) →
      ∃ t, exec (.loadRoutes tag (.fields a)) s = .next t ∧
        OnlyAnswered s t (s.replyNow tag 20 .badField 0 (.faultAt i))) ∧
    (∀ a : LoadRoutesArgs, (32 < a.count ∨ a.rules.length ≠ a.count) →
      ∃ t b, exec (.loadRoutes tag (.fields a)) s = .next t ∧ OnlyAnswered s t (s.replyNow tag 20 .badField 0 b)) ∧
    (∀ a : LoadDialPlanArgs, (128 < a.count ∨ a.rules.length ≠ a.count) →
      ∃ t b, exec (.loadDialPlan tag (.fields a)) s = .next t ∧ OnlyAnswered s t (s.replyNow tag 27 .badField 0 b))

/-! ## The print unit (chapter 8) -/

/-- PRINT_CONFIG: a width outside 512..2048 or no multiple of 32 is refused BAD_FIELD and leaves the width; an accepted one
is the width of the next page started, while the page being printed keeps the width it captured; 1728 after a hard reset,
kept by a soft one (R162). -/
def Obligations.PrintConfigSetsTheNextPagesWidth : Prop :=
  (∀ (s : State) (tag w : Nat), s.inReset = false →
    ((w < 512 ∨ 2048 < w ∨ w % 32 ≠ 0) →
      ∃ t, exec (.printConfig tag (.fields w)) s = .next t ∧ OnlyAnswered s t (s.replyNow tag 23 .badField)) ∧
    (512 ≤ w → w ≤ 2048 → w % 32 = 0 →
      ∃ t, exec (.printConfig tag (.fields w)) s = .next t ∧
        OnlyAnswered { s with prt := { s.prt with headWidth := w } } t (s.replyNow tag 23 .ok))) ∧
  (∀ (s : State) (e : Nat) (pp : PrintPage), (s.startPage e).prt.page = some pp → s.prt.page = none →
    pp.headWidth = s.prt.headWidth) ∧
  (∀ (s : State) (cause : HardCause), ∃ t, exec (.hardReset cause) s = .next t ∧ t.prt.headWidth = 1728) ∧
  (∀ (s : State) (tag : Nat), s.inReset = false → ∃ t, exec (.softReset tag (.fields ())) s = .next t ∧
    t.prt.headWidth = s.prt.headWidth)

/-- PRINT_DOC of an OPEN document whose first page is not final queues a BLOCKED board entry, the print hold raised;
PRINT_CANCEL of one not being printed removes it and lowers the hold (R150,
R151, R161). -/
def Sys2Proof.Claims.PrintEntriesAreMadeAndCancelled : Prop :=
  (∀ (s : State) (tag d n pr e : Nat), s.inReset = false → d < 64 → pr ≤ 3 → (s.doc d).state = .opened →
    s.finalPage d 1 = false → s.freeEntry = some e →
    ∃ t, exec (.printDoc tag (.fields { document := d, copies := n, priority := pr })) s = .next t ∧
      t.entry e = some
        { seq := s.prt.counter, source := .board, document := d, priority := pr, copies := clampNat n 1 9
          remaining := clampNat n 1 9, state := .blocked, finalCount := none } ∧
      t.prt.order = s.prt.order ++ [e] ∧ t.prt.counter = wrap16 s.prt.counter ∧
      t.doc d = { s.doc d with printHold := (s.doc d).printHold + 1 } ∧ (∀ f, f ≠ e → t.entry f = s.entry f) ∧
      Answered s t (s.replyNow tag 21 (okCode (clampedField n 1 9)) (clampedField n 1 9) (.entry e s.prt.counter))) ∧
  (∀ (s : State) (tag e : Nat) (r : Entry), s.inReset = false → e < 32 → s.entry e = some r → s.prt.current ≠ some e →
    (s.doc r.document).state = .opened → r.document < 64 →
    ∃ t, exec (.printCancel tag (.fields e)) s = .next t ∧ t.entry e = none ∧ t.prt.order = s.prt.order.erase e ∧
      t.doc r.document = { s.doc r.document with printHold := (s.doc r.document).printHold - 1 } ∧
      Answered s t (s.replyNow tag 22 .ok 0 (.printCancelled r.printed (r.copies - r.remaining))) ∧
      ∀ f, f ≠ e → t.entry f = s.entry f)

/-- PRINT_LINE_DECODED puts the next output line into its empty slot and waits at a full one; the last gives the reader
back and adds the page's replaced lines. LINE_TAKEN takes the line offered while engine ready is active, the last one
asking for the cut, and is ignored with none offered (R157, R158, R160). -/
def Sys2Proof.Claims.PrintLinesPassTheSlots : Prop :=
  ∀ (s : State) (e : Nat) (pp : PrintPage), s.inReset = false → s.prt.engine = .printing → s.prt.phase = .lines →
    s.prt.current = some e → s.prt.page = some pp →
    (pp.decoded + 1 < pp.total → pp.slot pp.decoded = none →
      ∃ t, exec .printLineDecoded s = .next t ∧
        NothingButChoice
          { s with prt := { s.prt with
              page := some
                { pp.setSlot pp.decoded (some (s.outputLine pp pp.decoded)) with decoded := pp.decoded + 1 } } } t) ∧
    (∀ r : Entry, pp.decoded + 1 = pp.total → pp.slot pp.decoded = none → s.entry e = some r → e < 32 →
        s.current pp.ref = true → pp.ref.page < 256 → (s.page pp.ref.page).document.isSome = true →
        0 < (s.page pp.ref.page).prints →
      ∃ t, exec .printLineDecoded s = .next t ∧
        t.prt.page = some
          { pp.setSlot pp.decoded (some (s.outputLine pp pp.decoded)) with decoded := pp.decoded + 1, reader := false } ∧
        t.page pp.ref.page = { s.page pp.ref.page with prints := (s.page pp.ref.page).prints - 1 } ∧
        t.entry e = some { r with replaced := min (r.replaced + replacedCount (s.printLines pp)) 65535 } ∧
        t.prt.engine = .printing ∧ t.prt.phase = .lines ∧ t.repliesOwed = s.repliesOwed) ∧
    (pp.slot pp.decoded ≠ none →
      ∃ t, exec .printLineDecoded s = .next t ∧ NothingButChoice s t) ∧
    (∀ l, s.prt.ready = true → pp.slot pp.taken = some l →
      ∃ t, exec .lineTaken s = .next t ∧
        NothingButChoice
          { s with prt := { s.prt with
              page := some { pp.setSlot pp.taken none with taken := pp.taken + 1 }
              phase := if pp.taken + 1 = pp.total then .cut else .lines
              cutRequest := s.prt.cutRequest || decide (pp.taken + 1 = pp.total) } } t) ∧
    ((s.prt.ready = false ∨ pp.slot pp.taken = none) →
      ∃ t, exec .lineTaken s = .next t ∧ NothingButChoice s t) ∧
    (∀ v, ∃ t, exec (.engineReady v) s = .next t ∧ NothingButChoice { s with prt := { s.prt with ready := v } } t)

/-- The arbiter takes a WAITING entry of the lowest priority number, the earliest in the queue order, whenever there is one
(R155). -/
def Sys2Proof.Claims.ArbiterTakesTheMostUrgent : Prop :=
  ∀ s : State,
    (∀ e r, (e, r) ∈ s.waitingEntries ↔ e ∈ s.prt.order ∧ s.entry e = some r ∧ r.state = .waiting) ∧
    (s.arbiterPick = none ↔ s.waitingEntries = []) ∧
    (∀ e, s.arbiterPick = some e → ∃ r before after, s.waitingEntries = before ++ (e, r) :: after ∧
      (∀ q ∈ before, r.priority < q.2.priority) ∧ ∀ q ∈ after, r.priority ≤ q.2.priority)

/-- Paper that returns to a held engine starts the entry the arbiter takes: PRINTING, its next page's print reader
acquired, the head width captured, N the page's lines or, for STD, twice them, and no WAITING entry more urgent (R154 to
R156). -/
def Sys2Proof.Claims.ChoiceStartsAPage : Prop :=
  ∀ (s : State) (e p : Nat) (r : Entry), s.inReset = false → s.prt.engine = .held → s.arbiterPick = some e →
    s.entry e = some r → e < 32 → s.docPage r.document r.next = some p → p < 256 →
    (s.page p).state.readable = true → (s.page p).document.isSome = true → (s.page p).prints = 0 →
    0 < (s.page p).lineCount →
    ∃ t, exec (.paperPresentChange true) s = .next t ∧ t.prt.engine = .printing ∧ t.prt.phase = .lines ∧
      t.prt.current = some e ∧ t.entry e = some { r with state := .printing } ∧
      t.prt.page = some
        { document := r.document, index := r.next, ref := { page := p, gen := s.pmm.generation }
          headWidth := s.prt.headWidth
          total := match (s.page p).density with | .fine => (s.page p).lineCount | .std => 2 * (s.page p).lineCount } ∧
      t.page p = { s.page p with prints := 1 } ∧ (∀ w ∈ t.waitingEntries, r.priority ≤ w.2.priority) ∧
      t.repliesOwed = s.repliesOwed ∧ t.noticesOwed = s.noticesOwed

/-- Paper out takes an idle engine to HELD and abandons the page being fed, its entry WAITING again, with PAPER raised;
paper in takes a held engine to IDLE, here with no entry waiting (R154, R160). A page decoded whole takes its replaced
lines out of the entry's total again (the model's reading, log entry 42); one with its reader held gives it back. -/
def Sys2Proof.Claims.PaperHoldsTheEngine : Prop :=
  (∀ s : State, s.inReset = false → s.prt.engine = .idle →
    ∃ t, exec (.paperPresentChange false) s = .next t ∧ t.prt = { s.prt with paper := false, engine := .held } ∧
      t.flagged .paper = true ∧ t.repliesOwed = s.repliesOwed ∧ t.pmm.pages = s.pmm.pages) ∧
  (∀ s : State, s.inReset = false → s.prt.engine = .held → s.waitingEntries = [] →
    ∃ t, exec (.paperPresentChange true) s = .next t ∧
      NothingButChoice { s with prt := { s.prt with paper := true, engine := .idle } } t) ∧
  (∀ (s : State) (e : Nat) (r : Entry) (pp : PrintPage), s.inReset = false → s.prt.engine = .printing →
    s.prt.phase = .lines → s.prt.current = some e → s.prt.page = some pp → s.entry e = some r → e < 32 →
    pp.reader = false →
    ∃ t, exec (.paperPresentChange false) s = .next t ∧ t.prt.engine = .held ∧ t.prt.page = none ∧
      t.prt.current = none ∧
      t.entry e = some { r with
        state := .waiting
        replaced := if r.replaced < 65535 then r.replaced - replacedCount (s.printLines pp) else r.replaced } ∧
      t.flagged .paper = true ∧ t.repliesOwed = s.repliesOwed) ∧
  (∀ (s : State) (e : Nat) (r : Entry) (pp : PrintPage), s.inReset = false → s.prt.engine = .printing →
    s.prt.phase = .lines → s.prt.current = some e → s.prt.page = some pp → s.entry e = some r → e < 32 →
    pp.reader = true → s.current pp.ref = true → pp.ref.page < 256 → (s.page pp.ref.page).document.isSome = true →
    0 < (s.page pp.ref.page).prints →
    ∃ t, exec (.paperPresentChange false) s = .next t ∧ t.prt.engine = .held ∧ t.prt.page = none ∧
      t.prt.current = none ∧ t.prt.cutRequest = s.prt.cutRequest ∧ t.entry e = some { r with state := .waiting } ∧
      t.page pp.ref.page = { s.page pp.ref.page with prints := (s.page pp.ref.page).prints - 1 } ∧
      t.flagged .paper = true ∧ t.repliesOwed = s.repliesOwed)

/-- CUT_DONE counts the page printed and moves the entry to its next page or the next copy's page 1 (`Entry.pastPage`).
Where that page is not final the entry is BLOCKED and the engine IDLE, here with no other entry waiting; with paper absent
the engine is HELD with a PAPER notice naming no page, and the entry WAITING where its page is final; a cut without an
entry only rests the engine (R152, R159, R161), without a notice (log entry 37). The phase while no page is printed is the
model's choice (log entry 41). -/
def Sys2Proof.Claims.CutEndsThePage : Prop :=
  (∀ (s : State) (e : Nat) (r q : Entry), s.inReset = false → s.prt.engine = .printing → s.prt.phase = .cut →
    s.prt.current = some e → s.entry e = some r → e < 32 → r.pastPage = some q →
    (s.finalPage q.document q.next = false → r.state = .printing → s.waitingEntries = [] → s.prt.paper = true →
      ∃ t, exec .cutDone s = .next t ∧ t.prt.cutRequest = false ∧ t.prt.engine = .idle ∧ t.prt.phase = .lines ∧
        t.prt.page = none ∧ t.prt.current = none ∧ t.prt.order = s.prt.order ∧
        t.entry e = some { q with state := .blocked } ∧ t.repliesOwed = s.repliesOwed ∧ t.noticesOwed = s.noticesOwed) ∧
    (s.prt.paper = false →
      ∃ t, exec .cutDone s = .next t ∧ t.prt.cutRequest = false ∧ t.prt.engine = .held ∧ t.prt.phase = .lines ∧
        t.prt.page = none ∧ t.prt.current = none ∧ t.prt.order = s.prt.order ∧
        t.entry e = some { q with state := if s.finalPage q.document q.next then .waiting else .blocked } ∧
        (∀ f, f ≠ e → t.entry f = s.entry f) ∧ t.flagged .paper = true ∧
        (s.bli.enabled .paper = true → s.bli.notices.length < 32 →
          t.noticesOwed = s.noticesOwed ++ [{ tag := 0, time := s.now, body := .paper .held none }]) ∧
        t.repliesOwed = s.repliesOwed)) ∧
  (∀ s : State, s.inReset = false → s.prt.engine = .printing → s.prt.phase = .cut → s.prt.current = none →
    (s.prt.paper = true → s.waitingEntries = []) →
    ∃ t, exec .cutDone s = .next t ∧
      NothingButChoice
        { s with prt := { s.prt with
            cutRequest := false, engine := if s.prt.paper then .idle else .held, phase := .lines, page := none } } t)

/-- CUT_DONE with the entry's next page final and paper present, of its copy or of the next: with no WAITING entry more
urgent the entry goes on there; with one, it yields, WAITING in its place of the queue, and the arbiter's entry is started
(R152, R155, R159). -/
def Sys2Proof.Claims.CutGoesOnOrYields : Prop :=
  ∀ (s : State) (e f p : Nat) (r v q : Entry), s.inReset = false → s.prt.engine = .printing → s.prt.phase = .cut →
    s.prt.current = some e → s.entry e = some r → e < 32 → r.state = .printing → r.pastPage = some v →
    s.finalPage v.document v.next = true → s.prt.paper = true →
    (f = e ∧ q = v ∧ (∀ w ∈ s.waitingEntries, r.priority ≤ w.2.priority) ∨
      s.arbiterPick = some f ∧ s.entry f = some q ∧ f < 32 ∧ q.priority < r.priority) →
    s.docPage q.document q.next = some p → p < 256 → (s.page p).state.readable = true →
    (s.page p).document.isSome = true → (s.page p).prints = 0 → 0 < (s.page p).lineCount →
    ∃ t, exec .cutDone s = .next t ∧ t.prt.cutRequest = false ∧ t.prt.engine = .printing ∧ t.prt.phase = .lines ∧
      t.prt.current = some f ∧ t.entry f = some { q with state := .printing } ∧
      (f ≠ e → t.entry e = some { v with state := .waiting }) ∧ t.prt.order = s.prt.order ∧
      t.prt.page = some
        { document := q.document, index := q.next, ref := { page := p, gen := s.pmm.generation }
          headWidth := s.prt.headWidth
          total := match (s.page p).density with | .fine => (s.page p).lineCount | .std => 2 * (s.page p).lineCount } ∧
      t.page p = { s.page p with prints := 1 } ∧ (∀ w ∈ t.waitingEntries, q.priority ≤ w.2.priority) ∧
      t.repliesOwed = s.repliesOwed

/-- CUT_DONE after the last page of the last copy finishes the entry (R152, R159): the print hold is lowered, PRINT_DONE
carries the pages printed and the lines replaced, the record and its place in the queue order go, and the engine is IDLE,
here with no entry waiting, or HELD with PAPER where paper is absent. The phase while no page is printed is the model's
choice (log entry 41). -/
def Sys2Proof.Claims.FinishedEntryIsRemoved : Prop :=
  ∀ (s : State) (e : Nat) (r : Entry), s.inReset = false → s.prt.engine = .printing → s.prt.phase = .cut →
    s.prt.current = some e → s.entry e = some r → e < 32 → r.pastPage = none → r.state = .printing →
    s.freedByHolds r.document → s.pmm.pendingScan = none → (s.prt.paper = true → s.waitingEntries = []) →
    ∃ t, exec .cutDone s = .next t ∧ t.prt.cutRequest = false ∧
      t.prt.engine = (if s.prt.paper then .idle else .held) ∧ t.prt.phase = .lines ∧ t.prt.page = none ∧
      t.prt.current = none ∧ t.entry e = none ∧ t.prt.order = s.prt.order.erase e ∧
      (∀ f, f ≠ e → t.entry f = s.entry f) ∧ t.doc r.document = (s.doc r.document).printHoldLowered ∧
      t.flagged .printDone = true ∧
      (s.bli.enabled .printDone = true → s.bli.enabled .paper = true → s.bli.notices.length + 2 ≤ 32 →
        t.noticesOwed = s.noticesOwed ++
          { tag := 0, time := s.now
            body := .printDone e r.seq r.source r.document r.copies (min (r.printed + 1) 65535) r.replaced } ::
          (if s.prt.paper then [] else [{ tag := 0, time := s.now, body := .paper .held none }])) ∧
      t.repliesOwed = s.repliesOwed

/-- The close report gives the entry of a document its page count (R152, R153), here by DOC_CLOSE of a document with one
entry, the only one queued: an entry not BLOCKED, or one whose next page still comes, takes the count and nothing else; a
BLOCKED one past it begins its next copy at page 1, WAITING (here with the engine not IDLE), or, with no copy left or no
page, is finished: removed, the print hold lowered, PRINT_DONE raised. -/
def Sys2Proof.Claims.CloseReportEndsCopies : Prop :=
  ∀ (s : State) (tag d e : Nat) (r : Entry), s.inReset = false → d < 64 → e < 32 → (s.doc d).state = .opened →
    (s.doc d).filler = .none → 0 < (s.doc d).printHold → s.dsp.order = [] → s.prt.order = [e] → s.entry e = some r →
    r.document = d → r.finalCount = none → s.freedByHolds d →
    let n := (s.doc d).pages.length
    ((r.state ≠ .blocked ∨ r.next ≤ n) →
      ∃ t, exec (.docClose tag (.fields d)) s = .next t ∧
        OnlyAnswered
          ((s.setDoc d { s.doc d with state := .closed }).setEntry e (some { r with finalCount := some n })) t
          (s.replyNow tag 3 .ok)) ∧
    (r.state = .blocked → n < r.next → 1 < r.remaining → n ≠ 0 → s.prt.engine ≠ .idle →
      ∃ t, exec (.docClose tag (.fields d)) s = .next t ∧
        OnlyAnswered
          ((s.setDoc d { s.doc d with state := .closed }).setEntry e
            (some { r with finalCount := some n, remaining := r.remaining - 1, next := 1, state := .waiting })) t
          (s.replyNow tag 3 .ok)) ∧
    (r.state = .blocked → n < r.next → (r.remaining ≤ 1 ∨ n = 0) → s.pmm.pendingScan = none →
      ∃ t, exec (.docClose tag (.fields d)) s = .next t ∧ t.entry e = none ∧ t.prt.order = [] ∧
        t.doc d = ({ s.doc d with state := .closed } : DocRec).printHoldLowered ∧ t.flagged .printDone = true ∧
        (s.bli.enabled .printDone = true → s.bli.notices.length < 32 →
          t.noticesOwed = s.noticesOwed ++
            [{ tag := 0, time := s.now
               body := .printDone e r.seq r.source d r.copies r.printed r.replaced }]) ∧
        Answered s t (s.replyNow tag 3 .ok))

/-- PRINT_CANCEL of the entry being printed stops the engine at once (R161): the reader given back where it is still held,
the slots emptied, the cut asked for with no entry printing, the record and its place in the queue order gone and the print
hold lowered. The reply carries the pages printed and the copies finished, and no PRINT_DONE is raised. -/
def Sys2Proof.Claims.PrintedEntryIsCancelled : Prop :=
  ∀ (s : State) (tag e : Nat) (r : Entry) (pp : PrintPage), s.inReset = false → e < 32 → s.entry e = some r →
    s.prt.engine = .printing → s.prt.current = some e → s.prt.page = some pp → s.pmm.pendingScan = none →
    s.freedByHolds r.document →
    (pp.reader = true → s.current pp.ref = true ∧ pp.ref.page < 256 ∧ (s.page pp.ref.page).document.isSome = true ∧
      0 < (s.page pp.ref.page).prints) →
    ∃ t, exec (.printCancel tag (.fields e)) s = .next t ∧ t.prt.engine = .printing ∧ t.prt.phase = .cut ∧
      t.prt.cutRequest = true ∧ t.prt.current = none ∧ t.prt.page = none ∧ t.entry e = none ∧
      t.prt.order = s.prt.order.erase e ∧ (∀ f, f ≠ e → t.entry f = s.entry f) ∧
      t.doc r.document = (s.doc r.document).printHoldLowered ∧
      (pp.reader = true → (s.doc r.document).printHoldLowered.state ≠ .free →
        t.page pp.ref.page = { s.page pp.ref.page with prints := (s.page pp.ref.page).prints - 1 }) ∧
      t.noticesOwed = s.noticesOwed ∧
      Answered s t (s.replyNow tag 22 .ok 0 (.printCancelled r.printed (r.copies - r.remaining)))

/-- A page that becomes final wakes the entry that waits for it (R8, R153), here by BOARD_PAGE_END of a page whose bits end
on a byte, with one entry queued and the engine not IDLE: the entry BLOCKED on that page is WAITING, and one BLOCKED on
another page, or on another document, stays. -/
def Sys2Proof.Claims.FinalPageWakesItsEntry : Prop :=
  ∀ (s : State) (tag e : Nat) (r : Entry) (j : CoderPage) (b : BoardPage), s.inReset = false → s.lcd.mode = .board →
    s.lcd.job = some j → s.lcd.board = some b → s.lcd.held = none → s.lcd.bits = [] → 0 < j.lineCount →
    s.current j.ref = true → (s.page j.ref.page).state = .filling → (s.page j.ref.page).document = some b.document →
    b.document < 64 → j.ref.page < 256 → s.prt.order = [e] → e < 32 → s.entry e = some r → r.state = .blocked →
    s.prt.engine ≠ .idle →
    ∃ t, exec (.boardPageEnd tag (.fields false)) s = .next t ∧
      t.entry e = some { r with
        state := if r.document = b.document ∧ r.next = (s.page j.ref.page).index then .waiting else .blocked } ∧
      (t.page j.ref.page).final = true ∧ (t.page j.ref.page).state = .complete ∧ t.prt.engine = s.prt.engine ∧
      Answered s t (s.replyNow tag 12 .ok 0
        (.boardEnd (s.page j.ref.page).index j.lineCount (s.page j.ref.page).byteCount))

/-! ## The charge unit (chapter 9) -/

/-- DESK_SET (R165), here with no job waiting for funds: BAD_FIELD for a desk above 15, a kind that is none of the three, a
class set with a bit that names no class (which bits those are: log entry 28), or a MEMBER's pool that is above 15, the
desk itself or no POOL; STATE where a POOL that some MEMBER names would change its kind; IN_USE where a desk with active
calls would change its kind or, as a MEMBER, its pool. Otherwise kind, pool, weight, classes and margin are set, a MEMBER's
weight clamped to 0..4096 and the margin to the greater of 0 and −balance up to 65535, pool and weight gone for another
kind. -/
def Sys2Proof.Claims.DeskStandingIsSet : Prop :=
  ∀ (s : State) (tag : Nat) (a : DeskSetArgs), s.inReset = false → s.dsp.order = [] →
    let d := s.desk a.desk
    let kind : DeskKind := if a.kind = 0 then .independent else if a.kind = 1 then .member else .pool
    let bad : Prop := 16 ≤ a.desk ∨ 3 ≤ a.kind ∨ 16 ≤ a.classes ∨
      (a.kind = 1 ∧ (16 ≤ a.pool ∨ a.pool = a.desk ∨ (s.desk a.pool).kind ≠ .pool))
    let pooled : Prop := d.kind = .pool ∧ kind ≠ .pool ∧
      ∃ i, i < 16 ∧ (s.desk i).kind = .member ∧ (s.desk i).pool = some a.desk
    let busy : Prop := 0 < d.active ∧ (d.kind ≠ kind ∨ (kind = .member ∧ d.pool ≠ some a.pool))
    let lo := max 0 (-d.balance)
    let clamped := (if kind = .member ∧ 4096 < a.weight then 1 else 0) +
      (if (a.margin : Int) < lo ∨ 65535 < (a.margin : Int) then 1 else 0)
    (bad → ∃ t, exec (.deskSet tag (.fields a)) s = .next t ∧ OnlyAnswered s t (s.replyNow tag 24 .badField)) ∧
    (¬ bad → pooled → ∃ t, exec (.deskSet tag (.fields a)) s = .next t ∧ OnlyAnswered s t (s.replyNow tag 24 .state)) ∧
    (¬ bad → ¬ pooled → busy →
      ∃ t, exec (.deskSet tag (.fields a)) s = .next t ∧ OnlyAnswered s t (s.replyNow tag 24 .inUse)) ∧
    (¬ bad → ¬ pooled → ¬ busy → -65535 ≤ d.balance →
      ∃ t, exec (.deskSet tag (.fields a)) s = .next t ∧
        OnlyAnswered
          (s.updDesk a.desk fun d =>
            { d with
              kind := kind, pool := if kind = .member then some a.pool else none
              weight := if kind = .member then min a.weight 4096 else 0
              classes := { localCall := a.classes.testBit 0, national := a.classes.testBit 1
                           intl := a.classes.testBit 2, premium := a.classes.testBit 3 }
              margin := max lo (min (a.margin : Int) 65535) }) t
          (s.replyNow tag 24 (okCode clamped) clamped))

/-- A desk above 15 is refused BAD_FIELD by DESK_SET, DESK_CREDIT and, other than 255, by DESK_PERIOD_CLOSE (R165 to
R167). -/
def Sys2Proof.Claims.DesksOutOfRangeAreRefused : Prop :=
  ∀ (s : State) (tag k : Nat), s.inReset = false → 16 ≤ k →
    (∀ kind pool weight classes margin,
      ∃ t, exec (.deskSet tag (.fields
          { desk := k, kind := kind, pool := pool, weight := weight, classes := classes, margin := margin })) s =
          .next t ∧ OnlyAnswered s t (s.replyNow tag 24 .badField)) ∧
    (∀ amount, ∃ t, exec (.deskCredit tag (.fields { desk := k, amount := amount })) s = .next t ∧
      OnlyAnswered s t (s.replyNow tag 25 .badField)) ∧
    (∀ v, k ≠ 255 → ∃ t, exec (.deskPeriodClose tag (.fields { desk := k, allowance := v })) s = .next t ∧
      OnlyAnswered s t (s.replyNow tag 26 .badField))

/-- DESK_PERIOD_CLOSE of desk 255 closes the period of every desk, the reply carrying all 16 in ascending order; an
allowance above 2147483647, other than the absent one, is clamped to it and the command answered OK_CLAMPED with 1 (R167);
here with no job waiting for funds. -/
def Sys2Proof.Claims.AllPeriodsAreClosed : Prop :=
  ∀ (s : State) (tag v : Nat), s.inReset = false → s.dsp.order = [] →
    let absent : Bool := decide (v = 0xFFFFFFFF)
    let clamped := if absent = false ∧ 2147483647 < v then 1 else 0
    let close (d : Desk) : Desk :=
      let b : Int := if absent then d.balance else (min v 2147483647 : Nat)
      { d with credits := 0, metered := 0, charged := 0, unrecovered := 0, calls := 0, balance := b, opening := b }
    let line (d : Desk) : PeriodLine :=
      { opening := d.opening, credits := d.credits, metered := d.metered, charged := d.charged
        unrecovered := d.unrecovered, calls := d.calls, balance := d.balance }
    (∃ t, exec (.deskPeriodClose tag (.fields { desk := 255, allowance := v })) s = .next t ∧
      OnlyAnswered { s with chg := { s.chg with desks := s.chg.desks.map close } } t
        (s.replyNow tag 26 (okCode clamped) clamped (.periods ((List.range 16).map fun k => line (s.desk k))))) ∧
    (∀ k, k < 16 →
      ∃ t, exec (.deskPeriodClose tag (.fields { desk := k, allowance := v })) s = .next t ∧
        OnlyAnswered (s.updDesk k close) t
          (s.replyNow tag 26 (okCode clamped) clamped (.periods [line (s.desk k)])))

/-- DESK_SET, DESK_CREDIT and DESK_PERIOD_CLOSE, here with no job waiting for funds: a desk's standing and clamped margin
are set, a credit raises balance and credits and answers the new balance, one that would pass the margin or the upper
value is refused BAD_FIELD, and a period's close clears its totals and answers them (R165 to R167). -/
def Sys2Proof.Claims.DesksAreSetCreditedAndClosed : Prop :=
  ∀ (s : State) (tag k : Nat), s.inReset = false → s.dsp.order = [] → k < 16 →
    (∀ (m cl : Nat) (set : ClassSet), ClassSet.ofMask cl = some set → (s.desk k).kind = .independent →
        (s.desk k).pool = none → -65535 ≤ (s.desk k).balance →
      let lo := max 0 (-(s.desk k).balance)
      let clamped := if (m : Int) < lo ∨ 65535 < (m : Int) then 1 else 0
      ∃ t, exec (.deskSet tag (.fields { desk := k, kind := 0, pool := 0, weight := 0, classes := cl, margin := m })) s =
          .next t ∧
        OnlyAnswered
          (s.updDesk k fun d => { d with weight := 0, classes := set, margin := max lo (min (m : Int) 65535) }) t
          (s.replyNow tag 24 (okCode clamped) clamped)) ∧
    (∀ amount : Int, -(s.desk k).margin ≤ (s.desk k).balance + amount → (s.desk k).balance + amount ≤ 2147483647 →
      ∃ t, exec (.deskCredit tag (.fields { desk := k, amount := amount })) s = .next t ∧
        OnlyAnswered
          (s.updDesk k fun d => { d with balance := d.balance + amount, credits := d.credits + amount }) t
          (s.replyNow tag 25 .ok 0 (.balance ((s.desk k).balance + amount)))) ∧
    (∀ amount : Int, (s.desk k).balance + amount < -(s.desk k).margin ∨ 2147483647 < (s.desk k).balance + amount →
      ∃ t, exec (.deskCredit tag (.fields { desk := k, amount := amount })) s = .next t ∧
        OnlyAnswered s t (s.replyNow tag 25 .badField)) ∧
    (∃ t, exec (.deskPeriodClose tag (.fields { desk := k, allowance := 0xFFFFFFFF })) s = .next t ∧
      OnlyAnswered
        (s.updDesk k fun d =>
          { d with credits := 0, metered := 0, charged := 0, unrecovered := 0, calls := 0, opening := d.balance }) t
        (s.replyNow tag 26 .ok 0 (.periods [(s.desk k).periodLine]))) ∧
    (∀ v, v ≤ 2147483647 →
      ∃ t, exec (.deskPeriodClose tag (.fields { desk := k, allowance := v })) s = .next t ∧
        OnlyAnswered
          (s.updDesk k fun d =>
            { d with credits := 0, metered := 0, charged := 0, unrecovered := 0, calls := 0, balance := v, opening := v }) t
          (s.replyNow tag 26 .ok 0 (.periods [(s.desk k).periodLine])))

/-- STEP_BOUNDARY before the elapsed count has reached the next step due, or with none due, changes nothing: the boundary
falls when the count reaches it (R176; that the row may come early at all is log entry 10). -/
def Sys2Proof.Claims.BoundaryFallsAtItsTime : Prop :=
  ∀ (s : State) (n : LineNo) (x : Ctx), s.inReset = false → (s.line n).ctx = some x →
    (x.nextDue = none ∨ x.tariff = none ∨ ∃ due, x.nextDue = some due ∧ x.elapsed < due) →
    ∃ t, exec (.stepBoundary n) s = .next t ∧ NothingButChoice s t

/-- STEP_BOUNDARY of a call of a desk with a pool (R173, R174, R176): with funds for the step at the desk and for its share,
floor((step_cp × weight + 2048)/4096), at the pool, each down to its margin, both are charged; where either falls short
nothing is charged and the call is released with reason FUNDS. -/
def Sys2Proof.Claims.StepBoundaryChargesDeskAndPool : Prop :=
  ∀ (s : State) (n : LineNo) (x : Ctx) (tf : Tariff) (k p due : Nat), s.inReset = false → (s.line n).ctx = some x →
    x.tariff = some tf → x.nextDue = some due → x.desk = some k → k < 16 → x.pool = some p → p < 16 → p ≠ k →
    due ≤ x.elapsed →
    let c : Int := tf.stepCp
    let h : Int := (c * (s.desk k).weight + 2048) / 4096
    (-(s.desk k).margin ≤ (s.desk k).balance - c → -(s.desk p).margin ≤ (s.desk p).balance - h →
      ∃ t, exec (.stepBoundary n) s = .next t ∧
        t.desk k = { s.desk k with
          balance := (s.desk k).balance - c, metered := (s.desk k).metered + c, charged := (s.desk k).charged + c
          unrecovered := (s.desk k).unrecovered + 0 } ∧
        t.desk p = { s.desk p with
          balance := (s.desk p).balance - h, metered := (s.desk p).metered + h, charged := (s.desk p).charged + h
          unrecovered := (s.desk p).unrecovered + 0 } ∧
        (∀ j, j ≠ k → j ≠ p → t.desk j = s.desk j) ∧
        t.line n = { s.line n with ctx := some { x with
          steps := x.steps + 1, nextDue := some (due + tf.stepDs.getD s.chg.band 0), charge := x.charge + c
          poolShare := x.poolShare + h, unrecovered := x.unrecovered + 0, poolUnrecovered := x.poolUnrecovered + 0
          closing := x.closing || (decide ((s.desk k).balance - c ≤ 0) || decide ((s.desk p).balance - h ≤ 0)) } } ∧
        (∀ m, m ≠ n → t.line m = s.line m) ∧ t.repliesOwed = s.repliesOwed) ∧
    ((s.desk k).balance - c < -(s.desk k).margin ∨ (s.desk p).balance - h < -(s.desk p).margin →
        (s.line n).state.releasable = true → tf.minSteps ≤ x.steps →
      ∃ t, exec (.stepBoundary n) s = .next t ∧ (t.line n).state = .releasing ∧ (t.ctx n).reason = some .funds ∧
        (t.ctx n).nextDue = none ∧ (t.desk k).balance = (s.desk k).balance ∧
        (t.desk p).balance = (s.desk p).balance)

/-- STEP_BOUNDARY of a call of a desk without a pool: with funds down to the margin the step is charged and the next one
timed by the band in force; without, the boundary ends and the call is released with reason FUNDS, nothing charged (R174,
R176). -/
def Sys2Proof.Claims.StepBoundaryChargesOrReleases : Prop :=
  ∀ (s : State) (n : LineNo) (x : Ctx) (tf : Tariff) (k due : Nat), s.inReset = false → (s.line n).ctx = some x →
    x.tariff = some tf → x.nextDue = some due → x.desk = some k → k < 16 → x.pool = none → due ≤ x.elapsed →
    (-(s.desk k).margin ≤ (s.desk k).balance - tf.stepCp →
      ∃ t, exec (.stepBoundary n) s = .next t ∧
        t.desk k = { s.desk k with
          balance := (s.desk k).balance - tf.stepCp, metered := (s.desk k).metered + tf.stepCp
          charged := (s.desk k).charged + tf.stepCp, unrecovered := (s.desk k).unrecovered + 0 } ∧
        (∀ j, j ≠ k → t.desk j = s.desk j) ∧
        t.line n = { s.line n with ctx := some { x with
          steps := x.steps + 1, nextDue := some (due + tf.stepDs.getD s.chg.band 0), charge := x.charge + tf.stepCp
          unrecovered := x.unrecovered + 0
          closing := x.closing || decide ((s.desk k).balance - tf.stepCp ≤ 0) } } ∧
        (∀ m, m ≠ n → t.line m = s.line m) ∧ t.repliesOwed = s.repliesOwed) ∧
    ((s.desk k).balance - tf.stepCp < -(s.desk k).margin → (s.line n).state.releasable = true →
        (tf.minSteps ≤ x.steps) →
      ∃ t, exec (.stepBoundary n) s = .next t ∧ (t.line n).state = .releasing ∧ (t.ctx n).reason = some .funds ∧
        (t.ctx n).nextDue = none ∧ (t.desk k).balance = (s.desk k).balance)

/-! ## Statements of several claims -/

/-- A step is the meaning of the command at the front of the queue; with none waiting nothing changes (the model's choice, log entry 6). -/
def Obligations.StepTakesFrontCommandOrIdles : Prop :=
  Sys2Proof.Claims.StepTakesFrontCommand ∧
  Sys2Proof.Claims.IdleStepChangesNothing

/-- During a hard reset only pin levels and the reset's own rows are taken, attention released (that every other row waits is log entry 40). -/
def Obligations.ResetHoldsThePart : Prop :=
  Sys2Proof.Claims.NothingElseIsHeededInReset ∧
  Sys2Proof.Claims.ResetPinHoldsThePart

/-- Every step keeps at most 8 replies and 32 notices queued, and records and reservations within 64 places. -/
def Obligations.StepKeepsQueueBounds : Prop :=
  Sys2Proof.Claims.StepKeepsReplyAndNoticeBounds ∧
  Sys2Proof.Claims.StepKeepsRecordPlaces

/-- Every step keeps both equalities of every desk's ledger, and no balance below the negative of its margin. -/
def Obligations.StepKeepsLedgersBalanced : Prop :=
  Sys2Proof.Claims.StepKeepsDeskEqualities ∧
  Sys2Proof.Claims.StepKeepsMargins

/-- Every step keeps gains, background, counters, clocks, bands, head width, report period (its reset value: log entry 23) and readers in range. -/
def Obligations.StepKeepsRanges : Prop :=
  Sys2Proof.Claims.StepKeepsFieldRanges ∧
  Sys2Proof.Claims.StepKeepsReaderLimits

/-- Bad, unknown and malformed commands are answered; an overlong block is discarded and the hunt resumes after its sync (empty body: log entry 27). -/
def Obligations.FaultyBlocksAreAnsweredOrDiscarded : Prop :=
  Sys2Proof.Claims.BadAndUnknownBlocksAreAnswered ∧
  Sys2Proof.Claims.LongBlocksAreDiscarded ∧
  Sys2Proof.Claims.MalformedCommandsAreAnsweredBadField

/-- A sent record leaves its queue, the last DATA block ends its fetch, and a request from before a reset is refused. -/
def Obligations.SentBlocksLeaveTheirSource : Prop :=
  Sys2Proof.Claims.SentRecordLeavesItsQueue ∧
  Sys2Proof.Claims.LastDataBlockEndsTheFetch ∧
  Sys2Proof.Claims.StaleRequestsAreRefused ∧
  Sys2Proof.Claims.StaleRouteRequestsAreShort

/-- NOTICE_MASK, REPORT_MODE, the report timer, and START_ACK, which clears the reset-unacknowledged flag. -/
def Obligations.ReportsFollowMaskModeAndTimer : Prop :=
  Sys2Proof.Claims.ReportTimerRefreshesStatus ∧
  Sys2Proof.Claims.MaskAndModeAreReplaced ∧
  Sys2Proof.Claims.StartAckClearsTheFlag

/-- The document commands' common check of their document field. -/
def Obligations.DocumentFieldsAreChecked : Prop :=
  Sys2Proof.Claims.DocumentFieldsAreChecked ∧
  Sys2Proof.Claims.AllDocumentsIsNoDocument

/-- DOC_HOLD, DOC_RELEASE and DOC_CLOSE on a document that stays. -/
def Obligations.BoardHoldsAndCloses : Prop :=
  Sys2Proof.Claims.BoardHoldIsSetAndCleared ∧
  Sys2Proof.Claims.DocCloseClosesOrRefuses

/-- BOARD_PAGE_BEGIN in an existing document, DOC_LINES, and BOARD_PAGE_END with no line held (a held line counts as taken: log entry 34). -/
def Obligations.BoardPagesAreOpenedFilledAndEnded : Prop :=
  Sys2Proof.Claims.BoardPageIsOpened ∧
  Sys2Proof.Claims.BoardLinesAreCoded ∧
  Sys2Proof.Claims.HeldLineWaitsForASegment ∧
  Sys2Proof.Claims.BoardPageIsEnded

/-- CALIBRATE and CAL_LINE_TAKEN: dark pass, white pass and outcome (BUSY judged before STATE: log entry 26). -/
def Obligations.CalibrationRunsItsPasses : Prop :=
  Sys2Proof.Claims.CalibrateBeginsTheDarkPass ∧
  Sys2Proof.Claims.CalibrationLinesAreSummed ∧
  Sys2Proof.Claims.WeakColumnsFollowR32 ∧
  Sys2Proof.Claims.CalibrationConcludes

/-- SCAN_START waits for paper, TRAY_PAPER_SENSOR_ACTIVE opens and feeds the page, EDGE_SENSOR_ACTIVE takes it into SCANNING. -/
def Obligations.SheetsAreFed : Prop :=
  Sys2Proof.Claims.ScanStartWaitsForPaper ∧
  Sys2Proof.Claims.SensorsFeedTheSheet

/-- SCAN_LINE_TAKEN processes and codes the line and asks for the next, pauses for memory, or ends its page and goes on or ends the session (log entry 45). -/
def Obligations.ScanLineIsProcessedAndCoded : Prop :=
  Sys2Proof.Claims.ScanLineIsProcessedAndCoded ∧
  Sys2Proof.Claims.PixelsFollowR36AndR37 ∧
  Sys2Proof.Claims.ScanUnitPausesForMemory ∧
  Sys2Proof.Claims.FreedMemoryResumesTheScan ∧
  Sys2Proof.Claims.ScanPagesEnd

/-- LINE_CONFIG and LINE_CONTROL (IN_USE judged before the fields: log entry 26). -/
def Obligations.LinesAreConfiguredAndControlled : Prop :=
  Sys2Proof.Claims.LineConfigIsLoadedOutsideCalls ∧
  Sys2Proof.Claims.LineConfigFollowsR74 ∧
  Sys2Proof.Claims.LineControlEnablesAndDisables

/-- RING_INPUT_CHANGE, RING_BURST_QUALIFIED and RING_GAP_EXPIRY (a held input: log entry 29; unwritten context fields: log entry 41). -/
def Obligations.RingingIsAnsweredOrAbandoned : Prop :=
  Sys2Proof.Claims.RingBurstsAreQualified ∧
  Sys2Proof.Claims.AnswerTestDecidesAtRingCount ∧
  Sys2Proof.Claims.RingingIsAbandoned

/-- METER_INPUT_CHANGE and METER_PULSE_QUALIFIED (log entry 30). -/
def Obligations.MeterPulsesAreCountedAndCharged : Prop :=
  Sys2Proof.Claims.MeterPulsesAreCounted ∧
  Sys2Proof.Claims.MeterPulseChargesTheDesk ∧
  Sys2Proof.Claims.MeterPulseChargesDeskAndPool

/-- DIAL_TONE, PAUSE_EXPIRY and PUMP_CHARACTER_SENT while dialling. -/
def Obligations.CallsAreDialled : Prop :=
  Sys2Proof.Claims.DialToneBeginsDialling ∧
  Sys2Proof.Claims.DiallingGoesOn

/-- What releases a call, the end of a reception with its DOC_RECEIVED, and RELEASE_GUARD_EXPIRY (log entries 33, 41). -/
def Obligations.CallsAreReleasedAndRecorded : Prop :=
  Sys2Proof.Claims.CallsAreReleased ∧
  Sys2Proof.Claims.ReceptionEndsWithTheCall ∧
  Sys2Proof.Claims.ChargeRecordFollowsR180 ∧
  Sys2Proof.Claims.GuardEndCompletesTheRecord

/-- FAR_ANSWER charges the first amount and begins the session (order: log entry 32). -/
def Obligations.FarAnswerChargesAndNegotiates : Prop :=
  Sys2Proof.Claims.FarAnswerChargesAndNegotiates ∧
  Sys2Proof.Claims.FarAnswerChargesDeskAndPool ∧
  Sys2Proof.Claims.ClampedFirstChargeReleases

/-- FRAME_BEGIN, DATA_CHARACTER_RECEIVED and FRAME_END. -/
def Obligations.FramesAreAssembledAndDelivered : Prop :=
  Sys2Proof.Claims.FrameBodiesAreAssembled ∧
  Sys2Proof.Claims.FrameEndDeliversTheFrame

/-- DATA_READY, and DATA_CHARACTER_RECEIVED of a page, with the grant of a segment. -/
def Obligations.DataPhasesStartAndReceive : Prop :=
  Sys2Proof.Claims.ReceivedByteIsAppended ∧
  Sys2Proof.Claims.ReceivedByteTakesASegment ∧
  Sys2Proof.Claims.SegmentsAreGranted ∧
  Sys2Proof.Claims.BytesAreAppended ∧
  Sys2Proof.Claims.DataReadyStartsThePhase

/-- TRAIN_FAIL and the training bound at caller and callee, and the answers to a failed phase (log entries 33, 43). -/
def Obligations.TrainingFailureIsTriedOnceMore : Prop :=
  Sys2Proof.Claims.TrainingFailureIsTriedOnceMore ∧
  Sys2Proof.Claims.OldAnswersAreDiscarded

/-- OFFER and ACCEPT at the caller (an idle codec's counts: log entry 41). -/
def Obligations.CallerNegotiates : Prop :=
  Sys2Proof.Claims.ChoiceFollowsR101 ∧
  Sys2Proof.Claims.CallerTakesOffer ∧
  Sys2Proof.Claims.CallerTakesAccept

/-- CHOOSE at the callee, with a route that prints and with shortage (an idle codec's counts: log entry 41). -/
def Obligations.CalleeAnswersChoose : Prop :=
  Sys2Proof.Claims.SupportFollowsR102 ∧
  Sys2Proof.Claims.RouteFollowsR139 ∧
  Sys2Proof.Claims.CalleeDeclinesChoose ∧
  Sys2Proof.Claims.CalleeAcceptsChoose ∧
  Sys2Proof.Claims.ShortageDeclinesChoose

/-- PAGE_HEAD of a new page and PAGE_TAIL at the callee (a callee's current step: log entry 48; any line count: log entry 38). -/
def Obligations.CalleeReceivesPages : Prop :=
  Sys2Proof.Claims.CalleeTakesPageHead ∧
  Sys2Proof.Claims.KeepTestFollowsR111 ∧
  Sys2Proof.Claims.CalleeJudgesPageTail

/-- END, END_ACK and FRAME_REPLY_EXPIRY. -/
def Obligations.CallsAreClosedAndRepeated : Prop :=
  Sys2Proof.Claims.CallsAreClosed ∧
  Sys2Proof.Claims.ReplyTimerRepeatsOrReleases

/-- JOB_SUBMIT and JOB_CANCEL. -/
def Obligations.JobsAreSubmittedAndCancelled : Prop :=
  Sys2Proof.Claims.JobSubmitFillsARecord ∧
  Sys2Proof.Claims.JobCancelEndsWaitingDestinations ∧
  Sys2Proof.Claims.JobCancelCompletesOrRefuses

/-- DUE_TIMER_EXPIRY and the dispatch that follows (early expiries: log entry 10; the last reason kept: log entry 49). -/
def Obligations.DueDestinationsAreDispatched : Prop :=
  Sys2Proof.Claims.DueTimersExpire ∧
  Sys2Proof.Claims.ClassificationFollowsR172 ∧
  Sys2Proof.Claims.TransformationFollowsR172 ∧
  Sys2Proof.Claims.DueDestinationIsDispatched

/-- The outcome of an outbound call settles its destination and its job, credits return those that wait (log entries 12, 49, 50, 53). -/
def Obligations.OutcomesSettleDestinations : Prop :=
  Sys2Proof.Claims.DestinationsSettleByR128 ∧
  Sys2Proof.Claims.ReleasedCallsSettleDestinations ∧
  Sys2Proof.Claims.LineFaultReturnsTheDestination ∧
  Sys2Proof.Claims.CreditReturnsDestinations ∧
  Sys2Proof.Claims.EmptyDocumentFailsItsJob

/-- STATION_CONFIG, CODER_CONFIG, LOAD_BANDS, SET_CLOCK, LOAD_TARIFFS, LOAD_DIAL_PLAN and LOAD_ROUTES (log entries 20, 26, 28, 54). -/
def Obligations.TablesAreReplaced : Prop :=
  Sys2Proof.Claims.TablesAreReplaced ∧
  Sys2Proof.Claims.TariffsFollowR171 ∧
  Sys2Proof.Claims.FaultyLoadsAreRefused ∧
  Sys2Proof.Claims.RuleRangesFollowR138AndR170 ∧
  Sys2Proof.Claims.RuleTablesAreReplacedWhole

/-- PRINT_DOC, PRINT_CANCEL, PRINT_LINE_DECODED, LINE_TAKEN, ENGINE_READY, PAPER_PRESENT_CHANGE and CUT_DONE (log entries 37, 41, 42). -/
def Obligations.PrintingPassesPages : Prop :=
  Sys2Proof.Claims.PrintEntriesAreMadeAndCancelled ∧
  Sys2Proof.Claims.PrintLinesPassTheSlots ∧
  Sys2Proof.Claims.ArbiterTakesTheMostUrgent ∧
  Sys2Proof.Claims.ChoiceStartsAPage ∧
  Sys2Proof.Claims.PaperHoldsTheEngine ∧
  Sys2Proof.Claims.CutEndsThePage ∧
  Sys2Proof.Claims.CutGoesOnOrYields

/-- The end of a copy and of an entry, PRINT_CANCEL of the entry being printed, and the reports of a close and of a final page (log entry 41). -/
def Obligations.PrintEntriesEnd : Prop :=
  Sys2Proof.Claims.FinishedEntryIsRemoved ∧
  Sys2Proof.Claims.CloseReportEndsCopies ∧
  Sys2Proof.Claims.PrintedEntryIsCancelled ∧
  Sys2Proof.Claims.FinalPageWakesItsEntry

/-- DESK_SET, DESK_CREDIT and DESK_PERIOD_CLOSE (class bits without a class: log entry 28). -/
def Obligations.DesksAreSetCreditedAndClosed : Prop :=
  Sys2Proof.Claims.DesksAreSetCreditedAndClosed ∧
  Sys2Proof.Claims.DeskStandingIsSet ∧
  Sys2Proof.Claims.DesksOutOfRangeAreRefused ∧
  Sys2Proof.Claims.AllPeriodsAreClosed

/-- STEP_BOUNDARY charges the step or releases the call, and an early one changes nothing (log entry 10). -/
def Obligations.StepBoundaryChargesOrReleases : Prop :=
  Sys2Proof.Claims.StepBoundaryChargesOrReleases ∧
  Sys2Proof.Claims.BoundaryFallsAtItsTime ∧
  Sys2Proof.Claims.StepBoundaryChargesDeskAndPool
end

