-- ==== Sys2Proof/Laws/Link.lean ====
section
/-! SUPPORT. What the end of an event does: a heeded command, the reports owed, the upstream selector, the replies. -/

namespace Sys2Proof.Machine

/-! ## Heeding -/

theorem heed_of_heeds (s : State) (f : State → State) (h : s.inReset = false) :
    s.heed f = .next (f { s with reports := [] }).finish := by
  simp [State.heed, h]

theorem heed_in_reset (s : State) (f : State → State) (h : s.inReset = true) : s.heed f = .next s := by
  simp [State.heed, h]

theorem command_of_heeds (s : State) (f : State → State) (h : s.inReset = false) :
    s.command f = .next (f { s with reports := [], bli := { s.bli with rx := {} } }).finish := by
  simp [State.command, heed_of_heeds, h]

theorem commandArgs_fields {α : Type} (s : State) (tag code : Nat) (x : α) (f : α → State → State)
    (h : s.inReset = false) :
    s.commandArgs tag code (.fields x) f = .next (f x { s with reports := [], bli := { s.bli with rx := {} } }).finish := by
  simp [State.commandArgs, command_of_heeds, h]

theorem commandArgs_malformed {α : Type} (s : State) (tag code : Nat) (f : α → State → State) (h : s.inReset = false) :
    s.commandArgs tag code .malformed f =
      .next ({ s with reports := [], bli := { s.bli with rx := {} } }.reply tag code .badField).finish := by
  simp [State.commandArgs, command_of_heeds, h]

theorem pin_of_heeds (s : State) (set f : State → State) (h : s.inReset = false) :
    s.pin set f = .next (f (set { s with reports := [] })).finish := by
  simp [State.pin, h]

theorem pin_in_reset (s : State) (set f : State → State) (h : s.inReset = true) : s.pin set f = .next (set s) := by
  simp [State.pin, h]

/-! ## The end of an event -/

theorem drain_of_quiet (k : Nat) (s : State) (h : s.reports = []) : drain k s = s := by
  cases k <;> simp [drain, h]

theorem finish_of_quiet (s : State) (h : s.reports = []) : s.finish = { s.select with reports := [] } := by
  simp [State.finish, drain_of_quiet _ _ h]

/-- A report that its handler answers without owing another is worked off in one step. -/
theorem drain_one (k : Nat) (s : State) (r : Report) (h : s.reports = [r])
    (hq : ({ s with reports := [] }.handle r).reports = []) :
    drain (k + 1) s = { s with reports := [] }.handle r := by
  simp [drain, h, drain_of_quiet _ _ hq]

theorem finish_one (s : State) (r : Report) (h : s.reports = [r])
    (hq : ({ s with reports := [] }.handle r).reports = []) :
    s.finish = { ({ s with reports := [] }.handle r).select with reports := [] } := by
  simp [State.finish, drainBound, drain_one 99999 s r h hq]

/-! ## The selector (R187) -/

/-- What the selector can do: it changes nothing but the link's queues and the fetch's progress, and what is owed stays
owed in order. -/
theorem select_nothingButChoice (s : State) (h : s.reports = []) : NothingButChoice s s.select := by
  unfold State.select
  split
  · simp [NothingButChoice, LinkKept, SameButLink]
    cases s; simp_all
  · rename_i hs
    have hn : s.bli.sending = none := by simpa using hs
    split
    · rename_i hr
      refine ⟨?_, rfl, ⟨?_, ?_, rfl, rfl, rfl, rfl, rfl, rfl⟩, rfl, ?_, rfl⟩ <;>
        simp [State.repliesOwed, State.noticesOwed, State.statusOwed, hn, hr, h]
    · rename_i hr
      split
      · refine ⟨?_, rfl, ⟨?_, ?_, rfl, rfl, rfl, rfl, rfl, rfl⟩, rfl, ?_, rfl⟩ <;>
          simp [State.repliesOwed, State.noticesOwed, State.statusOwed, hn, hr, h]
      · split
        · rename_i hb
          refine ⟨?_, rfl, ⟨?_, ?_, rfl, rfl, rfl, rfl, rfl, rfl⟩, rfl, ?_, rfl⟩ <;>
            simp [State.repliesOwed, State.noticesOwed, State.statusOwed, hn, hr, hb, h]
        · rename_i hb
          split
          · rename_i hm
            refine ⟨?_, rfl, ⟨?_, ?_, rfl, rfl, rfl, rfl, rfl, rfl⟩, rfl, ?_, rfl⟩ <;>
              simp [State.repliesOwed, State.noticesOwed, State.statusOwed, hn, hr, hb, hm, h]
          · unfold State.selectFetch
            split
            · rename_i f hf
              split
              · refine ⟨?_, rfl, ⟨?_, ?_, rfl, rfl, rfl, rfl, rfl, rfl⟩, rfl, ?_, ?_⟩ <;>
                  simp [State.repliesOwed, State.noticesOwed, State.statusOwed, hn, h, hf, Fetch.fixed]
              · refine ⟨rfl, rfl, ⟨rfl, rfl, rfl, rfl, rfl, rfl, rfl, rfl⟩, rfl, ?_, rfl⟩
                rw [← h]
            · refine ⟨rfl, rfl, ⟨rfl, rfl, rfl, rfl, rfl, rfl, rfl, rfl⟩, rfl, ?_, rfl⟩
              rw [← h]

/-- A state that owes no report ends its event with the selector's choice alone. -/
theorem finish_nothingButChoice (s : State) (h : s.reports = []) : NothingButChoice s s.finish := by
  have hs := select_nothingButChoice s h
  rw [finish_of_quiet s h]
  have hr : s.select.reports = [] := by
    have := hs.2.2.2.2.1
    rw [this]
  have : { s.select with reports := [] } = s.select := by rw [← hr]
  rw [this]
  exact hs

/-! ## Replies (R184) -/

theorem reply_room (s : State) (tag code : Nat) (r : ResultCode) (c : Nat) (b : ReplyBody)
    (h : s.bli.replies.length < 8) :
    s.reply tag code r c b =
      { s with bli := { s.bli with replies := s.bli.replies ++ [s.replyNow tag code r c b] } } := by
  simp [State.reply, State.replyNow, Config.replyPlaces, h]

theorem reply_full (s : State) (tag code : Nat) (r : ResultCode) (c : Nat) (b : ReplyBody)
    (h : ¬ s.bli.replies.length < 8) :
    s.reply tag code r c b =
      { s with bli := { s.bli with summary := { s.bli.summary with replyLost := true } } } := by
  simp [State.reply, Config.replyPlaces, h]

@[simp] theorem reply_reports (s : State) (tag code : Nat) (r : ResultCode) (c : Nat) (b : ReplyBody) :
    (s.reply tag code r c b).reports = s.reports := by
  unfold State.reply; split <;> rfl

/-- A command that only answers: its reply is owed and nothing else changes. -/
theorem reply_onlyAnswered (s : State) (tag code : Nat) (r : ResultCode) (c : Nat) (b : ReplyBody)
    (h : s.reports = []) (hx : s.bli.rx = {}) :
    OnlyAnswered s (s.reply tag code r c b).finish (s.replyNow tag code r c b) := by
  have hf := finish_nothingButChoice (s.reply tag code r c b) (by simp [h])
  by_cases hl : s.bli.replies.length < 8
  · rw [reply_room s tag code r c b hl] at hf ⊢
    obtain ⟨h1, h2, h3, h4, h5, h6⟩ := hf
    refine ⟨⟨?_, ?_⟩, ?_, ?_, ?_, ?_⟩
    · rw [h1]; simp [State.repliesOwed, hl]
    · rw [h2]; simp; omega
    · exact h3
    · rw [h4]; exact hx
    · exact h5
    · exact h6
  · rw [reply_full s tag code r c b hl] at hf ⊢
    obtain ⟨h1, h2, h3, h4, h5, h6⟩ := hf
    refine ⟨⟨?_, ?_⟩, ?_, ?_, ?_, ?_⟩
    · rw [h1]; simp [State.repliesOwed, hl]
    · rw [h2]; simp; omega
    · exact h3
    · rw [h4]; exact hx
    · exact h5
    · exact h6

/-- The reply of an accepted command, clamped or not. -/
theorem replyOk_eq (s : State) (tag code n : Nat) (b : ReplyBody) :
    s.replyOk tag code n b = s.reply tag code (okCode n) n b := rfl

end Sys2Proof.Machine
end

