-- ==== Sys2Proof/Laws/Exec.lean ====
section
/-! SUPPORT. Each command's meaning as `exec` gives it, one equation per row of the table. -/

namespace Sys2Proof.Machine

theorem exec_hardReset (cause : HardCause) (s : State) :
    exec (.hardReset cause) s =
      .next (s.hardReset cause).finish := rfl

theorem exec_softReset (tag : Nat) (a : Args Unit) (s : State) :
    exec (.softReset tag a) s =
      s.commandArgs tag 34 a fun _ s => s.softReset tag := rfl

theorem exec_badBlock (tag : Nat) (s : State) :
    exec (.badBlock tag) s =
      s.command fun s => s.reply tag 0 .badBlock := rfl

theorem exec_blockLengthDiscard (type tag lenHi lenLo : Byte) (s : State) :
    exec (.blockLengthDiscard type tag lenHi lenLo) s =
      s.heed fun s => s.updBli fun b => { b with rx := afterHeader [type, tag, lenHi, lenLo] } := rfl

theorem exec_unknownCommand (tag : Nat) (code : Option Nat) (s : State) :
    exec (.unknownCommand tag code) s =
      s.command fun s => s.reply tag (code.getD 0) .unknownCommand := rfl

theorem exec_blockSent (s : State) :
    exec (.blockSent) s =
      s.heed fun s => s.blockSent := rfl

theorem exec_reportTimerExpiry (s : State) :
    exec (.reportTimerExpiry) s =
      s.heed fun s => s.reportExpires := rfl

theorem exec_docHold (tag : Nat) (a : Args Nat) (s : State) :
    exec (.docHold tag a) s =
      s.commandArgs tag 1 a fun d s => s.holdDoc tag d := rfl

theorem exec_docRelease (tag : Nat) (a : Args Nat) (s : State) :
    exec (.docRelease tag a) s =
      s.commandArgs tag 2 a fun d s => s.releaseDoc tag d := rfl

theorem exec_docClose (tag : Nat) (a : Args Nat) (s : State) :
    exec (.docClose tag a) s =
      s.commandArgs tag 3 a fun d s => s.closeByBoard tag d := rfl

theorem exec_docFetch (tag : Nat) (a : Args DocFetchArgs) (s : State) :
    exec (.docFetch tag a) s =
      s.commandArgs tag 4 a fun x s => s.fetchPage tag x := rfl

theorem exec_docQuery (tag : Nat) (a : Args Nat) (s : State) :
    exec (.docQuery tag a) s =
      s.commandArgs tag 5 a fun d s => s.queryDoc tag d := rfl

theorem exec_calibrate (tag : Nat) (a : Args Unit) (s : State) :
    exec (.calibrate tag a) s =
      s.commandArgs tag 6 a fun _ s => s.calibrate tag := rfl

theorem exec_scanStart (tag : Nat) (a : Args ScanStartArgs) (s : State) :
    exec (.scanStart tag a) s =
      s.commandArgs tag 7 a fun x s => s.startScan tag x := rfl

theorem exec_scanStop (tag : Nat) (a : Args Unit) (s : State) :
    exec (.scanStop tag a) s =
      s.commandArgs tag 8 a fun _ s => s.stopScan tag := rfl

theorem exec_scanConfig (tag : Nat) (a : Args ScanConfigArgs) (s : State) :
    exec (.scanConfig tag a) s =
      s.commandArgs tag 9 a fun x s => s.configScan tag x := rfl

theorem exec_loadCodeSet (tag : Nat) (a : Args LoadCodeSetArgs) (s : State) :
    exec (.loadCodeSet tag a) s =
      s.commandArgs tag 10 a fun x s => s.loadCodeSet tag x := rfl

theorem exec_boardPageBegin (tag : Nat) (a : Args BoardPageBeginArgs) (s : State) :
    exec (.boardPageBegin tag a) s =
      s.commandArgs tag 11 a fun x s => s.beginBoardPage tag x := rfl

theorem exec_boardPageEnd (tag : Nat) (a : Args Bool) (s : State) :
    exec (.boardPageEnd tag a) s =
      s.commandArgs tag 12 a fun x s => s.endBoardPage tag x := rfl

theorem exec_coderConfig (tag : Nat) (a : Args CoderConfigArgs) (s : State) :
    exec (.coderConfig tag a) s =
      s.commandArgs tag 13 a fun x s => s.configCoder tag x := rfl

theorem exec_docLines (tag : Nat) (body : List Byte) (s : State) :
    exec (.docLines tag body) s =
      s.command fun s => s.docLines tag body := rfl

theorem exec_lineConfig (tag : Nat) (a : Args LineConfigArgs) (s : State) :
    exec (.lineConfig tag a) s =
      s.commandArgs tag 14 a fun x s => s.configLine tag x := rfl

theorem exec_lineControl (tag : Nat) (a : Args LineControlArgs) (s : State) :
    exec (.lineControl tag a) s =
      s.commandArgs tag 15 a fun x s => s.controlLine tag x := rfl

theorem exec_stationConfig (tag : Nat) (a : Args StationConfigArgs) (s : State) :
    exec (.stationConfig tag a) s =
      s.commandArgs tag 16 a fun x s => s.configStation tag x := rfl

theorem exec_jobSubmit (tag : Nat) (a : Args JobSubmitArgs) (s : State) :
    exec (.jobSubmit tag a) s =
      s.commandArgs tag 17 a fun x s => s.submitJob tag x := rfl

theorem exec_jobCancel (tag : Nat) (a : Args Nat) (s : State) :
    exec (.jobCancel tag a) s =
      s.commandArgs tag 18 a fun j s => s.cancelJob tag j := rfl

theorem exec_jobQuery (tag : Nat) (a : Args Nat) (s : State) :
    exec (.jobQuery tag a) s =
      s.commandArgs tag 19 a fun j s => s.queryJob tag j := rfl

theorem exec_loadRoutes (tag : Nat) (a : Args LoadRoutesArgs) (s : State) :
    exec (.loadRoutes tag a) s =
      s.commandArgs tag 20 a fun x s => s.loadRoutes tag x := rfl

theorem exec_printDoc (tag : Nat) (a : Args PrintDocArgs) (s : State) :
    exec (.printDoc tag a) s =
      s.commandArgs tag 21 a fun x s => s.printDoc tag x := rfl

theorem exec_printCancel (tag : Nat) (a : Args Nat) (s : State) :
    exec (.printCancel tag a) s =
      s.commandArgs tag 22 a fun e s => s.printCancel tag e := rfl

theorem exec_printConfig (tag : Nat) (a : Args Nat) (s : State) :
    exec (.printConfig tag a) s =
      s.commandArgs tag 23 a fun w s => s.configPrint tag w := rfl

theorem exec_deskSet (tag : Nat) (a : Args DeskSetArgs) (s : State) :
    exec (.deskSet tag a) s =
      s.commandArgs tag 24 a fun x s => s.setDesk tag x := rfl

theorem exec_deskCredit (tag : Nat) (a : Args DeskCreditArgs) (s : State) :
    exec (.deskCredit tag a) s =
      s.commandArgs tag 25 a fun x s => s.creditDesk tag x := rfl

theorem exec_deskPeriodClose (tag : Nat) (a : Args DeskPeriodCloseArgs) (s : State) :
    exec (.deskPeriodClose tag a) s =
      s.commandArgs tag 26 a fun x s => s.closePeriods tag x := rfl

theorem exec_loadDialPlan (tag : Nat) (a : Args LoadDialPlanArgs) (s : State) :
    exec (.loadDialPlan tag a) s =
      s.commandArgs tag 27 a fun x s => s.loadDialPlan tag x := rfl

theorem exec_loadTariffs (tag : Nat) (a : Args LoadTariffsArgs) (s : State) :
    exec (.loadTariffs tag a) s =
      s.commandArgs tag 28 a fun x s => s.loadTariffs tag x := rfl

theorem exec_loadBands (tag : Nat) (a : Args (List Nat)) (s : State) :
    exec (.loadBands tag a) s =
      s.commandArgs tag 29 a fun x s => s.loadBands tag x := rfl

theorem exec_setClock (tag : Nat) (a : Args SetClockArgs) (s : State) :
    exec (.setClock tag a) s =
      s.commandArgs tag 30 a fun x s => s.setClock tag x := rfl

theorem exec_noticeMask (tag : Nat) (a : Args Nat) (s : State) :
    exec (.noticeMask tag a) s =
      s.commandArgs tag 31 a fun m s => s.setMask tag m := rfl

theorem exec_reportMode (tag : Nat) (a : Args ReportModeArgs) (s : State) :
    exec (.reportMode tag a) s =
      s.commandArgs tag 32 a fun x s => s.setReportMode tag x := rfl

theorem exec_statusQuery (tag : Nat) (a : Args Unit) (s : State) :
    exec (.statusQuery tag a) s =
      s.commandArgs tag 33 a fun _ s => s.queryStatus tag := rfl

theorem exec_startAck (tag : Nat) (a : Args Unit) (s : State) :
    exec (.startAck tag a) s =
      s.commandArgs tag 35 a fun _ s => s.ackStart tag := rfl

theorem exec_clockTick (s : State) :
    exec (.clockTick) s =
      s.heed fun s => s.tick := rfl

theorem exec_dispatcherTimeTick (s : State) :
    exec (.dispatcherTimeTick) s =
      s.heed fun s => { s with dsp := { s.dsp with time := min (s.dsp.time + 1) Config.maxDispatcherTime } } := rfl

theorem exec_trayPaperSensorActive (level : Bool) (s : State) :
    exec (.trayPaperSensorActive level) s =
        s.pin (·.updScn fun u => { u with tray := level }) fun s =>
          match s.scn.state, s.scn.session with
          | .waitPaper, some x => if level && !x.feeding then s.feed else s
          | _, _ => s := rfl

theorem exec_edgeSensorActive (level : Bool) (s : State) :
    exec (.edgeSensorActive level) s =
        s.pin (·.updScn fun u => { u with edge := level }) fun s =>
          match s.scn.state, s.scn.session with
          | .waitPaper, some x => if level then (if x.feeding then s.enterScanning else s.feed) else s
          | _, _ => s := rfl

theorem exec_calLineTaken (samples : List Byte) (s : State) :
    exec (.calLineTaken samples) s =
      s.heed fun s => s.takeCalLine samples := rfl

theorem exec_scanLineTaken (samples : List Byte) (s : State) :
    exec (.scanLineTaken samples) s =
      s.heed fun s => s.takeScanLine samples := rfl

theorem exec_jamTimerExpiry (s : State) :
    exec (.jamTimerExpiry) s =
      s.heed fun s => s.jam := rfl

theorem exec_memoryWaitExpiry (s : State) :
    exec (.memoryWaitExpiry) s =
      s.heed fun s => s.memoryWaitEnds := rfl

theorem exec_ringInputChange (line : LineNo) (level : Bool) (s : State) :
    exec (.ringInputChange line level) s =
      (s.pin (·.updLine line fun l => { l with ringInput := level }) fun u =>
          u.updLine line fun l =>
            if !level then { l with ringQual := none }
            else if !(s.line line).ringInput && l.state.heedsRing then { l with ringQual := some l.config.ringOnMin }
            else l) := rfl

theorem exec_ringBurstQualified (line : LineNo) (s : State) :
    exec (.ringBurstQualified line) s =
      s.heed fun s => if (s.line line).ringQual.isSome then s.burst line else s := rfl

theorem exec_ringGapExpiry (line : LineNo) (s : State) :
    exec (.ringGapExpiry line) s =
      s.heed fun s => if (s.line line).ringGap.isSome then s.abandonRinging line else s := rfl

theorem exec_loopCheck (line : LineNo) (current : Bool) (s : State) :
    exec (.loopCheck line current) s =
      s.heed fun s => s.checkLoop line current := rfl

theorem exec_meterInputChange (line : LineNo) (level : Bool) (s : State) :
    exec (.meterInputChange line level) s =
      (s.pin (·.updLine line fun l => { l with meterInput := level }) fun u =>
          u.updLine line fun l =>
            if !level then { l with meterQual := none }
            else if !(s.line line).meterInput && l.counts then { l with meterQual := some l.config.pulseOnMin }
            else l) := rfl

theorem exec_meterPulseQualified (line : LineNo) (s : State) :
    exec (.meterPulseQualified line) s =
      s.heed fun s => s.meterPulse line := rfl

theorem exec_dialTone (line : LineNo) (s : State) :
    exec (.dialTone line) s =
      s.heed fun s => s.dialToneHeard line := rfl

theorem exec_busyTone (line : LineNo) (s : State) :
    exec (.busyTone line) s =
      s.heed fun s => s.busyToneHeard line := rfl

theorem exec_farAnswer (line : LineNo) (s : State) :
    exec (.farAnswer line) s =
      s.heed fun s => if (s.line line).state = .awaitAnswer then s.farEndAnswers line else s := rfl

theorem exec_dialToneWaitExpiry (line : LineNo) (s : State) :
    exec (.dialToneWaitExpiry line) s =
      s.heed fun s => if (s.line line).dialToneWait.isSome then s.releaseCall line .noDialTone else s := rfl

theorem exec_pauseExpiry (line : LineNo) (s : State) :
    exec (.pauseExpiry line) s =
        s.heed fun s =>
          if (s.line line).pause.isSome then (s.updLine line fun l => { l with pause := none }).dialNext line else s := rfl

theorem exec_answerWaitExpiry (line : LineNo) (s : State) :
    exec (.answerWaitExpiry line) s =
      s.heed fun s => if (s.line line).answerWait.isSome then s.releaseCall line .noAnswer else s := rfl

theorem exec_pumpCharacterSent (line : LineNo) (s : State) :
    exec (.pumpCharacterSent line) s =
      s.heed fun s => s.characterSent line := rfl

theorem exec_dataCharacterReceived (line : LineNo) (byte : Byte) (parityError : Bool) (s : State) :
    exec (.dataCharacterReceived line byte parityError) s =
      s.heed fun s => s.takeData line byte parityError := rfl

theorem exec_dataReady (line : LineNo) (s : State) :
    exec (.dataReady line) s =
      s.heed fun s => s.phaseReady line := rfl

theorem exec_trainFail (line : LineNo) (s : State) :
    exec (.trainFail line) s =
      s.heed fun s => s.phaseFails line := rfl

theorem exec_carrierLost (line : LineNo) (s : State) :
    exec (.carrierLost line) s =
      s.heed fun s => s.loseCarrier line := rfl

theorem exec_frameBegin (line : LineNo) (s : State) :
    exec (.frameBegin line) s =
      s.heed fun s => s.openFrame line := rfl

theorem exec_offer (line : LineNo) (f : OfferFields) (s : State) :
    exec (.offer line f) s =
      s.heed fun s => s.deliver line (.offer f) := rfl

theorem exec_choose (line : LineNo) (f : ChooseFields) (s : State) :
    exec (.choose line f) s =
      s.heed fun s => s.deliver line (.choose f) := rfl

theorem exec_accept (line : LineNo) (s : State) :
    exec (.accept line) s =
      s.heed fun s => s.deliver line .accept := rfl

theorem exec_decline (line : LineNo) (reason : Nat) (s : State) :
    exec (.decline line reason) s =
      s.heed fun s => s.deliver line (.decline reason) := rfl

theorem exec_pageHead (line : LineNo) (number attempt step : Nat) (s : State) :
    exec (.pageHead line number attempt step) s =
      s.heed fun s => s.deliver line (.pageHead number attempt step) := rfl

theorem exec_pageTail (line : LineNo) (lines bytes : Nat) (check : BitVec 16) (s : State) :
    exec (.pageTail line lines bytes check) s =
      s.heed fun s => s.deliver line (.pageTail lines bytes check) := rfl

theorem exec_pageAck (line : LineNo) (number verdict bad : Nat) (s : State) :
    exec (.pageAck line number verdict bad) s =
      s.heed fun s => s.deliver line (.pageAck number verdict bad) := rfl

theorem exec_endFrame (line : LineNo) (pages : Nat) (s : State) :
    exec (.endFrame line pages) s =
      s.heed fun s => s.deliver line (.endCall pages) := rfl

theorem exec_endAck (line : LineNo) (s : State) :
    exec (.endAck line) s =
      s.heed fun s => s.deliver line .endAck := rfl

theorem exec_frameReplyExpiry (line : LineNo) (s : State) :
    exec (.frameReplyExpiry line) s =
      s.heed fun s => s.replyExpires line := rfl

theorem exec_releaseGuardExpiry (line : LineNo) (s : State) :
    exec (.releaseGuardExpiry line) s =
      s.heed fun s => if (s.line line).releaseGuard.isSome then s.guardEnds line else s := rfl

theorem exec_dueTimerExpiry (job : Fin 32) (dest : Fin 16) (s : State) :
    exec (.dueTimerExpiry job dest) s =
      s.heed fun s => s.dueExpires job.val dest.val := rfl

theorem exec_stepBoundary (line : LineNo) (s : State) :
    exec (.stepBoundary line) s =
      s.heed fun s => s.boundaryOf line := rfl

theorem exec_paperPresentChange (level : Bool) (s : State) :
    exec (.paperPresentChange level) s =
      s.pin (·.updPrt fun p => { p with paper := level }) fun s => s.paperChange level := rfl

theorem exec_engineReady (level : Bool) (s : State) :
    exec (.engineReady level) s =
      s.pin (·.updPrt fun p => { p with ready := level }) fun s => s := rfl

theorem exec_lineTaken (s : State) :
    exec (.lineTaken) s =
      s.heed fun s => s.takePrintLine := rfl

theorem exec_printLineDecoded (s : State) :
    exec (.printLineDecoded) s =
      s.heed fun s => s.decodePrintLine := rfl

theorem exec_cutDone (s : State) :
    exec (.cutDone) s =
      s.heed fun s => s.cutFinished := rfl

theorem exec_resetPinAsserted (s : State) :
    exec (.resetPinAsserted) s =
      .next { s with inReset := true } := rfl

theorem exec_frameEnd (line : LineNo) (s : State) :
    exec (.frameEnd line) s =
      s.heed fun s => s.closeFrame line := rfl

theorem exec_paceIntervalExpiry (line : LineNo) (s : State) :
    exec (.paceIntervalExpiry line) s =
      s.heed fun s => s.paceEnds line := rfl

end Sys2Proof.Machine
end

