-- ==== Sys2Proof/Laws/State.lean ====
section
/-!
SUPPORT. One lemma per field and update of State, so that no proof unfolds a record update, and the reading of a table's
record after a write.
-/

namespace Sys2Proof

/-! ## Tables -/

@[simp] theorem tget_tset_self {α : Type} {n : Nat} (v : Vector α n) (i : Nat) (x d : α) (h : i < n) :
    tget (tset v i x) i d = x := by
  simp [tget, tset, h]

@[simp] theorem tget_tset_ne {α : Type} {n : Nat} (v : Vector α n) (i j : Nat) (x d : α) (h : i ≠ j) :
    tget (tset v i x) j d = tget v j d := by
  unfold tget tset
  by_cases hi : i < n <;> by_cases hj : j < n <;> simp [hi, hj, h]

theorem tset_out {α : Type} {n : Nat} (v : Vector α n) (i : Nat) (x : α) (h : ¬ i < n) : tset v i x = v := by
  simp [tset, h]

namespace Machine

/-! ### setPage -/

@[simp] theorem setPage_pending (s : State) (p : Nat) (r : PageRec) :
    (s.setPage p r).pending = s.pending := rfl
@[simp] theorem setPage_inReset (s : State) (p : Nat) (r : PageRec) :
    (s.setPage p r).inReset = s.inReset := rfl
@[simp] theorem setPage_scn (s : State) (p : Nat) (r : PageRec) :
    (s.setPage p r).scn = s.scn := rfl
@[simp] theorem setPage_lcd (s : State) (p : Nat) (r : PageRec) :
    (s.setPage p r).lcd = s.lcd := rfl
@[simp] theorem setPage_lines (s : State) (p : Nat) (r : PageRec) :
    (s.setPage p r).lines = s.lines := rfl
@[simp] theorem setPage_station (s : State) (p : Nat) (r : PageRec) :
    (s.setPage p r).station = s.station := rfl
@[simp] theorem setPage_callCounter (s : State) (p : Nat) (r : PageRec) :
    (s.setPage p r).callCounter = s.callCounter := rfl
@[simp] theorem setPage_dsp (s : State) (p : Nat) (r : PageRec) :
    (s.setPage p r).dsp = s.dsp := rfl
@[simp] theorem setPage_rtr (s : State) (p : Nat) (r : PageRec) :
    (s.setPage p r).rtr = s.rtr := rfl
@[simp] theorem setPage_prt (s : State) (p : Nat) (r : PageRec) :
    (s.setPage p r).prt = s.prt := rfl
@[simp] theorem setPage_chg (s : State) (p : Nat) (r : PageRec) :
    (s.setPage p r).chg = s.chg := rfl
@[simp] theorem setPage_bli (s : State) (p : Nat) (r : PageRec) :
    (s.setPage p r).bli = s.bli := rfl
@[simp] theorem setPage_reports (s : State) (p : Nat) (r : PageRec) :
    (s.setPage p r).reports = s.reports := rfl
@[simp] theorem setPage_freeIndex (s : State) (p : Nat) (r : PageRec) :
    (s.setPage p r).freeIndex = s.freeIndex := rfl

/-! ### setDoc -/

@[simp] theorem setDoc_pending (s : State) (d : Nat) (r : DocRec) :
    (s.setDoc d r).pending = s.pending := rfl
@[simp] theorem setDoc_inReset (s : State) (d : Nat) (r : DocRec) :
    (s.setDoc d r).inReset = s.inReset := rfl
@[simp] theorem setDoc_scn (s : State) (d : Nat) (r : DocRec) :
    (s.setDoc d r).scn = s.scn := rfl
@[simp] theorem setDoc_lcd (s : State) (d : Nat) (r : DocRec) :
    (s.setDoc d r).lcd = s.lcd := rfl
@[simp] theorem setDoc_lines (s : State) (d : Nat) (r : DocRec) :
    (s.setDoc d r).lines = s.lines := rfl
@[simp] theorem setDoc_station (s : State) (d : Nat) (r : DocRec) :
    (s.setDoc d r).station = s.station := rfl
@[simp] theorem setDoc_callCounter (s : State) (d : Nat) (r : DocRec) :
    (s.setDoc d r).callCounter = s.callCounter := rfl
@[simp] theorem setDoc_dsp (s : State) (d : Nat) (r : DocRec) :
    (s.setDoc d r).dsp = s.dsp := rfl
@[simp] theorem setDoc_rtr (s : State) (d : Nat) (r : DocRec) :
    (s.setDoc d r).rtr = s.rtr := rfl
@[simp] theorem setDoc_prt (s : State) (d : Nat) (r : DocRec) :
    (s.setDoc d r).prt = s.prt := rfl
@[simp] theorem setDoc_chg (s : State) (d : Nat) (r : DocRec) :
    (s.setDoc d r).chg = s.chg := rfl
@[simp] theorem setDoc_bli (s : State) (d : Nat) (r : DocRec) :
    (s.setDoc d r).bli = s.bli := rfl
@[simp] theorem setDoc_reports (s : State) (d : Nat) (r : DocRec) :
    (s.setDoc d r).reports = s.reports := rfl
@[simp] theorem setDoc_freeIndex (s : State) (d : Nat) (r : DocRec) :
    (s.setDoc d r).freeIndex = s.freeIndex := rfl

/-! ### updLine -/

@[simp] theorem updLine_pending (s : State) (n : LineNo) (f : Line → Line) :
    (s.updLine n f).pending = s.pending := rfl
@[simp] theorem updLine_inReset (s : State) (n : LineNo) (f : Line → Line) :
    (s.updLine n f).inReset = s.inReset := rfl
@[simp] theorem updLine_pmm (s : State) (n : LineNo) (f : Line → Line) :
    (s.updLine n f).pmm = s.pmm := rfl
@[simp] theorem updLine_scn (s : State) (n : LineNo) (f : Line → Line) :
    (s.updLine n f).scn = s.scn := rfl
@[simp] theorem updLine_lcd (s : State) (n : LineNo) (f : Line → Line) :
    (s.updLine n f).lcd = s.lcd := rfl
@[simp] theorem updLine_station (s : State) (n : LineNo) (f : Line → Line) :
    (s.updLine n f).station = s.station := rfl
@[simp] theorem updLine_callCounter (s : State) (n : LineNo) (f : Line → Line) :
    (s.updLine n f).callCounter = s.callCounter := rfl
@[simp] theorem updLine_dsp (s : State) (n : LineNo) (f : Line → Line) :
    (s.updLine n f).dsp = s.dsp := rfl
@[simp] theorem updLine_rtr (s : State) (n : LineNo) (f : Line → Line) :
    (s.updLine n f).rtr = s.rtr := rfl
@[simp] theorem updLine_prt (s : State) (n : LineNo) (f : Line → Line) :
    (s.updLine n f).prt = s.prt := rfl
@[simp] theorem updLine_chg (s : State) (n : LineNo) (f : Line → Line) :
    (s.updLine n f).chg = s.chg := rfl
@[simp] theorem updLine_bli (s : State) (n : LineNo) (f : Line → Line) :
    (s.updLine n f).bli = s.bli := rfl
@[simp] theorem updLine_reports (s : State) (n : LineNo) (f : Line → Line) :
    (s.updLine n f).reports = s.reports := rfl
@[simp] theorem updLine_freeIndex (s : State) (n : LineNo) (f : Line → Line) :
    (s.updLine n f).freeIndex = s.freeIndex := rfl

/-! ### updCtx -/

@[simp] theorem updCtx_pending (s : State) (n : LineNo) (f : Ctx → Ctx) :
    (s.updCtx n f).pending = s.pending := rfl
@[simp] theorem updCtx_inReset (s : State) (n : LineNo) (f : Ctx → Ctx) :
    (s.updCtx n f).inReset = s.inReset := rfl
@[simp] theorem updCtx_pmm (s : State) (n : LineNo) (f : Ctx → Ctx) :
    (s.updCtx n f).pmm = s.pmm := rfl
@[simp] theorem updCtx_scn (s : State) (n : LineNo) (f : Ctx → Ctx) :
    (s.updCtx n f).scn = s.scn := rfl
@[simp] theorem updCtx_lcd (s : State) (n : LineNo) (f : Ctx → Ctx) :
    (s.updCtx n f).lcd = s.lcd := rfl
@[simp] theorem updCtx_station (s : State) (n : LineNo) (f : Ctx → Ctx) :
    (s.updCtx n f).station = s.station := rfl
@[simp] theorem updCtx_callCounter (s : State) (n : LineNo) (f : Ctx → Ctx) :
    (s.updCtx n f).callCounter = s.callCounter := rfl
@[simp] theorem updCtx_dsp (s : State) (n : LineNo) (f : Ctx → Ctx) :
    (s.updCtx n f).dsp = s.dsp := rfl
@[simp] theorem updCtx_rtr (s : State) (n : LineNo) (f : Ctx → Ctx) :
    (s.updCtx n f).rtr = s.rtr := rfl
@[simp] theorem updCtx_prt (s : State) (n : LineNo) (f : Ctx → Ctx) :
    (s.updCtx n f).prt = s.prt := rfl
@[simp] theorem updCtx_chg (s : State) (n : LineNo) (f : Ctx → Ctx) :
    (s.updCtx n f).chg = s.chg := rfl
@[simp] theorem updCtx_bli (s : State) (n : LineNo) (f : Ctx → Ctx) :
    (s.updCtx n f).bli = s.bli := rfl
@[simp] theorem updCtx_reports (s : State) (n : LineNo) (f : Ctx → Ctx) :
    (s.updCtx n f).reports = s.reports := rfl
@[simp] theorem updCtx_freeIndex (s : State) (n : LineNo) (f : Ctx → Ctx) :
    (s.updCtx n f).freeIndex = s.freeIndex := rfl

/-! ### updSess -/

@[simp] theorem updSess_pending (s : State) (n : LineNo) (f : Session → Session) :
    (s.updSess n f).pending = s.pending := rfl
@[simp] theorem updSess_inReset (s : State) (n : LineNo) (f : Session → Session) :
    (s.updSess n f).inReset = s.inReset := rfl
@[simp] theorem updSess_pmm (s : State) (n : LineNo) (f : Session → Session) :
    (s.updSess n f).pmm = s.pmm := rfl
@[simp] theorem updSess_scn (s : State) (n : LineNo) (f : Session → Session) :
    (s.updSess n f).scn = s.scn := rfl
@[simp] theorem updSess_lcd (s : State) (n : LineNo) (f : Session → Session) :
    (s.updSess n f).lcd = s.lcd := rfl
@[simp] theorem updSess_station (s : State) (n : LineNo) (f : Session → Session) :
    (s.updSess n f).station = s.station := rfl
@[simp] theorem updSess_callCounter (s : State) (n : LineNo) (f : Session → Session) :
    (s.updSess n f).callCounter = s.callCounter := rfl
@[simp] theorem updSess_dsp (s : State) (n : LineNo) (f : Session → Session) :
    (s.updSess n f).dsp = s.dsp := rfl
@[simp] theorem updSess_rtr (s : State) (n : LineNo) (f : Session → Session) :
    (s.updSess n f).rtr = s.rtr := rfl
@[simp] theorem updSess_prt (s : State) (n : LineNo) (f : Session → Session) :
    (s.updSess n f).prt = s.prt := rfl
@[simp] theorem updSess_chg (s : State) (n : LineNo) (f : Session → Session) :
    (s.updSess n f).chg = s.chg := rfl
@[simp] theorem updSess_bli (s : State) (n : LineNo) (f : Session → Session) :
    (s.updSess n f).bli = s.bli := rfl
@[simp] theorem updSess_reports (s : State) (n : LineNo) (f : Session → Session) :
    (s.updSess n f).reports = s.reports := rfl
@[simp] theorem updSess_freeIndex (s : State) (n : LineNo) (f : Session → Session) :
    (s.updSess n f).freeIndex = s.freeIndex := rfl

/-! ### updCodec -/

@[simp] theorem updCodec_pending (s : State) (n : LineNo) (f : Codec → Codec) :
    (s.updCodec n f).pending = s.pending := rfl
@[simp] theorem updCodec_inReset (s : State) (n : LineNo) (f : Codec → Codec) :
    (s.updCodec n f).inReset = s.inReset := rfl
@[simp] theorem updCodec_pmm (s : State) (n : LineNo) (f : Codec → Codec) :
    (s.updCodec n f).pmm = s.pmm := rfl
@[simp] theorem updCodec_scn (s : State) (n : LineNo) (f : Codec → Codec) :
    (s.updCodec n f).scn = s.scn := rfl
@[simp] theorem updCodec_lcd (s : State) (n : LineNo) (f : Codec → Codec) :
    (s.updCodec n f).lcd = s.lcd := rfl
@[simp] theorem updCodec_station (s : State) (n : LineNo) (f : Codec → Codec) :
    (s.updCodec n f).station = s.station := rfl
@[simp] theorem updCodec_callCounter (s : State) (n : LineNo) (f : Codec → Codec) :
    (s.updCodec n f).callCounter = s.callCounter := rfl
@[simp] theorem updCodec_dsp (s : State) (n : LineNo) (f : Codec → Codec) :
    (s.updCodec n f).dsp = s.dsp := rfl
@[simp] theorem updCodec_rtr (s : State) (n : LineNo) (f : Codec → Codec) :
    (s.updCodec n f).rtr = s.rtr := rfl
@[simp] theorem updCodec_prt (s : State) (n : LineNo) (f : Codec → Codec) :
    (s.updCodec n f).prt = s.prt := rfl
@[simp] theorem updCodec_chg (s : State) (n : LineNo) (f : Codec → Codec) :
    (s.updCodec n f).chg = s.chg := rfl
@[simp] theorem updCodec_bli (s : State) (n : LineNo) (f : Codec → Codec) :
    (s.updCodec n f).bli = s.bli := rfl
@[simp] theorem updCodec_reports (s : State) (n : LineNo) (f : Codec → Codec) :
    (s.updCodec n f).reports = s.reports := rfl
@[simp] theorem updCodec_freeIndex (s : State) (n : LineNo) (f : Codec → Codec) :
    (s.updCodec n f).freeIndex = s.freeIndex := rfl

/-! ### setJob -/

@[simp] theorem setJob_pending (s : State) (j : Nat) (r : Option Job) :
    (s.setJob j r).pending = s.pending := rfl
@[simp] theorem setJob_inReset (s : State) (j : Nat) (r : Option Job) :
    (s.setJob j r).inReset = s.inReset := rfl
@[simp] theorem setJob_pmm (s : State) (j : Nat) (r : Option Job) :
    (s.setJob j r).pmm = s.pmm := rfl
@[simp] theorem setJob_scn (s : State) (j : Nat) (r : Option Job) :
    (s.setJob j r).scn = s.scn := rfl
@[simp] theorem setJob_lcd (s : State) (j : Nat) (r : Option Job) :
    (s.setJob j r).lcd = s.lcd := rfl
@[simp] theorem setJob_lines (s : State) (j : Nat) (r : Option Job) :
    (s.setJob j r).lines = s.lines := rfl
@[simp] theorem setJob_station (s : State) (j : Nat) (r : Option Job) :
    (s.setJob j r).station = s.station := rfl
@[simp] theorem setJob_callCounter (s : State) (j : Nat) (r : Option Job) :
    (s.setJob j r).callCounter = s.callCounter := rfl
@[simp] theorem setJob_rtr (s : State) (j : Nat) (r : Option Job) :
    (s.setJob j r).rtr = s.rtr := rfl
@[simp] theorem setJob_prt (s : State) (j : Nat) (r : Option Job) :
    (s.setJob j r).prt = s.prt := rfl
@[simp] theorem setJob_chg (s : State) (j : Nat) (r : Option Job) :
    (s.setJob j r).chg = s.chg := rfl
@[simp] theorem setJob_bli (s : State) (j : Nat) (r : Option Job) :
    (s.setJob j r).bli = s.bli := rfl
@[simp] theorem setJob_reports (s : State) (j : Nat) (r : Option Job) :
    (s.setJob j r).reports = s.reports := rfl
@[simp] theorem setJob_freeIndex (s : State) (j : Nat) (r : Option Job) :
    (s.setJob j r).freeIndex = s.freeIndex := rfl

/-! ### updDesk -/

@[simp] theorem updDesk_pending (s : State) (d : Nat) (f : Desk → Desk) :
    (s.updDesk d f).pending = s.pending := rfl
@[simp] theorem updDesk_inReset (s : State) (d : Nat) (f : Desk → Desk) :
    (s.updDesk d f).inReset = s.inReset := rfl
@[simp] theorem updDesk_pmm (s : State) (d : Nat) (f : Desk → Desk) :
    (s.updDesk d f).pmm = s.pmm := rfl
@[simp] theorem updDesk_scn (s : State) (d : Nat) (f : Desk → Desk) :
    (s.updDesk d f).scn = s.scn := rfl
@[simp] theorem updDesk_lcd (s : State) (d : Nat) (f : Desk → Desk) :
    (s.updDesk d f).lcd = s.lcd := rfl
@[simp] theorem updDesk_lines (s : State) (d : Nat) (f : Desk → Desk) :
    (s.updDesk d f).lines = s.lines := rfl
@[simp] theorem updDesk_station (s : State) (d : Nat) (f : Desk → Desk) :
    (s.updDesk d f).station = s.station := rfl
@[simp] theorem updDesk_callCounter (s : State) (d : Nat) (f : Desk → Desk) :
    (s.updDesk d f).callCounter = s.callCounter := rfl
@[simp] theorem updDesk_dsp (s : State) (d : Nat) (f : Desk → Desk) :
    (s.updDesk d f).dsp = s.dsp := rfl
@[simp] theorem updDesk_rtr (s : State) (d : Nat) (f : Desk → Desk) :
    (s.updDesk d f).rtr = s.rtr := rfl
@[simp] theorem updDesk_prt (s : State) (d : Nat) (f : Desk → Desk) :
    (s.updDesk d f).prt = s.prt := rfl
@[simp] theorem updDesk_bli (s : State) (d : Nat) (f : Desk → Desk) :
    (s.updDesk d f).bli = s.bli := rfl
@[simp] theorem updDesk_reports (s : State) (d : Nat) (f : Desk → Desk) :
    (s.updDesk d f).reports = s.reports := rfl
@[simp] theorem updDesk_freeIndex (s : State) (d : Nat) (f : Desk → Desk) :
    (s.updDesk d f).freeIndex = s.freeIndex := rfl

/-! ### setEntry -/

@[simp] theorem setEntry_pending (s : State) (e : Nat) (r : Option Entry) :
    (s.setEntry e r).pending = s.pending := rfl
@[simp] theorem setEntry_inReset (s : State) (e : Nat) (r : Option Entry) :
    (s.setEntry e r).inReset = s.inReset := rfl
@[simp] theorem setEntry_pmm (s : State) (e : Nat) (r : Option Entry) :
    (s.setEntry e r).pmm = s.pmm := rfl
@[simp] theorem setEntry_scn (s : State) (e : Nat) (r : Option Entry) :
    (s.setEntry e r).scn = s.scn := rfl
@[simp] theorem setEntry_lcd (s : State) (e : Nat) (r : Option Entry) :
    (s.setEntry e r).lcd = s.lcd := rfl
@[simp] theorem setEntry_lines (s : State) (e : Nat) (r : Option Entry) :
    (s.setEntry e r).lines = s.lines := rfl
@[simp] theorem setEntry_station (s : State) (e : Nat) (r : Option Entry) :
    (s.setEntry e r).station = s.station := rfl
@[simp] theorem setEntry_callCounter (s : State) (e : Nat) (r : Option Entry) :
    (s.setEntry e r).callCounter = s.callCounter := rfl
@[simp] theorem setEntry_dsp (s : State) (e : Nat) (r : Option Entry) :
    (s.setEntry e r).dsp = s.dsp := rfl
@[simp] theorem setEntry_rtr (s : State) (e : Nat) (r : Option Entry) :
    (s.setEntry e r).rtr = s.rtr := rfl
@[simp] theorem setEntry_chg (s : State) (e : Nat) (r : Option Entry) :
    (s.setEntry e r).chg = s.chg := rfl
@[simp] theorem setEntry_bli (s : State) (e : Nat) (r : Option Entry) :
    (s.setEntry e r).bli = s.bli := rfl
@[simp] theorem setEntry_reports (s : State) (e : Nat) (r : Option Entry) :
    (s.setEntry e r).reports = s.reports := rfl
@[simp] theorem setEntry_freeIndex (s : State) (e : Nat) (r : Option Entry) :
    (s.setEntry e r).freeIndex = s.freeIndex := rfl

/-! ### report -/

@[simp] theorem report_pending (s : State) (r : Report) :
    (s.report r).pending = s.pending := rfl
@[simp] theorem report_inReset (s : State) (r : Report) :
    (s.report r).inReset = s.inReset := rfl
@[simp] theorem report_pmm (s : State) (r : Report) :
    (s.report r).pmm = s.pmm := rfl
@[simp] theorem report_scn (s : State) (r : Report) :
    (s.report r).scn = s.scn := rfl
@[simp] theorem report_lcd (s : State) (r : Report) :
    (s.report r).lcd = s.lcd := rfl
@[simp] theorem report_lines (s : State) (r : Report) :
    (s.report r).lines = s.lines := rfl
@[simp] theorem report_station (s : State) (r : Report) :
    (s.report r).station = s.station := rfl
@[simp] theorem report_callCounter (s : State) (r : Report) :
    (s.report r).callCounter = s.callCounter := rfl
@[simp] theorem report_dsp (s : State) (r : Report) :
    (s.report r).dsp = s.dsp := rfl
@[simp] theorem report_rtr (s : State) (r : Report) :
    (s.report r).rtr = s.rtr := rfl
@[simp] theorem report_prt (s : State) (r : Report) :
    (s.report r).prt = s.prt := rfl
@[simp] theorem report_chg (s : State) (r : Report) :
    (s.report r).chg = s.chg := rfl
@[simp] theorem report_bli (s : State) (r : Report) :
    (s.report r).bli = s.bli := rfl
@[simp] theorem report_freeIndex (s : State) (r : Report) :
    (s.report r).freeIndex = s.freeIndex := rfl

/-! ### updScn -/

@[simp] theorem updScn_pending (s : State) (f : Scn → Scn) :
    (s.updScn f).pending = s.pending := rfl
@[simp] theorem updScn_inReset (s : State) (f : Scn → Scn) :
    (s.updScn f).inReset = s.inReset := rfl
@[simp] theorem updScn_pmm (s : State) (f : Scn → Scn) :
    (s.updScn f).pmm = s.pmm := rfl
@[simp] theorem updScn_lcd (s : State) (f : Scn → Scn) :
    (s.updScn f).lcd = s.lcd := rfl
@[simp] theorem updScn_lines (s : State) (f : Scn → Scn) :
    (s.updScn f).lines = s.lines := rfl
@[simp] theorem updScn_station (s : State) (f : Scn → Scn) :
    (s.updScn f).station = s.station := rfl
@[simp] theorem updScn_callCounter (s : State) (f : Scn → Scn) :
    (s.updScn f).callCounter = s.callCounter := rfl
@[simp] theorem updScn_dsp (s : State) (f : Scn → Scn) :
    (s.updScn f).dsp = s.dsp := rfl
@[simp] theorem updScn_rtr (s : State) (f : Scn → Scn) :
    (s.updScn f).rtr = s.rtr := rfl
@[simp] theorem updScn_prt (s : State) (f : Scn → Scn) :
    (s.updScn f).prt = s.prt := rfl
@[simp] theorem updScn_chg (s : State) (f : Scn → Scn) :
    (s.updScn f).chg = s.chg := rfl
@[simp] theorem updScn_bli (s : State) (f : Scn → Scn) :
    (s.updScn f).bli = s.bli := rfl
@[simp] theorem updScn_reports (s : State) (f : Scn → Scn) :
    (s.updScn f).reports = s.reports := rfl
@[simp] theorem updScn_freeIndex (s : State) (f : Scn → Scn) :
    (s.updScn f).freeIndex = s.freeIndex := rfl

/-! ### updScan -/

@[simp] theorem updScan_pending (s : State) (f : ScanSession → ScanSession) :
    (s.updScan f).pending = s.pending := rfl
@[simp] theorem updScan_inReset (s : State) (f : ScanSession → ScanSession) :
    (s.updScan f).inReset = s.inReset := rfl
@[simp] theorem updScan_pmm (s : State) (f : ScanSession → ScanSession) :
    (s.updScan f).pmm = s.pmm := rfl
@[simp] theorem updScan_lcd (s : State) (f : ScanSession → ScanSession) :
    (s.updScan f).lcd = s.lcd := rfl
@[simp] theorem updScan_lines (s : State) (f : ScanSession → ScanSession) :
    (s.updScan f).lines = s.lines := rfl
@[simp] theorem updScan_station (s : State) (f : ScanSession → ScanSession) :
    (s.updScan f).station = s.station := rfl
@[simp] theorem updScan_callCounter (s : State) (f : ScanSession → ScanSession) :
    (s.updScan f).callCounter = s.callCounter := rfl
@[simp] theorem updScan_dsp (s : State) (f : ScanSession → ScanSession) :
    (s.updScan f).dsp = s.dsp := rfl
@[simp] theorem updScan_rtr (s : State) (f : ScanSession → ScanSession) :
    (s.updScan f).rtr = s.rtr := rfl
@[simp] theorem updScan_prt (s : State) (f : ScanSession → ScanSession) :
    (s.updScan f).prt = s.prt := rfl
@[simp] theorem updScan_chg (s : State) (f : ScanSession → ScanSession) :
    (s.updScan f).chg = s.chg := rfl
@[simp] theorem updScan_bli (s : State) (f : ScanSession → ScanSession) :
    (s.updScan f).bli = s.bli := rfl
@[simp] theorem updScan_reports (s : State) (f : ScanSession → ScanSession) :
    (s.updScan f).reports = s.reports := rfl
@[simp] theorem updScan_freeIndex (s : State) (f : ScanSession → ScanSession) :
    (s.updScan f).freeIndex = s.freeIndex := rfl

/-! ### updLcd -/

@[simp] theorem updLcd_pending (s : State) (f : Lcd → Lcd) :
    (s.updLcd f).pending = s.pending := rfl
@[simp] theorem updLcd_inReset (s : State) (f : Lcd → Lcd) :
    (s.updLcd f).inReset = s.inReset := rfl
@[simp] theorem updLcd_pmm (s : State) (f : Lcd → Lcd) :
    (s.updLcd f).pmm = s.pmm := rfl
@[simp] theorem updLcd_scn (s : State) (f : Lcd → Lcd) :
    (s.updLcd f).scn = s.scn := rfl
@[simp] theorem updLcd_lines (s : State) (f : Lcd → Lcd) :
    (s.updLcd f).lines = s.lines := rfl
@[simp] theorem updLcd_station (s : State) (f : Lcd → Lcd) :
    (s.updLcd f).station = s.station := rfl
@[simp] theorem updLcd_callCounter (s : State) (f : Lcd → Lcd) :
    (s.updLcd f).callCounter = s.callCounter := rfl
@[simp] theorem updLcd_dsp (s : State) (f : Lcd → Lcd) :
    (s.updLcd f).dsp = s.dsp := rfl
@[simp] theorem updLcd_rtr (s : State) (f : Lcd → Lcd) :
    (s.updLcd f).rtr = s.rtr := rfl
@[simp] theorem updLcd_prt (s : State) (f : Lcd → Lcd) :
    (s.updLcd f).prt = s.prt := rfl
@[simp] theorem updLcd_chg (s : State) (f : Lcd → Lcd) :
    (s.updLcd f).chg = s.chg := rfl
@[simp] theorem updLcd_bli (s : State) (f : Lcd → Lcd) :
    (s.updLcd f).bli = s.bli := rfl
@[simp] theorem updLcd_reports (s : State) (f : Lcd → Lcd) :
    (s.updLcd f).reports = s.reports := rfl
@[simp] theorem updLcd_freeIndex (s : State) (f : Lcd → Lcd) :
    (s.updLcd f).freeIndex = s.freeIndex := rfl

/-! ### updPrt -/

@[simp] theorem updPrt_pending (s : State) (f : Prt → Prt) :
    (s.updPrt f).pending = s.pending := rfl
@[simp] theorem updPrt_inReset (s : State) (f : Prt → Prt) :
    (s.updPrt f).inReset = s.inReset := rfl
@[simp] theorem updPrt_pmm (s : State) (f : Prt → Prt) :
    (s.updPrt f).pmm = s.pmm := rfl
@[simp] theorem updPrt_scn (s : State) (f : Prt → Prt) :
    (s.updPrt f).scn = s.scn := rfl
@[simp] theorem updPrt_lcd (s : State) (f : Prt → Prt) :
    (s.updPrt f).lcd = s.lcd := rfl
@[simp] theorem updPrt_lines (s : State) (f : Prt → Prt) :
    (s.updPrt f).lines = s.lines := rfl
@[simp] theorem updPrt_station (s : State) (f : Prt → Prt) :
    (s.updPrt f).station = s.station := rfl
@[simp] theorem updPrt_callCounter (s : State) (f : Prt → Prt) :
    (s.updPrt f).callCounter = s.callCounter := rfl
@[simp] theorem updPrt_dsp (s : State) (f : Prt → Prt) :
    (s.updPrt f).dsp = s.dsp := rfl
@[simp] theorem updPrt_rtr (s : State) (f : Prt → Prt) :
    (s.updPrt f).rtr = s.rtr := rfl
@[simp] theorem updPrt_chg (s : State) (f : Prt → Prt) :
    (s.updPrt f).chg = s.chg := rfl
@[simp] theorem updPrt_bli (s : State) (f : Prt → Prt) :
    (s.updPrt f).bli = s.bli := rfl
@[simp] theorem updPrt_reports (s : State) (f : Prt → Prt) :
    (s.updPrt f).reports = s.reports := rfl
@[simp] theorem updPrt_freeIndex (s : State) (f : Prt → Prt) :
    (s.updPrt f).freeIndex = s.freeIndex := rfl

/-! ### updBli -/

@[simp] theorem updBli_pending (s : State) (f : Bli → Bli) :
    (s.updBli f).pending = s.pending := rfl
@[simp] theorem updBli_inReset (s : State) (f : Bli → Bli) :
    (s.updBli f).inReset = s.inReset := rfl
@[simp] theorem updBli_pmm (s : State) (f : Bli → Bli) :
    (s.updBli f).pmm = s.pmm := rfl
@[simp] theorem updBli_scn (s : State) (f : Bli → Bli) :
    (s.updBli f).scn = s.scn := rfl
@[simp] theorem updBli_lcd (s : State) (f : Bli → Bli) :
    (s.updBli f).lcd = s.lcd := rfl
@[simp] theorem updBli_lines (s : State) (f : Bli → Bli) :
    (s.updBli f).lines = s.lines := rfl
@[simp] theorem updBli_station (s : State) (f : Bli → Bli) :
    (s.updBli f).station = s.station := rfl
@[simp] theorem updBli_callCounter (s : State) (f : Bli → Bli) :
    (s.updBli f).callCounter = s.callCounter := rfl
@[simp] theorem updBli_dsp (s : State) (f : Bli → Bli) :
    (s.updBli f).dsp = s.dsp := rfl
@[simp] theorem updBli_rtr (s : State) (f : Bli → Bli) :
    (s.updBli f).rtr = s.rtr := rfl
@[simp] theorem updBli_prt (s : State) (f : Bli → Bli) :
    (s.updBli f).prt = s.prt := rfl
@[simp] theorem updBli_chg (s : State) (f : Bli → Bli) :
    (s.updBli f).chg = s.chg := rfl
@[simp] theorem updBli_reports (s : State) (f : Bli → Bli) :
    (s.updBli f).reports = s.reports := rfl
@[simp] theorem updBli_freeIndex (s : State) (f : Bli → Bli) :
    (s.updBli f).freeIndex = s.freeIndex := rfl

/-! ### setReception -/

@[simp] theorem setReception_pending (s : State) (n : LineNo) (r : Option Reception) :
    (s.setReception n r).pending = s.pending := rfl
@[simp] theorem setReception_inReset (s : State) (n : LineNo) (r : Option Reception) :
    (s.setReception n r).inReset = s.inReset := rfl
@[simp] theorem setReception_pmm (s : State) (n : LineNo) (r : Option Reception) :
    (s.setReception n r).pmm = s.pmm := rfl
@[simp] theorem setReception_scn (s : State) (n : LineNo) (r : Option Reception) :
    (s.setReception n r).scn = s.scn := rfl
@[simp] theorem setReception_lcd (s : State) (n : LineNo) (r : Option Reception) :
    (s.setReception n r).lcd = s.lcd := rfl
@[simp] theorem setReception_lines (s : State) (n : LineNo) (r : Option Reception) :
    (s.setReception n r).lines = s.lines := rfl
@[simp] theorem setReception_station (s : State) (n : LineNo) (r : Option Reception) :
    (s.setReception n r).station = s.station := rfl
@[simp] theorem setReception_callCounter (s : State) (n : LineNo) (r : Option Reception) :
    (s.setReception n r).callCounter = s.callCounter := rfl
@[simp] theorem setReception_dsp (s : State) (n : LineNo) (r : Option Reception) :
    (s.setReception n r).dsp = s.dsp := rfl
@[simp] theorem setReception_prt (s : State) (n : LineNo) (r : Option Reception) :
    (s.setReception n r).prt = s.prt := rfl
@[simp] theorem setReception_chg (s : State) (n : LineNo) (r : Option Reception) :
    (s.setReception n r).chg = s.chg := rfl
@[simp] theorem setReception_bli (s : State) (n : LineNo) (r : Option Reception) :
    (s.setReception n r).bli = s.bli := rfl
@[simp] theorem setReception_reports (s : State) (n : LineNo) (r : Option Reception) :
    (s.setReception n r).reports = s.reports := rfl
@[simp] theorem setReception_freeIndex (s : State) (n : LineNo) (r : Option Reception) :
    (s.setReception n r).freeIndex = s.freeIndex := rfl

/-! ### raiseUse -/

@[simp] theorem raiseUse_pending (s : State) (k : Nat) :
    (s.raiseUse k).pending = s.pending := rfl
@[simp] theorem raiseUse_inReset (s : State) (k : Nat) :
    (s.raiseUse k).inReset = s.inReset := rfl
@[simp] theorem raiseUse_scn (s : State) (k : Nat) :
    (s.raiseUse k).scn = s.scn := rfl
@[simp] theorem raiseUse_lcd (s : State) (k : Nat) :
    (s.raiseUse k).lcd = s.lcd := rfl
@[simp] theorem raiseUse_lines (s : State) (k : Nat) :
    (s.raiseUse k).lines = s.lines := rfl
@[simp] theorem raiseUse_station (s : State) (k : Nat) :
    (s.raiseUse k).station = s.station := rfl
@[simp] theorem raiseUse_callCounter (s : State) (k : Nat) :
    (s.raiseUse k).callCounter = s.callCounter := rfl
@[simp] theorem raiseUse_dsp (s : State) (k : Nat) :
    (s.raiseUse k).dsp = s.dsp := rfl
@[simp] theorem raiseUse_rtr (s : State) (k : Nat) :
    (s.raiseUse k).rtr = s.rtr := rfl
@[simp] theorem raiseUse_prt (s : State) (k : Nat) :
    (s.raiseUse k).prt = s.prt := rfl
@[simp] theorem raiseUse_chg (s : State) (k : Nat) :
    (s.raiseUse k).chg = s.chg := rfl
@[simp] theorem raiseUse_bli (s : State) (k : Nat) :
    (s.raiseUse k).bli = s.bli := rfl
@[simp] theorem raiseUse_reports (s : State) (k : Nat) :
    (s.raiseUse k).reports = s.reports := rfl
@[simp] theorem raiseUse_freeIndex (s : State) (k : Nat) :
    (s.raiseUse k).freeIndex = s.freeIndex := rfl

/-! ### lowerUse -/

@[simp] theorem lowerUse_pending (s : State) (k : Nat) :
    (s.lowerUse k).pending = s.pending := rfl
@[simp] theorem lowerUse_inReset (s : State) (k : Nat) :
    (s.lowerUse k).inReset = s.inReset := rfl
@[simp] theorem lowerUse_scn (s : State) (k : Nat) :
    (s.lowerUse k).scn = s.scn := rfl
@[simp] theorem lowerUse_lcd (s : State) (k : Nat) :
    (s.lowerUse k).lcd = s.lcd := rfl
@[simp] theorem lowerUse_lines (s : State) (k : Nat) :
    (s.lowerUse k).lines = s.lines := rfl
@[simp] theorem lowerUse_station (s : State) (k : Nat) :
    (s.lowerUse k).station = s.station := rfl
@[simp] theorem lowerUse_callCounter (s : State) (k : Nat) :
    (s.lowerUse k).callCounter = s.callCounter := rfl
@[simp] theorem lowerUse_dsp (s : State) (k : Nat) :
    (s.lowerUse k).dsp = s.dsp := rfl
@[simp] theorem lowerUse_rtr (s : State) (k : Nat) :
    (s.lowerUse k).rtr = s.rtr := rfl
@[simp] theorem lowerUse_prt (s : State) (k : Nat) :
    (s.lowerUse k).prt = s.prt := rfl
@[simp] theorem lowerUse_chg (s : State) (k : Nat) :
    (s.lowerUse k).chg = s.chg := rfl
@[simp] theorem lowerUse_bli (s : State) (k : Nat) :
    (s.lowerUse k).bli = s.bli := rfl
@[simp] theorem lowerUse_reports (s : State) (k : Nat) :
    (s.lowerUse k).reports = s.reports := rfl
@[simp] theorem lowerUse_freeIndex (s : State) (k : Nat) :
    (s.lowerUse k).freeIndex = s.freeIndex := rfl

/-! ### reply -/

@[simp] theorem reply_pending (s : State) (tag code : Nat) (r : ResultCode) (c : Nat) (b : ReplyBody) :
    (s.reply tag code r c b).pending = s.pending := by
  simp only [State.reply]; split <;> rfl
@[simp] theorem reply_inReset (s : State) (tag code : Nat) (r : ResultCode) (c : Nat) (b : ReplyBody) :
    (s.reply tag code r c b).inReset = s.inReset := by
  simp only [State.reply]; split <;> rfl
@[simp] theorem reply_pmm (s : State) (tag code : Nat) (r : ResultCode) (c : Nat) (b : ReplyBody) :
    (s.reply tag code r c b).pmm = s.pmm := by
  simp only [State.reply]; split <;> rfl
@[simp] theorem reply_scn (s : State) (tag code : Nat) (r : ResultCode) (c : Nat) (b : ReplyBody) :
    (s.reply tag code r c b).scn = s.scn := by
  simp only [State.reply]; split <;> rfl
@[simp] theorem reply_lcd (s : State) (tag code : Nat) (r : ResultCode) (c : Nat) (b : ReplyBody) :
    (s.reply tag code r c b).lcd = s.lcd := by
  simp only [State.reply]; split <;> rfl
@[simp] theorem reply_lines (s : State) (tag code : Nat) (r : ResultCode) (c : Nat) (b : ReplyBody) :
    (s.reply tag code r c b).lines = s.lines := by
  simp only [State.reply]; split <;> rfl
@[simp] theorem reply_station (s : State) (tag code : Nat) (r : ResultCode) (c : Nat) (b : ReplyBody) :
    (s.reply tag code r c b).station = s.station := by
  simp only [State.reply]; split <;> rfl
@[simp] theorem reply_callCounter (s : State) (tag code : Nat) (r : ResultCode) (c : Nat) (b : ReplyBody) :
    (s.reply tag code r c b).callCounter = s.callCounter := by
  simp only [State.reply]; split <;> rfl
@[simp] theorem reply_dsp (s : State) (tag code : Nat) (r : ResultCode) (c : Nat) (b : ReplyBody) :
    (s.reply tag code r c b).dsp = s.dsp := by
  simp only [State.reply]; split <;> rfl
@[simp] theorem reply_rtr (s : State) (tag code : Nat) (r : ResultCode) (c : Nat) (b : ReplyBody) :
    (s.reply tag code r c b).rtr = s.rtr := by
  simp only [State.reply]; split <;> rfl
@[simp] theorem reply_prt (s : State) (tag code : Nat) (r : ResultCode) (c : Nat) (b : ReplyBody) :
    (s.reply tag code r c b).prt = s.prt := by
  simp only [State.reply]; split <;> rfl
@[simp] theorem reply_chg (s : State) (tag code : Nat) (r : ResultCode) (c : Nat) (b : ReplyBody) :
    (s.reply tag code r c b).chg = s.chg := by
  simp only [State.reply]; split <;> rfl
@[simp] theorem reply_freeIndex (s : State) (tag code : Nat) (r : ResultCode) (c : Nat) (b : ReplyBody) :
    (s.reply tag code r c b).freeIndex = s.freeIndex := by
  simp only [State.reply]; split <;> rfl

/-! ### raise -/

@[simp] theorem raise_pending (s : State) (b : NoticeBody) (tag : Nat) :
    (s.raise b tag).pending = s.pending := by
  simp only [State.raise]; split <;> rfl
@[simp] theorem raise_inReset (s : State) (b : NoticeBody) (tag : Nat) :
    (s.raise b tag).inReset = s.inReset := by
  simp only [State.raise]; split <;> rfl
@[simp] theorem raise_pmm (s : State) (b : NoticeBody) (tag : Nat) :
    (s.raise b tag).pmm = s.pmm := by
  simp only [State.raise]; split <;> rfl
@[simp] theorem raise_scn (s : State) (b : NoticeBody) (tag : Nat) :
    (s.raise b tag).scn = s.scn := by
  simp only [State.raise]; split <;> rfl
@[simp] theorem raise_lcd (s : State) (b : NoticeBody) (tag : Nat) :
    (s.raise b tag).lcd = s.lcd := by
  simp only [State.raise]; split <;> rfl
@[simp] theorem raise_lines (s : State) (b : NoticeBody) (tag : Nat) :
    (s.raise b tag).lines = s.lines := by
  simp only [State.raise]; split <;> rfl
@[simp] theorem raise_station (s : State) (b : NoticeBody) (tag : Nat) :
    (s.raise b tag).station = s.station := by
  simp only [State.raise]; split <;> rfl
@[simp] theorem raise_callCounter (s : State) (b : NoticeBody) (tag : Nat) :
    (s.raise b tag).callCounter = s.callCounter := by
  simp only [State.raise]; split <;> rfl
@[simp] theorem raise_dsp (s : State) (b : NoticeBody) (tag : Nat) :
    (s.raise b tag).dsp = s.dsp := by
  simp only [State.raise]; split <;> rfl
@[simp] theorem raise_rtr (s : State) (b : NoticeBody) (tag : Nat) :
    (s.raise b tag).rtr = s.rtr := by
  simp only [State.raise]; split <;> rfl
@[simp] theorem raise_prt (s : State) (b : NoticeBody) (tag : Nat) :
    (s.raise b tag).prt = s.prt := by
  simp only [State.raise]; split <;> rfl
@[simp] theorem raise_chg (s : State) (b : NoticeBody) (tag : Nat) :
    (s.raise b tag).chg = s.chg := by
  simp only [State.raise]; split <;> rfl
@[simp] theorem raise_reports (s : State) (b : NoticeBody) (tag : Nat) :
    (s.raise b tag).reports = s.reports := by
  simp only [State.raise]; split <;> rfl
@[simp] theorem raise_freeIndex (s : State) (b : NoticeBody) (tag : Nat) :
    (s.raise b tag).freeIndex = s.freeIndex := by
  simp only [State.raise]; split <;> rfl

/-! ### Records read after a write -/

@[simp] theorem page_setPage_self (s : State) (p : Nat) (r : PageRec) (h : p < 256) : (s.setPage p r).page p = r := by
  simp [State.page, State.setPage, h]

@[simp] theorem page_setPage_ne (s : State) (p q : Nat) (r : PageRec) (h : p ≠ q) : (s.setPage p r).page q = s.page q := by
  simp [State.page, State.setPage, h]

@[simp] theorem page_setDoc (s : State) (d p : Nat) (r : DocRec) : (s.setDoc d r).page p = s.page p := rfl

@[simp] theorem doc_setDoc_self (s : State) (d : Nat) (r : DocRec) (h : d < 64) : (s.setDoc d r).doc d = r := by
  simp [State.doc, State.setDoc, h]

@[simp] theorem doc_setDoc_ne (s : State) (d e : Nat) (r : DocRec) (h : d ≠ e) : (s.setDoc d r).doc e = s.doc e := by
  simp [State.doc, State.setDoc, h]

@[simp] theorem doc_setPage (s : State) (d p : Nat) (r : PageRec) : (s.setPage p r).doc d = s.doc d := rfl

@[simp] theorem line_updLine_self (s : State) (n : LineNo) (f : Line → Line) : (s.updLine n f).line n = f (s.line n) := by
  simp [State.line, State.updLine]

@[simp] theorem line_updLine_ne (s : State) (n m : LineNo) (f : Line → Line) (h : n ≠ m) :
    (s.updLine n f).line m = s.line m := by
  have : n.val ≠ m.val := fun e => h (Fin.ext e)
  simp [State.line, State.updLine, this]

@[simp] theorem desk_updDesk_self (s : State) (d : Nat) (f : Desk → Desk) (h : d < 16) :
    (s.updDesk d f).desk d = f (s.desk d) := by
  simp [State.desk, State.updDesk, h]

@[simp] theorem desk_updDesk_ne (s : State) (d e : Nat) (f : Desk → Desk) (h : d ≠ e) :
    (s.updDesk d f).desk e = s.desk e := by
  simp [State.desk, State.updDesk, h]

@[simp] theorem job_setJob_self (s : State) (j : Nat) (r : Option Job) (h : j < 32) : (s.setJob j r).job j = r := by
  simp [State.job, State.setJob, h]

@[simp] theorem entry_setEntry_self (s : State) (e : Nat) (r : Option Entry) (h : e < 32) :
    (s.setEntry e r).entry e = r := by
  simp [State.entry, State.setEntry, h]

end Machine
end Sys2Proof
end

