-- ==== Sys2Proof/Laws/Holds.lean ====
section
/-!
SUPPORT. What lowering a hold does to a document's record (R14, R16), said once for the provers.
-/

namespace Sys2Proof.Machine

/-- A freed document's record is free (R16). -/
theorem freeDoc_doc (s : State) (d : Nat) (h : d < 64) : (s.freeDoc d).doc d = {} := by
  unfold State.freeDoc
  dsimp only
  split
  · exact doc_setDoc_self _ d {} h
  · exact doc_setDoc_self _ d {} h

/-- Where a document is freed by its holds alone, the free test finds it exactly when it is CLOSED and nothing holds it
(R16). -/
theorem freeable_of_holds (s : State) (d : Nat) (h : s.freedByHolds d) :
    s.freeable d = true ↔
      (s.doc d).state = .closed ∧ (s.doc d).boardHold = false ∧ (s.doc d).sendHold = 0 ∧ (s.doc d).printHold = 0 := by
  unfold State.freeable
  rcases h with h | ⟨p, hp, hr⟩
  · simp [h, and_assoc]
  · have : ((s.doc d).pages.any fun p => (s.page p).state.readable) = true := List.any_eq_true.2 ⟨p, hp, hr⟩
    simp [this, and_assoc]

/-- Changing a document's record without its origin and pages leaves what frees it (R16). -/
theorem freedByHolds_setDoc (s : State) (d : Nat) (r : DocRec) (hd : d < 64) (ho : r.origin = (s.doc d).origin)
    (hp : r.pages = (s.doc d).pages) (h : s.freedByHolds d) : (s.setDoc d r).freedByHolds d := by
  have page_eq (p : Nat) : (s.setDoc d r).page p = s.page p := rfl
  simpa only [State.freedByHolds, doc_setDoc_self s d r hd, page_eq, ho, hp] using h

/-- The print hold lowered (R14, R16): one less, or the record free where nothing else holds the CLOSED document. -/
theorem lowerPrintHold_doc (s : State) (d : Nat) (hd : d < 64) (h : s.freedByHolds d) :
    (s.lowerPrintHold d).doc d = (s.doc d).printHoldLowered := by
  have hf := freeable_of_holds _ d (freedByHolds_setDoc s d { s.doc d with printHold := (s.doc d).printHold - 1 } hd rfl rfl h)
  rw [doc_setDoc_self s d _ hd] at hf
  unfold State.lowerPrintHold State.freeTest DocRec.printHoldLowered
  split
  · rename_i c
    have := hf.1 c
    rw [freeDoc_doc _ d hd, if_pos ⟨this.1, this.2.1, this.2.2.1, by have := this.2.2.2; simp at this; omega⟩]
  · rename_i c
    rw [doc_setDoc_self s d _ hd, if_neg]
    exact fun k => c (hf.2 ⟨k.1, k.2.1, k.2.2.1, by have := k.2.2.2; show _ - 1 = 0; omega⟩)

/-- The send hold lowered (R14, R16): one less, or the record free where nothing else holds the CLOSED document. -/
theorem lowerSendHold_doc (s : State) (d : Nat) (hd : d < 64) (h : s.freedByHolds d) :
    (s.lowerSendHold d).doc d = (s.doc d).sendHoldLowered := by
  have hf := freeable_of_holds _ d (freedByHolds_setDoc s d { s.doc d with sendHold := (s.doc d).sendHold - 1 } hd rfl rfl h)
  rw [doc_setDoc_self s d _ hd] at hf
  unfold State.lowerSendHold State.freeTest DocRec.sendHoldLowered
  split
  · rename_i c
    have := hf.1 c
    rw [freeDoc_doc _ d hd, if_pos ⟨this.1, this.2.1, this.2.2.2, by have := this.2.2.1; simp at this; omega⟩]
  · rename_i c
    rw [doc_setDoc_self s d _ hd, if_neg]
    exact fun k => c (hf.2 ⟨k.1, k.2.1, by have := k.2.2.2; show _ - 1 = 0; omega, k.2.2.1⟩)

end Sys2Proof.Machine
end

