-- ==== Sys2Proof/Laws/Memory.lean ====
section
/-! SUPPORT. The page memory's canonical form and the laws of reading a byte after writing one. -/

namespace Sys2Proof.Machine

/-- Every address of a memory whose first address lies above `a` lies above `a`. -/
theorem Memory.wf_cons (x : Nat) (c : Byte) (m : Memory) :
    Memory.wf ((x, c) :: m) ↔ (∀ e ∈ m, x < e.1) ∧ c ≠ Memory.blank ∧ Memory.wf m := by
  simp [Memory.wf, List.pairwise_cons]
  tauto

/-- Every cell of a memory after a write is the cell written or one it held before. -/
theorem Memory.mem_write (m : Memory) (a : Nat) (b : Byte) (e : Host.Cell) (h : e ∈ m.write a b) :
    e = (a, b) ∧ b ≠ Memory.blank ∨ e ∈ m := by
  induction m with
  | nil =>
    unfold Memory.write at h
    split at h <;> simp_all
  | cons hd m ih =>
    obtain ⟨x, c⟩ := hd
    unfold Memory.write at h
    split at h
    · split at h <;> simp_all
    · split at h
      · split at h
        · simp_all
        · simp only [List.mem_cons] at h ⊢; tauto
      · simp only [List.mem_cons] at h ⊢
        rcases h with h | h
        · tauto
        · have := ih h; tauto

/-- A write keeps the canonical form. -/
theorem Memory.write_wf (m : Memory) (a : Nat) (b : Byte) (h : Memory.wf m) : Memory.wf (m.write a b) := by
  induction m with
  | nil =>
    unfold Memory.write
    split
    · exact h
    · rename_i hb; simp [Memory.wf, hb]
  | cons hd m ih =>
    obtain ⟨x, c⟩ := hd
    have ⟨h1, h2, h3⟩ := (Memory.wf_cons x c m).1 h
    unfold Memory.write
    split
    · rename_i hax
      split
      · exact h
      · rename_i hb
        rw [Memory.wf_cons]
        refine ⟨?_, hb, h⟩
        intro e he
        rcases List.mem_cons.1 he with rfl | he
        · exact hax
        · exact Nat.lt_trans hax (h1 e he)
    · split
      · rename_i hax heq
        split
        · exact h3
        · rename_i hb
          rw [Memory.wf_cons]
          exact ⟨fun e he => heq ▸ h1 e he, hb, h3⟩
      · rename_i hax hne
        rw [Memory.wf_cons]
        refine ⟨?_, h2, ih h3⟩
        intro e he
        rcases Memory.mem_write m a b e he with ⟨rfl, _⟩ | he
        · simp only; omega
        · exact h1 e he

/-- Below the first address nothing is stored. -/
theorem Memory.read_below (m : Memory) (a : Nat) (h : ∀ e ∈ m, a < e.1) : m.read a = Memory.blank := by
  induction m with
  | nil => rfl
  | cons hd m ih =>
    obtain ⟨x, c⟩ := hd
    have hx : a < x := h (x, c) (by simp)
    unfold Memory.read
    rw [if_neg (by omega)]
    exact ih fun e he => h e (by simp [he])

/-- A read after a write to the same address gives the byte written. -/
theorem Memory.read_write_self (m : Memory) (a : Nat) (b : Byte) (h : Memory.wf m) : (m.write a b).read a = b := by
  induction m with
  | nil =>
    unfold Memory.write
    split
    · rename_i hb; simp [Memory.read, hb]
    · simp [Memory.read]
  | cons hd m ih =>
    obtain ⟨x, c⟩ := hd
    have ⟨h1, h2, h3⟩ := (Memory.wf_cons x c m).1 h
    unfold Memory.write
    split
    · rename_i hax
      split
      · rename_i hb
        rw [Memory.read_below _ _ fun e he => by
          rcases List.mem_cons.1 he with rfl | he
          · exact hax
          · exact Nat.lt_trans hax (h1 e he)]
        exact hb.symm
      · simp [Memory.read]
    · split
      · rename_i hax heq
        split
        · rename_i hb
          rw [Memory.read_below _ _ fun e he => heq ▸ h1 e he]
          exact hb.symm
        · simp [Memory.read]
      · rename_i hax hne
        have hne' : ¬ x = a := fun e => hne e.symm
        simp only [Memory.read, if_neg hne']
        exact ih h3

/-- A write leaves every other address alone. -/
theorem Memory.read_write_ne (m : Memory) (a a' : Nat) (b : Byte) (h : Memory.wf m) (hne : a' ≠ a) :
    (m.write a b).read a' = m.read a' := by
  induction m with
  | nil =>
    unfold Memory.write
    split
    · rfl
    · simp [Memory.read, Ne.symm hne]
  | cons hd m ih =>
    obtain ⟨x, c⟩ := hd
    have ⟨h1, h2, h3⟩ := (Memory.wf_cons x c m).1 h
    unfold Memory.write
    split
    · split
      · rfl
      · simp [Memory.read, Ne.symm hne]
    · split
      · rename_i hax heq
        subst heq
        split
        · simp [Memory.read, Ne.symm hne]
        · simp [Memory.read, Ne.symm hne]
      · simp only [Memory.read]
        split
        · rfl
        · exact ih h3

/-- The memory after reset has the canonical form. -/
theorem reset_memory_wf : Memory.wf State.reset.pmm.mem := 
  ⟨List.Pairwise.nil, fun _ h => nomatch h⟩

/-- An append stores one byte at the page's next address, or no byte at all (R7); no other operation of the part writes
the page memory. -/
theorem append_memory (s : State) (r : PageRef) (b : Byte) (h : Memory.wf s.pmm.mem) :
    Memory.wf (s.append r b).1.pmm.mem := by
  have hraise : ∀ (s : State) (x : NoticeBody) (t : Nat), (s.raise x t).pmm = s.pmm := by
    intro s x t; simp only [State.raise]; split <;> rfl
  have hlow : ∀ s : State, s.lowCheck.pmm.mem = s.pmm.mem := by
    intro s; unfold State.lowCheck; split
    · rw [hraise]
    · rfl
  have hgrant : ∀ (s s' : State) (p : Nat), s.grant p = some s' → s'.pmm.mem = s.pmm.mem := by
    intro s s' p hg
    unfold State.grant at hg
    split at hg
    · split at hg
      · cases hg
      · cases hg; rw [hlow]; rfl
    · cases hg
  by_cases hc : (s.current r && (s.page r.page).state == .filling) = true
  · simp only [State.append, hc, if_true]
    split
    · exact h
    · rename_i s' hs
      have hm : s'.pmm.mem = s.pmm.mem := by
        split at hs
        · exact hgrant _ _ _ hs
        · cases hs; rfl
      exact Memory.write_wf _ _ _ (hm ▸ h)
  · simp only [State.append, hc, Bool.false_eq_true, if_false]
    exact h

end Sys2Proof.Machine
end

