-- ==== Sys2Proof/Tests/Slice0.lean ====
section
/-!
SUPPORT. Tests. The worked figures of the manual and its byte layouts; ill-formed commands that WellFormed refuses; single
steps; and for every statement with hypotheses, and for its clauses, a witness: a state and operands that meet all the
hypotheses together (`witness_<statement or claim>_<clause>`). Expected values come from the manual or by hand from it.
-/

namespace Sys2Proof.Tests
open Sys2Proof Sys2Proof.Machine

set_option Elab.async false

/-! ## Small states -/

/-- The part with START acknowledged and nothing being sent. -/
def quiet : State := { State.reset with bli := { unack := false } }

/-- The state after a step. -/
def afterStep (c : Instr) (s : State) : State :=
  match exec c s with
  | .next t => t
  | _ => s

/-- A code set of 8-bit words: the same for both colours, the mark word all ones. -/
def sampleSet (number : Nat) : CodeSet :=
  { number := number, mark := List.replicate 8 true
    whiteTerm := (List.range 32).map fun i => byteBits (BitVec.ofNat 8 i)
    whiteBulk := (List.range 64).map fun i => byteBits (BitVec.ofNat 8 (32 + i))
    blackTerm := (List.range 32).map fun i => byteBits (BitVec.ofNat 8 i)
    blackBulk := (List.range 64).map fun i => byteBits (BitVec.ofNat 8 (32 + i)) }

/-- Slot 0 loaded. -/
def loaded : State := { quiet with lcd := { quiet.lcd with slots := tset quiet.lcd.slots 0 (some (sampleSet 7)) } }

/-- One line as given, the others as after reset. -/
def onLine (n : LineNo) (l : Line) : State := quiet.updLine n fun _ => l

/-- One line in a call with a session. -/
def inSession (n : LineNo) (st : LineState) (x : Ctx) (y : Session) : State :=
  loaded.updLine n fun _ =>
    { enabled := true, state := st, hookClosed := true, ctx := some { x with sess := some y }, frameReply := some 60 }

/-- A document OPEN or CLOSED with one page. -/
def withPage (s : State) (d : Nat) (r : DocRec) (p : Nat) (g : PageRec) : State :=
  (s.setDoc d { r with pages := [p] }).setPage p g

/-- A COMPLETE page of one byte in document 5. -/
def onePage : State :=
  withPage loaded 5 { state := .closed, origin := .scan, boardHold := true } 9
    { state := .complete, document := some 5, index := 1, width := 256, lineCount := 1, byteCount := 1
      first := some 3, last := some 3, final := true }


/-- The part during a hard reset. -/
def resetting : State := { quiet with inReset := true }

/-- Two commands waiting. -/
def waiting : State := { quiet with pending := [.docHold 1 (.fields 3), .clockTick] }

/-- A charge record. -/
def sampleRecord : ChargeRecord :=
  { seq := 0, callId := 1, line := 0, dir := .out, desk := 0, pool := none, dialled := [], cls := none, tariffId := none
    start := {}, answer := none, duration := 0, steps := 0, pulses := 0, charge := 0, poolShare := 0, unrecovered := 0
    poolUnrecovered := 0, pages := 0, reason := .completed, jobTag := 0, dest := none, senderTag := [], clockUnset := false }

/-- A fetch whose one DATA block has been chosen. -/
def sampleFetch : Fetch := { tag := 4, page := { page := 9, gen := 0 }, blocks := 1, next := 1 }

/-- START being sent, a record and a fetch waiting behind it. -/
def crowded : State :=
  { State.reset with
    chg := { queue := [sampleRecord] }
    pmm := { State.reset.pmm with fetch := some { tag := 1, page := { page := 9, gen := 0 }, blocks := 1, next := 0 } } }

/-- A record being sent. -/
def recordGoing : State :=
  { quiet with chg := { queue := [sampleRecord] }, bli := { quiet.bli with sending := some (.record sampleRecord) } }

/-- The last DATA block of a fetch being sent. -/
def fetchEnding : State :=
  let s := onePage.setPage 9 { onePage.page 9 with fetches := 1 }
  { s with
    pmm := { s.pmm with fetch := some sampleFetch }
    bli := { s.bli with sending := some (.data 4 [0]) } }

/-- STREAM reports. -/
def streaming : State := { quiet with bli := { quiet.bli with mode := .stream, reportTimer := some 1 } }

/-- A fetch running on the page of `onePage`. -/
def fetching : State := { fetchEnding with bli := quiet.bli }

/-- A job of one destination in a given state. -/
def oneJob (d : Dest) : Job :=
  { tag := 1, seq := 1, document := 5, desk := 2, priority := 0, maxAttempts := 3, redial := 10, submitTime := 0
    dests := [d] }

/-- A job whose destination waits in a closed document's queue. -/
def queued (d : Dest) : State :=
  let s := onePage.setDoc 5 { onePage.doc 5 with sendHold := 1 }
  { s.setJob 31 (some (oneJob d)) with dsp := { (s.setJob 31 (some (oneJob d))).dsp with order := [31] } }

/-- A free-standing document number 63. -/
def docOnly (r : DocRec) : State := quiet.setDoc 63 r

/-- The words of the sample set as a load gives them. -/
def sampleLoad (slot number : Nat) : LoadCodeSetArgs :=
  let c := sampleSet number
  { slot := slot, number := number, count := 193
    entries := (c.mark :: (c.whiteTerm ++ c.whiteBulk ++ c.blackTerm ++ c.blackBulk)).map fun w =>
      { length := 8, bits := BitVec.ofNat 16 (256 * bitsValue w) } }

/-- The load with its last word the mark word. -/
def faultyLoad : LoadCodeSetArgs :=
  let a := sampleLoad 0 7
  { a with entries := a.entries.set 192 { length := 8, bits := 0xFF00 } }

/-- A code set in use. -/
def slotUsed : State := { loaded with pmm := { loaded.pmm with slotUse := tset loaded.pmm.slotUse 0 1 } }

/-- An OPEN board document. -/
def boardDoc : State := loaded.setDoc 63 { state := .opened, origin := .board, boardHold := true }

/-- The board page's document and density. -/
def boardRecord : BoardPage := { document := 63, density := .std }

/-- A board page in progress with `k` lines and some bytes. -/
def boardPage (k : Nat) : State :=
  let s := withPage loaded 63 { state := .opened, origin := .board, boardHold := true, filler := .lcd } 255
    { state := .filling, document := some 63, index := 1, source := .board, width := 256, coding := .diff 4 }
  { s with lcd := { s.lcd with
      mode := .board, board := some boardRecord
      job := some { ref := { page := 255, gen := 0 }, slot := 0, coding := .diff 4, width := 256, lineCount := k } } }

/-- The page being coded of `boardPage`. -/
def boardJob (k : Nat) : CoderPage :=
  { ref := { page := 255, gen := 0 }, slot := 0, coding := .diff 4, width := 256, lineCount := k }

/-- A calibration's working values after `k` lines. -/
def calibration (p : CalPass) (k : Nat) (dark : List Nat) : Calibration :=
  { pass := p, taken := k, sums := List.replicate 2048 (k * 200), dark := dark }

/-- A calibration pass after `k` lines. -/
def calibrating (p : CalPass) (k : Nat) (dark : List Nat) : State :=
  { quiet with scn := { quiet.scn with
      state := .calibrating, lineRequest := some 2048, lamp := p == .white
      cal := some (calibration p k dark) } }

/-- A line of equal samples. -/
def flat (v : Byte) : List Byte := List.replicate 2048 v

/-- A scan session. -/
def sampleSession : ScanSession :=
  { document := 0, desk := 2, copy := false, width := 256, density := .std, slot := 0, coding := .diff 4 }

/-- The scan unit in a session of document 0. -/
def scanning (st : ScanState) (x : ScanSession) : State :=
  let s := loaded.setDoc 0 { state := .opened, origin := .scan, boardHold := true, filler := .scn }
  { s with scn := { s.scn with state := st, session := some x }, lcd := { s.lcd with mode := .scan } }

/-- A sheet under the head, its page open. -/
def sheet : State :=
  let x := { sampleSession with page := some { page := 0, gen := 0 } }
  let s := scanning .scanning x
  let s := withPage s 0 (s.doc 0) 0 { state := .filling, document := some 0, index := 1, width := 256, coding := .diff 4 }
  { s with
    scn := { s.scn with edge := true, lineRequest := some 256, lamp := true, motor := .perLine }
    lcd := { s.lcd with job := some { ref := { page := 0, gen := 0 }, slot := 0, coding := .diff 4, width := 256 } } }

/-- A scan session that feeds its sheet under the jam timer. -/
def feedingSession : ScanSession := { sampleSession with feeding := true, jamTimer := some 5 }

/-- A scan session that waits for memory. -/
def starvedSession : ScanSession := { sampleSession with memWait := some 60 }

/-- The session of `sheet`. -/
def sheetSession : ScanSession := { sampleSession with page := some { page := 0, gen := 0 } }

/-- A sheet already under the head. -/
def edged : State := { quiet with scn := { quiet.scn with edge := true } }

/-- A SCAN_CONFIG whose values lie at and beyond the limits of R27. -/
def sampleScanConfig : ScanConfigArgs :=
  { clockDivider := 0, target := 255, band := 1, weakLimit := 0, nDark := 32, nWhite := 4, beta := 9, thr := 0, hys := 255
    speckMin := 5, scanWait := 601 }

/-! ## Lines and calls -/

/-- A LINE_CONFIG of line 3, its ring_count and ring_on_min out of range. -/
def sampleLineConfig (line stopBits : Nat) : LineConfigArgs :=
  { line := line, enableIn := true, enableOut := false, ringCount := 0, ringOnMin := 1001, ringGapMax := 2, metering := 1
    pulseOnMin := 10, pulseCp := 65535, maxStep := 5, accessPrefix := [0x39], dialToneWait := 1, answerWait := 900
    frameReply := 20, releaseGuard := 10, parity := 2, stopBits := stopBits, bitOrder := 1, rateDivider := 208 }

/-- A tariff of 3 cp and 2 cp a step. -/
def sampleTariff : Tariff := { setupCp := 3, stepCp := 2, stepDs := [50, 60, 70, 80], minSteps := 1 }

/-- An outbound call of desk 2 without a session. -/
def sampleCtx : Ctx :=
  { callId := 4, desk := some 2, job := some (31, 0), tariff := some sampleTariff, dial := [0x30, 0x50, 0x57]
    reservation := true, page := some 1, attempt := some 1 }

/-- Desk 2 with a balance and a margin of 1. -/
def funded (s : State) (b : Int) : State := s.updDesk 2 fun d => { d with balance := b, opening := b, margin := 1 }

/-- Line 0 in a call of desk 2, which has 10 cp. -/
def calling (l : Line) : State :=
  funded (onLine 0 { l with enabled := true, ctx := some sampleCtx, hookClosed := true }) 10

/-- An answered call whose second step falls due at 5 s. -/
def stepCtx : Ctx := { sampleCtx with nextDue := some 50, elapsed := 50, steps := 1, elapsedOn := true }

/-- The line of `stepCtx`, its desk with a balance. -/
def stepping (b : Int) : State := funded (onLine 0 { enabled := true, state := .negotiating, ctx := some stepCtx }) b

/-- A pulse call of desk 2. -/
def pulseCtx : Ctx := { sampleCtx with metering := .pulse }

/-- Line 3 in a pulse call with a pulse being qualified. -/
def pulseCall (b : Int) : State :=
  funded (onLine 3 { enabled := true, state := .negotiating, ctx := some pulseCtx, meterInput := true
                     meterQual := some 40 }) b

/-- A ringing record of one burst. -/
def oneBurst : RingRecord := { time := {}, bursts := 1, reason := none, unset := true }

/-- Line 3 of a state ringing, its second burst being qualified. -/
def ringing (s : State) : State :=
  s.updLine 3 fun _ =>
    { enabled := true, state := .ringing, ringInput := true, ringQual := some 200, ringGap := some 8, ringing := some oneBurst }

/-- Line 3 idle, its ring input active. -/
def rung : State := onLine 3 { enabled := true, state := .idle, ringInput := true, ringQual := some 200 }

/-- Every charge record place reserved. -/
def noPlace : State := { ringing loaded with chg := { loaded.chg with reservations := 64 } }

/-- 31 free segments. -/
def noMemory : State := { ringing loaded with pmm := { loaded.pmm with freeList := List.range 31 } }

/-- No code set loaded. -/
def codeless : State := ringing quiet

/-- Line 3 ringing with enable_in clear. -/
def notEnabled : State := (ringing loaded).updLine 3 fun l => { l with config := { l.config with enableIn := false } }

/-- Line 0 dialling, with the rest of its dial string. -/
def dialling (d : Text) (l : Line) : State := calling { l with state := .dialing, dial := d }

/-- Line 0 SEIZED, its loop found or not yet. -/
def seized (found : Bool) : State :=
  calling { state := .seized, loopTimer := some 300, loopFound := found, dialToneWait := some 30 }

/-- Line 0 ANSWERING. -/
def answering : State := calling { state := .answering, loopTimer := some 300 }

/-- Line 0 in AWAIT_ANSWER. -/
def awaiting : State := calling { state := .awaitAnswer, answerWait := some 600 }

/-- Line 0 dialling while the link carries a digit. -/
def carrying (d : Text) : State := dialling d { dialWait := some .carried, tx := [.dialDigit 0x30] }

/-- Line 0 dialling in a pause. -/
def pausing (d : Text) : State := dialling d { pause := some 20 }

/-- Line 0 with a meter pulse being qualified as its call is released. -/
def lastPulse : State := calling { state := .releasing, meterInput := true, meterQual := some 40 }

/-- Line 3 idle. -/
def idleLine : State := onLine 3 { enabled := true, state := .idle }

/-- An answered call released as completed. -/
def endedCtx : Ctx := { sampleCtx with reason := some .completed, answer := some {}, releaseTime := some {} }

/-- Line 1 in its release guard. -/
def guarding (enabled : Bool) : State :=
  onLine 1 { state := .releasing, enabled := enabled, releaseGuard := some 20, ctx := some endedCtx }

/-! ## Sessions -/

/-- A destination in a call on line 0. -/
def inCallDest : Dest := { dial := [0x30], state := .inCall, line := some 0 }

/-- A call context with its session. -/
def withSess (x : Ctx) (y : Session) : Ctx := { x with sess := some y }

/-- A caller's session in a stage. -/
def caller (st : Stage) : Session := { role := .caller, stage := st, step := 3 }

/-- A callee's session in a stage. -/
def callee (st : Stage) (y : Session) : Session := { y with role := .callee, stage := st }

/-- Line 0 as caller for the job of `queued`. -/
def callerLine (l : LineState) (x : Ctx) (y : Session) : State :=
  { inSession 0 l x y with dsp := (queued inCallDest).dsp, pmm := (queued inCallDest).pmm }

/-- Line 3 as callee. -/
def calleeLine (l : LineState) (x : Ctx) (y : Session) : State := inSession 3 l x y

/-- An inbound call. -/
def inCtx : Ctx := { callId := 4, dir := .inbound, reservation := true }

/-- An inbound call that has negotiated two pages, in a page's attempt. -/
def pageCtx (page attempt : Option Nat) : Ctx :=
  { inCtx with page := page, attempt := attempt, params := { pages := 2, width := 256, coding := .diff 4, step := 3 } }

/-- A send phase. -/
def sendPhase (ready : Bool) : DataPhase := { dir := .send, step := 3, ready := ready }

/-- The caller's line in a send phase, a character on the link, the codec at byte `pos` of the page. -/
def sendingLine (pos : Nat) : State :=
  (callerLine .sending sampleCtx (caller .sendingData)).updLine 0 fun l =>
    { l with
      phase := some (sendPhase true), tx := [.data 7]
      codec := { work := .pass, page := some { page := 9, gen := 0 }, pos := pos } }

/-- The same with the link free and the pace interval running. -/
def pacedLine (pos : Nat) : State := (sendingLine pos).updLine 0 fun l => { l with tx := [], pace := some 8 }

/-- The caller in training after a number of failures. -/
def trainingCaller (k : Nat) : Session := { caller .training with trainFails := k }

/-- The caller's line in training. -/
def trainingLine (k : Nat) : State :=
  (callerLine .sending sampleCtx (trainingCaller k)).updLine 0 fun l =>
    { l with
      phase := some (sendPhase false), codec := { work := .pass, page := some { page := 9, gen := 0 } } }

/-- Page record 255 as its writer names it. -/
def writtenPage : PageRef := { page := 255, gen := 0 }

/-- Page record 9 as its readers name it. -/
def readPage : PageRef := { page := 9, gen := 0 }

/-- A callee that receives page record 255. -/
def pageCallee (st : Stage) : Session := callee st { page := some writtenPage, headSince := true }

/-- The page record being received. -/
def receivedPage (st : PageState) : PageRec :=
  { state := st, document := some 63, index := 1, source := .received, width := 256, coding := .diff 4, byteCount := 1
    first := some 3, last := some 3, final := st == .damaged }

/-- The reception record of line 3. -/
def sampleReception : Reception :=
  { callId := 4, document := 63, rule := none, desk := 0, pool := none, priority := 2, copies := 0, hold := false
    entry := none, queueFull := false }

/-- Line 3 receiving page record 255 in a stage and an attempt. -/
def receiving (stage : Stage) (attempt : Nat) (st : PageState) (ph : Option DataPhase) : State :=
  let s := withPage (calleeLine .receiving (pageCtx (some 1) (some attempt)) (pageCallee stage)) 63
    { state := .opened, origin := .received, filler := .lch 3 } 255 (receivedPage st)
  { s.updLine 3 fun l => { l with phase := ph, codec := { (Codec.bound 0).verifying with found := 1 } } with
    rtr := { reception := tset s.rtr.reception 3 (some sampleReception) } }

/-- A receive phase. -/
def receivePhase (ready : Bool) : DataPhase := { dir := .receive, step := 3, ready := ready }

/-- A frame body. -/
def frameBody (b : List Byte) (m : Bool) : FrameBody := { bytes := b, marked := m }

/-- Line 3 taking a page's data. -/
def takingData : State := receiving .receivingData 1 .filling (some (receivePhase true))

/-- Line 3 in training. -/
def takingTraining : State := receiving .training 1 .filling (some (receivePhase false))

/-- The caller's line with a frame body. -/
def framing (b : List Byte) (m : Bool) (st : Stage) : State :=
  (callerLine .negotiating sampleCtx (caller st)).updLine 0 fun l => { l with frame := some (frameBody b m) }

/-- An OFFER. -/
def sampleOffer (receive : Bool) (pages : Nat) (codes : List Nat) : OfferFields :=
  { tag := [0x41], codes := codes, diff := true, std := true, fine := true, receiveOk := receive, maxWidth := 2048
    maxStep := 4, maxPages := pages }

/-- A CHOOSE. -/
def sampleChoose (code : Nat) : ChooseFields :=
  { tag := [0x42], code := code, coding := 4, width := 256, density := 0, step := 3, pages := 2 }

/-- A callee that has sent its OFFER. -/
def offered (receive : Bool) : Session := callee .offered { offered := some (sampleOffer receive 64 [7]) }

/-- Its line. -/
def offeredLine (receive : Bool) : State := calleeLine .negotiating inCtx (offered receive)

/-- A routing rule for all tags that begin with B on line 3. -/
def sampleRule (copies : Nat) : RouteRule :=
  { tagPrefix := [0x42], mask := 8, desk := 15, priority := 1, copies := copies, hold := true }

/-- The offered line with that rule loaded. -/
def routedLine : State := { offeredLine true with rtr := { table := [sampleRule 0] } }

/-- A callee that has accepted. -/
def accepted : Session := callee .waitHead { storedReply := some .accept }

/-- Its line, the call's document OPEN and empty. -/
def acceptedLine : State :=
  let s := (calleeLine .receiving (pageCtx none none) accepted).setDoc 63
    { state := .opened, origin := .received, filler := .lch 3 }
  { s.updLine 3 fun l => { l with codec := Codec.bound 0 } with
    rtr := { reception := tset s.rtr.reception 3 (some sampleReception) } }

/-- The sample call with the closing flag set. -/
def closingCtx : Ctx := { sampleCtx with closing := true }

/-- A caller with a transmission reader on page 9. -/
def reading (st : Stage) : Session := { caller st with reader := some readPage }

/-- A call at a page of so many, in an attempt. -/
def ackCtx (page attempt pages : Nat) (closing : Bool) : Ctx :=
  { sampleCtx with page := some page, attempt := some attempt, params := { pages := pages }, closing := closing }

/-- Line 0 sending, its reader acquired. -/
def readingLine (x : Ctx) (st : Stage) (ph : Option DataPhase) : State :=
  let s := callerLine .sending x (reading st)
  (s.setPage 9 { s.page 9 with transmissions := 1 }).updLine 0 fun l => { l with phase := ph }

/-- A caller that has sent END, with its close cause. -/
def closer (c : CloseCause) : Session := { caller .waitEndAck with closeCause := some c }

/-- A request sent `k` times. -/
def sampleRequest (k : Nat) : Request := { frame := .endCall 0, sent := k }

/-- A caller whose request has gone out `k` times. -/
def requesting (st : Stage) (k : Nat) : Session := { caller st with request := some (sampleRequest k) }

/-- A caller whose END has gone out three times. -/
def ended : Session := { closer .lastPage with request := some (sampleRequest 3) }

/-- A caller's watch after one expiry. -/
def watching : Session := { caller .waitOffer with expiries := 1 }

/-- A callee's watch after two expiries. -/
def watched : Session := callee .waitHead { expiries := 2 }

/-- A callee that lingers after its memory ran out. -/
def lingering : Session := callee .linger { memExhausted := true, storedReply := some (.decline 0) }

/-! ## Jobs, tables, printing and desks -/

/-- A JOB_SUBMIT of two destinations, its tuning values out of range. -/
def sampleSubmit (doc : Nat) : JobSubmitArgs :=
  { jobTag := 9, document := doc, desk := 15, priority := 3, maxAttempts := 0, redial := 3601
    destinations := [[0x30], [0x31, 0x57, 0x32]] }

/-- A job with a destination in a call and others that wait or are done. -/
def mixedJob : Job :=
  { oneJob inCallDest with
    dests := [{ dial := [0x30] }, inCallDest, { dial := [0x31], state := .waitRetry, due := some 4, timer := true },
              { dial := [0x31], state := .done, last := some .completed }] }

/-- The part with that job. -/
def mixed : State :=
  ((queued inCallDest).setJob 31 (some mixedJob)).updLine 0 fun l =>
    { l with enabled := true, state := .seized, ctx := some { sampleCtx with job := some (31, 1) } }

/-- A destination whose due timer runs. -/
def dueDest (due : Nat) : Dest := { dial := [0x30], state := .waitRetry, due := some due, timer := true }

/-- A destination whose due timer has stopped. -/
def idleDest : Dest := { dueDest 0 with timer := false }

/-- A rule for numbers that begin with 0. -/
def sampleDialRule : DialRule := { digits := [0x30], cls := .national, tariff := 15, strip := 0, prepend := [] }

/-- A due destination, its number known and permitted, its desk funded, and line 3 idle. -/
def dispatchable : State :=
  let s := queued (dueDest 0)
  (funded { s with chg := { s.chg with
      plan := [sampleDialRule], tariffs := tset s.chg.tariffs 15 (some sampleTariff)
      desks := tset s.chg.desks 2 { classes := { national := true } } } } 10).updLine 3 fun _ =>
    { enabled := true, state := .idle }

/-- What its number is classified as. -/
def samplePass : Pass := { cls := .national, tariffId := 15, tariff := sampleTariff, dial := [0x30], pool := none }

/-- A tariff entry with step durations at and beyond the limits. -/
def sampleTariffEntry (id : Nat) : TariffArgs :=
  { id := id, setupCp := 0, stepCp := 65535, stepDs0 := 0, stepDs1 := 65535, stepDs2 := 5, stepDs3 := 10, minSteps := 0 }

/-- A STATION_CONFIG at and beyond its limits. -/
def sampleStation : StationConfigArgs := { tag := List.replicate 20 0x7E, keepRatio := 64, maxConsec := 255, k := 0 }

/-- A CODER_CONFIG, its refresh out of range. -/
def sampleCoder : CoderConfigArgs := { slot := 1, coding := 0, k := 9 }

/-- A LOAD_TARIFFS of two entries. -/
def sampleTariffs : LoadTariffsArgs := { count := 2, entries := [sampleTariffEntry 15, sampleTariffEntry 0] }

/-- A dial plan rule at its limits. -/
def sampleDialArgs (tariff : Nat) : DialRuleArgs :=
  { digits := [0x30], cls := 4, tariff := tariff, strip := 8, prepend := [0x39] }

/-- A LOAD_DIAL_PLAN. -/
def samplePlan (rules : List DialRuleArgs) : LoadDialPlanArgs := { count := rules.length, rules := rules }

/-- A LOAD_ROUTES. -/
def sampleRoutes : LoadRoutesArgs := { count := 1, rules := [sampleRule 4] }

/-- A board entry of document 63. -/
def sampleEntry : Entry :=
  { seq := 0, source := .board, document := 63, priority := 3, copies := 2, remaining := 2, state := .blocked
    finalCount := none }

/-- The print queue with that entry. -/
def oneEntry : State :=
  let s := boardDoc.setDoc 63 { boardDoc.doc 63 with printHold := 1 }
  { s with prt := { entries := tset s.prt.entries 31 (some sampleEntry), order := [31], counter := 1 } }

/-- The entry of document 5 being printed. -/
def printEntry : Entry := { sampleEntry with document := 5, state := .printing }

/-- Its page of two lines, `d` decoded and `t` taken. -/
def printPage (d t : Nat) (a b : Option PixelLine) (reader : Bool) : PrintPage :=
  { document := 5, index := 1, ref := { page := 9, gen := 0 }, headWidth := 1728, total := 2, decoded := d, taken := t
    slotA := a, slotB := b, reader := reader }

/-- The engine at that page. -/
def printing (p : PrintPage) (ph : PrintPhase) : State :=
  let s := onePage.setPage 9 { onePage.page 9 with prints := 1 }
  let s := s.setDoc 5 { s.doc 5 with printHold := 1 }
  { s with prt := { entries := tset s.prt.entries 31 (some printEntry), order := [31], counter := 1, engine := .printing
                    phase := ph, current := some 31, page := some p, ready := true } }

/-- The engine HELD without paper. -/
def paperOut : State := { quiet with prt := { engine := .held, paper := false } }

/-- The engine in a cut without an entry. -/
def lastCut : State := { quiet with prt := { engine := .printing, phase := .cut, cutRequest := true } }

/-- The entry of document 5 WAITING, the engine at rest. -/
def printReady : State :=
  { onePage with prt := { entries := tset onePage.prt.entries 31 (some { printEntry with state := .waiting })
                          order := [31], counter := 1 } }

/-! ## States of the clauses at their boundaries -/

/-- The free list of a state, as given. -/
def withFree (s : State) (l : List Nat) : State := { s with pmm := { s.pmm with freeList := l } }

/-- A board page with its first byte to come and so many free segments. -/
def lowMemory (k : Nat) : State := withFree (boardPage 0) (List.range k)

/-- The board page whose line is held, 64 segments being free. -/
def heldBoard : State := afterStep (.docLines 1 (List.replicate 32 0x81)) (lowMemory 64)

/-- The line held by a state's line coder. -/
def heldOf (s : State) : HeldLine := s.lcd.held.getD { bytes := [], tail := [], line := none }

/-- A board page of one line with one byte stored and three bits pending. -/
def padding : State :=
  let s := boardPage 1
  let s := s.setPage 255 { s.page 255 with byteCount := 1, first := some 3, last := some 3 }
  { s with lcd := { s.lcd with bits := [true, false, true] } }

/-- The sheet with 64 free segments: its page's first byte finds none. -/
def starvedSheet : State := withFree sheet (List.range' 100 64)

/-- The line of a sheet of equal samples. -/
def sheetLine : List Byte := List.replicate 256 100

/-- The scan unit paused for memory at that line, a CLOSED document of one segment standing. -/
def pausedSheet : State :=
  withPage (afterStep (.scanLineTaken sheetLine) starvedSheet) 5 { state := .closed, origin := .scan, boardHold := true } 9
    { state := .complete, document := some 5, index := 1, width := 256, lineCount := 1, byteCount := 1
      first := some 3, last := some 3, final := true }

/-- Its session. -/
def pausedSession : ScanSession := pausedSheet.scn.session.getD sheetSession

/-- The page being coded of `sheet`. -/
def sheetJob : CoderPage := { ref := { page := 0, gen := 0 }, slot := 0, coding := .diff 4, width := 256 }

/-- Desk 2 a member at one half of the pool 3, both with a margin of 1. -/
def pooled (s : State) (b c : Int) : State :=
  ((funded s b).updDesk 2 fun d => { d with kind := .member, pool := some 3, weight := 2048 }).updDesk 3
    fun d => { d with kind := .pool, balance := c, opening := c, margin := 1 }

/-- The sample call charged to both. -/
def pooledCtx : Ctx := { sampleCtx with pool := some 3 }

/-- The same in a pulse call. -/
def pooledPulseCtx : Ctx := { pooledCtx with metering := .pulse }

/-- Line 0 in AWAIT_ANSWER for that call. -/
def pooledAwaiting : State :=
  pooled (onLine 0 { enabled := true, state := .awaitAnswer, answerWait := some 600, ctx := some pooledCtx }) 10 10

/-- A pulse of that call being qualified. -/
def pooledPulse (b c : Int) : State :=
  pooled (onLine 3 { enabled := true, state := .negotiating, ctx := some pooledPulseCtx
                     meterInput := true, meterQual := some 40 }) b c

/-- A step of that call due. -/
def pooledStepCtx : Ctx := { stepCtx with pool := some 3 }

/-- Its line. -/
def pooledStep (b c : Int) : State :=
  pooled (onLine 0 { enabled := true, state := .negotiating, ctx := some pooledStepCtx }) b c

/-- A boundary one count before its time. -/
def earlyCtx : Ctx := { stepCtx with elapsed := 49 }

/-- Line 3 ringing until its third burst. -/
def patient : State := (ringing loaded).updLine 3 fun l => { l with config := { l.config with ringCount := 3 } }

/-- A ringing record of two bursts. -/
def twoBursts : RingRecord := { oneBurst with bursts := 2 }

/-- Line 3 answering at the first burst, being qualified in IDLE. -/
def firstRing : State :=
  loaded.updLine 3 fun l =>
    { l with enabled := true, state := .idle, ringInput := true, ringQual := some 200
             config := { l.config with ringCount := 1 } }

/-- Line 0 SEIZED with a dial tone heard before its loop check. -/
def toneHeard : State := (seized false).updLine 0 fun l => { l with toneSeen := true }

/-- A training begun anew by the bound's expiry, its DATA_START not yet carried. -/
def renewedLine : State :=
  (trainingLine 1).updLine 0 fun l => { l with renewed := true, tx := [.dataStart 2 .send] }

/-- Line 3 taking a page's data at a segment's end. -/
def segmentFull (free : List Nat) : State :=
  withFree (takingData.setPage 255 { receivedPage .filling with byteCount := 1024 }) free

/-- A callee that has declined. -/
def refusing : Session :=
  callee .declined { declined := some .unsupported, storedReply := some (.decline (DeclineReason.unsupported).code) }

/-- Two pages in document 5. -/
def twoPages (s : State) : State :=
  let s := s.setDoc 5 { s.doc 5 with pages := [9, 10] }
  s.setPage 10 { onePage.page 9 with index := 2, density := .fine }

/-- A routing rule that covers no line. -/
def maskless : RouteRule := { sampleRule 0 with mask := 0 }

/-- A LOAD_ROUTES whose second rule it is. -/
def faultyRoutes : LoadRoutesArgs := { count := 2, rules := [sampleRule 0, maskless] }

/-- The dispatchable part with one dial plan rule. -/
def planned (r : DialRule) : State := { dispatchable with chg := { dispatchable.chg with plan := [r] } }

/-- An engine without paper, an entry waiting. -/
def heldReady : State := { printReady with prt := { printReady.prt with engine := .held, paper := false } }

/-- A cut in document 5's entry, its second page to come. -/
def cutting : State :=
  let s := twoPages (printing (printPage 2 2 none none false) .cut)
  s.setPage 9 { s.page 9 with prints := 0 }

/-- The entry that goes on at its second page. -/
def nextEntry : Entry := { printEntry with printed := 1, next := 2 }

/-- A more urgent entry of the same document. -/
def urgentEntry : Entry := { sampleEntry with document := 5, priority := 1, state := .waiting }

/-- The cut with that entry waiting behind. -/
def yielding : State :=
  { cutting with prt := { cutting.prt with
      entries := tset cutting.prt.entries 30 (some urgentEntry), order := [31, 30] } }

/-- The loaded slot is not the one CODER_CONFIG names. -/
def sideSlot : State := { loaded with lcd := { loaded.lcd with config := { slot := 1, diff := true, k := 4 } } }

/-- A calibration running with a sheet under the head. -/
def sheetInCalibration : State :=
  let s := calibrating .dark 0 []
  { s with scn := { s.scn with edge := true } }

/-- A page as its reader named it before the generation now in force. -/
def stalePage : PageRef := { page := 9, gen := 1 }

/-- The sample rule for numbers that begin with 1. -/
def otherRule : DialRule := { sampleDialRule with digits := [0x31] }

/-- The sample rule, its class BLOCKED. -/
def blockedRule : DialRule := { sampleDialRule with cls := .blocked }

/-- The sample rule with a tariff that is empty. -/
def untariffedRule : DialRule := { sampleDialRule with tariff := 0 }

/-- The sample rule with a strip. -/
def stripRule (k : Nat) : DialRule := { sampleDialRule with strip := k }

/-- The dispatchable part, its desk permitted no class. -/
def unpermitted : State := dispatchable.updDesk 2 fun d => { d with classes := {} }

/-- A STATION_CONFIG with a character that is not printable. -/
def faultyStation : StationConfigArgs := { sampleStation with tag := [0x7F] }

/-- A CODER_CONFIG whose coding is none. -/
def faultyCoder : CoderConfigArgs := { sampleCoder with coding := 2 }

/-- A LOAD_TARIFFS of entries with the ids given. -/
def tariffsOf (ids : List Nat) : LoadTariffsArgs := { count := ids.length, entries := ids.map sampleTariffEntry }

/-- A LOAD_ROUTES whose count is above its limit. -/
def longRoutes : LoadRoutesArgs := { sampleRoutes with count := 33 }

/-- A LOAD_DIAL_PLAN whose count is not the rules it brings. -/
def shortPlan : LoadDialPlanArgs := { count := 0, rules := [sampleDialArgs 15] }

/-- A DESK_SET of a desk's kind, pool, weight and margin. -/
def deskArgs (desk kind pool weight margin : Nat) : DeskSetArgs :=
  { desk := desk, kind := kind, pool := pool, weight := weight, classes := 15, margin := margin }

/-- The member desk with a call active. -/
def busyDesk : State := (pooled quiet 10 10).updDesk 2 fun d => { d with active := 1 }

/-- The entry of document 5 as it waits. -/
def waitingEntry : Entry := { printEntry with state := .waiting }

/-- Line 0 in a call with a boundary one count before its time. -/
def earlyLine : State := onLine 0 { enabled := true, state := .negotiating, ctx := some earlyCtx }

/-! ## Ends of pages, calls, jobs and entries -/

/-- The sheet at its page's end: sensors, the document's pages and the lines counted as given. -/
def sheetEnd (edge tray : Bool) (pages : List Nat) (lines : Nat) : State :=
  let s := sheet.setDoc 0 { sheet.doc 0 with pages := pages }
  { s with scn := { s.scn with edge := edge, tray := tray, session := some { sheetSession with lineCount := lines } } }

/-- Its session. -/
def sheetEndSession (lines : Nat) : ScanSession := { sheetSession with lineCount := lines }

/-- A last line of that sheet, every other page record in use. -/
def sheetCrowded : State :=
  let s := sheetEnd false true [0] 5
  { s with pmm := { s.pmm with pages := (s.pmm.pages.map fun _ => { state := .complete }).set 0 (s.page 0) } }

/-- A last line that fills its segment whole, no other being granted. -/
def sheetUnpadded : State :=
  let s := sheetEnd false false [0] 5
  withFree (s.setPage 0 { s.page 0 with byteCount := 1020, first := some 3, last := some 3 }) []

/-- Line 3 in a page's data, its page empty. -/
def takingNothing : State := takingData.setPage 255 { receivedPage .filling with byteCount := 0, first := none, last := none }

/-- Line 3 between pages, the first one kept, its document held and its route's entry waiting for the close. -/
def betweenPages : State :=
  let s := withPage acceptedLine 63 { state := .opened, origin := .received, filler := .lch 3, boardHold := true, printHold := 1 }
    255 { receivedPage .complete with final := true }
  { s with
    rtr := { reception := tset s.rtr.reception 3 (some { sampleReception with copies := 2, entry := some 31 }) }
    prt := { s.prt with entries := tset s.prt.entries 31 (some { sampleEntry with state := .printing }), order := [31]
                        engine := .held } }

/-- The reception of that call. -/
def printedReception : Reception := { sampleReception with copies := 2, entry := some 31 }

/-- The offered line, its route printing or all entries in use. -/
def printRoute (full : Bool) : State :=
  let s := offeredLine true
  { s with
    rtr := { table := [sampleRule 3] }
    prt := { s.prt with entries := if full then Vector.replicate 32 (some sampleEntry) else s.prt.entries } }

/-- The offered line with every page record in use. -/
def noPageRecord : State :=
  let s := offeredLine true
  { s with pmm := { s.pmm with pages := Vector.replicate 256 { state := .complete } } }

/-- The offered line with every document record in use. -/
def noDocRecord : State :=
  let s := offeredLine true
  { s with pmm := { s.pmm with docs := Vector.replicate 64 { state := .closed, boardHold := true } } }

/-- A line in the call of job 31's destination 0. -/
def outbound (l : Line) (x : Ctx) (j : Job) : State :=
  ((queued inCallDest).setJob 31 (some j)).updLine 0 fun _ => { l with enabled := true, ctx := some x, hookClosed := true }

/-- The line waiting for the answer. -/
def ringingOut : Line := { state := .awaitAnswer, answerWait := some 600 }

/-- The line in a session. -/
def closingLine : Line := { state := .closing, frameReply := some 60 }

/-- The line SEIZED. -/
def seizedOut : Line := { state := .seized, loopTimer := some 300, dialToneWait := some 30 }

/-- The sample call with so many pages confirmed and its session closing for a cause. -/
def confirmedCtx (k : Nat) (c : CloseCause) : Ctx := withSess { sampleCtx with confirmed := k } (closer c)

/-- A state whose document 5 the board controller does not hold. -/
def unheld (s : State) : State := s.setDoc 5 { s.doc 5 with boardHold := false }

/-- A destination that has failed twice. -/
def twiceFailed : Dest := { inCallDest with attempts := 2 }

/-- A destination that waits for funds. -/
def brokeDest : Dest := { dial := [0x30], state := .waitFunds, last := some .noFunds }

/-- That destination of the desk and the plan of `dispatchable`, no line in service, the desk or its pool short. -/
def broke (b : Int) : State :=
  let s := (queued brokeDest)
  pooled { s with chg := { s.chg with plan := [sampleDialRule], tariffs := tset s.chg.tariffs 15 (some sampleTariff) } } b 0

/-- A job for document 63, OPEN and empty. -/
def emptyJob : Job := { oneJob idleDest with document := 63, dests := [idleDest, { dial := [0x31], state := .failed }] }

/-- The part with that job. -/
def emptyDoc : State :=
  let s := boardDoc.setDoc 63 { boardDoc.doc 63 with sendHold := 1 }
  { s.setJob 31 (some emptyJob) with dsp := { (s.setJob 31 (some emptyJob)).dsp with order := [31] } }

/-- The entry of document 5 at its last page, with so many copies to go. -/
def lastPageEntry (k : Nat) : Entry := { printEntry with finalCount := some 1, remaining := k }

/-- Its next copy's beginning. -/
def nextCopy : Entry := { lastPageEntry 1 with printed := 1 }

/-- The cut of that page, paper present or absent. -/
def lastPageCut (k : Nat) (paper : Bool) : State :=
  { cutting with prt := { cutting.prt with
      entries := tset cutting.prt.entries 31 (some (lastPageEntry k)), paper := paper } }

/-- A cut without paper, the second page final or not there. -/
def paperless (s : State) : State := { s with prt := { s.prt with paper := false } }

/-- A page of document 63 whose entry has the number of the next page and the copies to go as given. -/
def closable (st : EntryState) (next remaining : Nat) : State :=
  let s := withPage loaded 63 { state := .opened, origin := .board, printHold := 1 } 9
    { state := .complete, document := some 63, index := 1, final := true }
  { s with prt := { s.prt with
      entries := tset s.prt.entries 31 (some { sampleEntry with state := st, next := next, remaining := remaining })
      order := [31], engine := .held } }

/-- Its entry. -/
def closableEntry (st : EntryState) (next remaining : Nat) : Entry :=
  { sampleEntry with state := st, next := next, remaining := remaining }

/-- The board page of one line with an entry BLOCKED on page `k` of its document. -/
def blockedOn (k : Nat) : State :=
  { boardPage 1 with prt := { entries := tset (boardPage 1).prt.entries 31 (some { sampleEntry with next := k })
                              order := [31], engine := .held } }

/-- A cancelled job whose destination is in a call. -/
def cancelledJob : Job := { oneJob inCallDest with cancel := true }

/-- The sample entry BLOCKED on page 2. -/
def secondEntry : Entry := { sampleEntry with next := 2 }

/-! ## Worked figures of the manual -/

/-- Section 2.3, worked figures of a calibration: gains, expected white and the weak test of columns 40, 700, 1500. -/
theorem test_calibration_figures :
    [(202, 12), (255, 0), (50, 10), (28, 30)].map (fun x => workingGain 220 x.1 x.2) = [296, 221, 1023, 1023] ∧
    expectedWhite 202 12 296 = 220 ∧ expectedWhite 50 10 1023 = 160 ∧
    weakColumn {} 202 12 = false ∧ weakColumn {} 50 10 = true := by decide +kernel

/-- Section 2.4, worked figures of a threshold: column 100's corrected value and the line before and after the filter. -/
theorem test_threshold_figures :
    corrected 12 300 180 = 197 ∧
    classifyLine {} false ([197, 150, 140, 150, 160, 140, 200, 198].map fun v => (51200, v)) =
      [false, false, true, true, false, true, false, false] ∧
    speckFilter 2 [false, false, true, true, false, true, false, false] =
      [false, false, true, true, false, false, false, false] := by decide +kernel

/-- Section 9.3, the example of R172: prefix 00, strip 2, prepend 9 on 00P4420W7946. -/
theorem test_dial_transformation :
    transformDial { digits := [0x30, 0x30], cls := .intl, tariff := 3, strip := 2, prepend := [0x39] }
      [0x30, 0x30, 0x50, 0x34, 0x34, 0x32, 0x30, 0x57, 0x37, 0x39, 0x34, 0x36] =
      some [0x39, 0x50, 0x34, 0x34, 0x32, 0x30, 0x57, 0x37, 0x39, 0x34, 0x36] := by decide +kernel

/-- Section 9.6: the pool's shares of 54, 42 and 12 cp at weight 2048. -/
theorem test_pool_shares : share 2048 54 = 27 ∧ share 2048 42 = 21 ∧ share 2048 12 = 6 := by decide +kernel

/-- The member desk and the pool of section 9.6 at the answer. -/
def newsDesks : State :=
  let t : Tariff := { setupCp := 30, stepCp := 12, stepDs := [300, 450, 0, 0], minSteps := 2 }
  let s := onLine 2 { enabled := true, state := .awaitAnswer, answerWait := some 600
                      ctx := some { desk := some 6, pool := some 1, tariff := some t } }
  (s.updDesk 6 fun d => { d with kind := .member, pool := some 1, weight := 2048, balance := 100, margin := 20 }).updDesk 1
    fun d => { d with kind := .pool, balance := 1000 }

/-- Section 9.6: the answer charges 42 cp to FOREIGN and 21 cp to NEWS and times the next step 300 ds later. -/
theorem test_answer_charge :
    ((afterStep (.farAnswer 2) newsDesks).desk 6).balance = 58 ∧
    ((afterStep (.farAnswer 2) newsDesks).desk 1).balance = 979 ∧
    ((afterStep (.farAnswer 2) newsDesks).ctx 2).nextDue = some 300 := by decide +kernel

/-- The words that section 3.7 gives of its set. -/
def exampleSet : CodeSet :=
  let pick (n i : Nat) (w : List Nat) (r : Nat) : List Bits :=
    (List.range n).map fun k => if k = i then w.map (· == 1) else if k = r then [true] else []
  { number := 1, mark := [0, 0, 0, 0, 0, 0, 0, 0, 0, 0, 0, 1].map (· == 1)
    whiteTerm := (pick 32 4 [1, 0, 1, 1] 99).set 28 ([0, 0, 1, 1, 0, 0, 1, 1].map (· == 1))
    whiteBulk := (pick 64 2 [1, 1, 0, 1, 1] 99).set 3 ([1, 0, 0, 1, 0].map (· == 1))
    blackTerm := (pick 32 0 [0, 0, 0, 0, 1, 1, 0, 1, 1, 1] 99).set 4 ([0, 1, 1].map (· == 1))
    blackBulk := pick 64 0 [0, 0, 0, 0, 0, 1, 1, 1, 1] 99 }

/-- Section 3.7: line 0 takes 54 bits, of which 6 stay pending. -/
theorem test_coded_line_length :
    (exampleSet.codeLine (.diff 4) 0 (whiteLine 256)
      (whiteLine 100 ++ List.replicate 32 true ++ whiteLine 124)).length = 54 ∧
    (packComplete (exampleSet.codeLine (.diff 4) 0 (whiteLine 256)
      (whiteLine 100 ++ List.replicate 32 true ++ whiteLine 124))).2.length = 6 := by decide +kernel

/-! ## Bytes and characters -/

/-- The table gives its rows no bits. -/
theorem test_no_table_words : decodeTableWord 8 0 = none ∧ quiet.withFetchWord 8 0 = quiet :=
  ⟨rfl, rfl⟩

/-- R183, R193: DOC_HOLD of document 5 with tag 7 as bytes, with its check and with a wrong one. -/
theorem test_link_bytes :
    decodeLink {} [0x00, 0xA5, 1, 7, 0, 2, 1, 5, 0x21, 0x90] = ({}, [.docHold 7 (.fields 5)]) ∧
    decodeLink {} [0x00, 0xA5, 1, 7, 0, 2, 1, 5, 0x21, 0x91] = ({}, [.badBlock 7]) := by decide +kernel

/-- R76, R193: pump control 10 is FAR_ANSWER unless it comes in error; a character without the control bit is data. -/
theorem test_pump_characters :
    decodePump 2 0x1A0 false = some (.farAnswer 2) ∧ decodePump 2 0x1A0 true = none ∧
    decodePump 2 0x041 true = some (.dataCharacterReceived 2 0x41 true) := by decide +kernel

/-! ## Ill-formed commands -/

/-- Every check of a block's tag refuses 256. -/
theorem test_wf_refuses_tags :
    ([.softReset 256 .malformed, .badBlock 256, .unknownCommand 256 none, .docHold 256 .malformed,
      .docFetch 256 .malformed, .calibrate 256 .malformed, .scanStart 256 .malformed, .scanConfig 256 .malformed,
      .loadCodeSet 256 .malformed, .boardPageBegin 256 .malformed, .boardPageEnd 256 .malformed,
      .coderConfig 256 .malformed, .docLines 256 [], .lineConfig 256 .malformed, .lineControl 256 .malformed,
      .stationConfig 256 .malformed, .jobSubmit 256 .malformed, .jobCancel 256 .malformed, .loadRoutes 256 .malformed,
      .printDoc 256 .malformed, .printCancel 256 .malformed, .printConfig 256 .malformed, .deskSet 256 .malformed,
      .deskCredit 256 .malformed, .deskPeriodClose 256 .malformed, .loadDialPlan 256 .malformed,
      .loadTariffs 256 .malformed, .loadBands 256 .malformed, .setClock 256 .malformed, .noticeMask 256 .malformed,
      .reportMode 256 .malformed, .statusQuery 256 .malformed, .startAck 256 .malformed] : List Instr).all
      (fun c => !c.wf) = true := by decide +kernel

/-- Every check of a command's own fields refuses a term that no body can bring. -/
theorem test_wf_refuses_fields :
    ([.blockLengthDiscard 0 0 0x10 0x00, .unknownCommand 1 (some 35), .unknownCommand 1 (some 256),
      .docHold 1 (.fields 256), .docFetch 1 (.fields ⟨5, 256⟩), .scanStart 1 (.fields ⟨0, 0, 65536, 0, false, false, 0, 0⟩),
      .scanConfig 1 (.fields { sampleScanConfig with nDark := 5 }), .loadCodeSet 1 (.fields ⟨0, 0, 1, []⟩),
      .loadCodeSet 1 (.fields ⟨0, 0, 1, [⟨256, 0⟩]⟩), .boardPageBegin 1 (.fields ⟨0, 0, 256⟩),
      .coderConfig 1 (.fields ⟨256, 0, 0⟩), .docLines 1 (List.replicate 4097 0), .lineConfig 1 (.fields (sampleLineConfig 256 1)),
      .lineControl 1 (.fields ⟨0, 256⟩), .stationConfig 1 (.fields ⟨List.replicate 256 0x41, 0, 0, 1⟩),
      .jobSubmit 1 (.fields { sampleSubmit 5 with destinations := [List.replicate 256 0x30] }), .jobQuery 1 (.fields 256),
      .loadRoutes 1 (.fields ⟨2, [sampleRule 0]⟩), .loadRoutes 1 (.fields ⟨1, [sampleRule 256]⟩),
      .printDoc 1 (.fields ⟨0, 256, 0⟩), .printCancel 1 (.fields 256), .printConfig 1 (.fields 65536),
      .deskSet 1 (.fields ⟨0, 0, 0, 65536, 0, 0⟩), .deskCredit 1 (.fields ⟨0, 2147483648⟩),
      .deskPeriodClose 1 (.fields ⟨0, 4294967296⟩), .loadDialPlan 1 (.fields ⟨0, [sampleDialArgs 0]⟩),
      .loadDialPlan 1 (.fields ⟨1, [sampleDialArgs 256]⟩), .loadTariffs 1 (.fields ⟨1, []⟩),
      .loadTariffs 1 (.fields ⟨1, [sampleTariffEntry 256]⟩), .loadBands 1 (.fields [256]),
      .setClock 1 (.fields ⟨0, 16777216⟩), .noticeMask 1 (.fields 65536), .reportMode 1 (.fields ⟨256, 0⟩),
      .calLineTaken (List.replicate 2049 0), .scanLineTaken (List.replicate 2049 0)] : List Instr).all
      (fun c => !c.wf) = true := by decide +kernel

/-- Every check of a frame refuses a term that no frame body can bring. -/
theorem test_wf_refuses_frames :
    ([.offer 0 (sampleOffer true 256 []), .offer 0 (sampleOffer true 1 (List.replicate 60 1)),
      .choose 0 (sampleChoose 65536), .choose 0 { sampleChoose 1 with tag := List.replicate 119 0x41 }, .decline 0 256,
      .pageHead 0 256 0 0, .pageTail 0 65536 0 0, .pageAck 0 0 256 0, .endFrame 0 256] : List Instr).all
      (fun c => !c.wf) = true := by decide +kernel

/-- Commands at the limits of their fields are well formed. -/
theorem test_wf_accepts :
    ([.blockLengthDiscard 0 0 0x10 0x01, .unknownCommand 255 (some 36), .docHold 255 (.fields 255),
      .scanConfig 1 (.fields sampleScanConfig), .loadCodeSet 1 (.fields (sampleLoad 1 65535)),
      .lineConfig 1 (.fields (sampleLineConfig 255 255)), .deskCredit 1 (.fields ⟨255, -2147483648⟩),
      .offer 3 (sampleOffer true 255 [65535]), .choose 3 (sampleChoose 65535), .docLines 1 (List.replicate 4096 0)] :
      List Instr).all Instr.wf = true := by decide +kernel

/-! ## Steps -/

/-- R92: LINE_CONTROL with the action ENABLE puts a line in service. -/
theorem test_enable_line :
    ((afterStep (.lineControl 1 (.fields ⟨3, 0⟩)) quiet).line 3).state = .idle := by decide +kernel

/-- R62: an abandoned board page frees its record. -/
theorem test_abandoned_page :
    ((afterStep (.boardPageEnd 1 (.fields true)) (boardPage 1)).page 255).state = .free := by decide +kernel

/-- R22: a fetch of a one-byte page is answered first and its one DATA block follows. -/
theorem test_fetch_reply :
    (afterStep (.docFetch 4 (.fields ⟨5, 1⟩)) onePage).bli.sending =
      some (.reply ⟨4, 4, .ok, false, 0, .fetch 1 1 .complete 0xFFFF⟩) := by decide +kernel

/-- R192: outside the reset's own rows and the pins nothing is heeded during a hard reset. -/
theorem test_reset_holds : exec .clockTick resetting = .next resetting := rfl

/-- A step takes the oldest command. -/
theorem test_step_takes_oldest :
    (match Machine.step waiting with
     | .next t => t.pending
     | _ => []) = [.clockTick] := by decide +kernel

/-- With nothing waiting the part idles (log entry 6). -/
theorem test_idle_step : Machine.step quiet = .next quiet := rfl

/-! ## Witnesses of the statements' hypotheses -/

theorem witness_StepTakesFrontCommand :
  waiting.pending = [Instr.docHold 1 (Args.fields 3), Instr.clockTick] := by
  decide +kernel

theorem witness_IdleStepChangesNothing :
  quiet.pending = [] := by
  decide +kernel

theorem witness_NothingElseIsHeededInReset :
  resetting.inReset = true ∧ heededInReset Instr.clockTick = false := by
  decide +kernel

theorem witness_ResetPinHoldsThePart :
  resetting.inReset = true := by
  decide +kernel

theorem witness_SoftResetKeepsTablesAndDropsWork :
  (boardPage 1).inReset = false := by
  decide +kernel

theorem witness_LineCoderAtResets_soft :
  (boardPage 1).inReset = false := by
  decide +kernel

theorem witness_LineCoderAtResets_idle :
  onePage.inReset = false ∧ onePage.lcd.mode = CoderMode.idle := by
  decide +kernel

theorem witness_BlocksParseToThemselves :
  255 < 256 ∧ (List.replicate 4096 165).length ≤ 4096 := by
  decide +kernel

theorem witness_BadAndUnknownBlocksAreAnswered :
  quiet.inReset = false := by
  decide +kernel

theorem witness_LongBlocksAreDiscarded :
  quiet.inReset = false ∧ 4096 < 256 * (0x10#8).toNat + (0x01#8).toNat := by
  decide +kernel

theorem witness_NextBlockIsChosenBySource :
  crowded.inReset = false ∧ crowded.bli.sending = some (UpBlock.notice (startNotice StartCause.power 0 { })) ∧
  (match UpBlock.notice (startNotice StartCause.power 0 {}) with | .record _ | .data _ _ => False | _ => True) := by
  decide +kernel

theorem witness_SentRecordLeavesItsQueue :
  recordGoing.inReset = false ∧ recordGoing.bli.sending = some (UpBlock.record sampleRecord) ∧
  recordGoing.chg.queue = [sampleRecord] ∧ recordGoing.dsp.order = [] := by
  decide +kernel

theorem witness_LastDataBlockEndsTheFetch :
  fetchEnding.inReset = false ∧ fetchEnding.bli.sending = some (UpBlock.data 4 [0]) ∧
  fetchEnding.pmm.fetch = some sampleFetch ∧ sampleFetch.blocks ≤ sampleFetch.next ∧
  fetchEnding.current sampleFetch.page = true ∧ sampleFetch.page.page < 256 ∧
  (fetchEnding.page sampleFetch.page.page).document.isSome = true ∧
  0 < (fetchEnding.page sampleFetch.page.page).fetches := by
  decide +kernel

theorem witness_ReportTimerRefreshesStatus :
  streaming.inReset = false ∧ Option.isSome streaming.bli.reportTimer = true := by
  decide +kernel

theorem witness_MaskAndModeAreReplaced_mask :
  quiet.inReset = false ∧ 4095 < 4096 := by
  decide +kernel

theorem witness_MaskAndModeAreReplaced_mode :
  quiet.inReset = false ∧ 2 ≤ 2 := by
  decide +kernel

theorem witness_StartAckClearsTheFlag :
  State.reset.inReset = false := by
  decide +kernel

theorem witness_QueriesAnswerWhatStands_document :
  boardDoc.inReset = false ∧ 63 < 64 ∧ (boardDoc.doc 63).state ≠ DocState.free := by
  decide +kernel

theorem witness_QueriesAnswerWhatStands_job :
  mixed.inReset = false ∧ 31 < 32 ∧ mixed.job 31 = some mixedJob := by
  decide +kernel

theorem witness_DocumentFieldsAreChecked_range :
  quiet.inReset = false ∧
  (64 ≤ 64 ∧ 64 ≠ 255 ∧ ResultCode.badField = ResultCode.badField ∨ 64 < 64 ∧ (quiet.doc 64).state = DocState.free
    ∧ ResultCode.badField = ResultCode.notFound) := by
  decide +kernel

theorem witness_DocumentFieldsAreChecked_free :
  quiet.inReset = false ∧
  (64 ≤ 63 ∧ 63 ≠ 255 ∧ ResultCode.notFound = ResultCode.badField ∨ 63 < 64 ∧ (quiet.doc 63).state = DocState.free
    ∧ ResultCode.notFound = ResultCode.notFound) := by
  decide +kernel

theorem witness_BoardHoldIsSetAndCleared_open :
  boardDoc.inReset = false ∧ 63 < 64 ∧ (boardDoc.doc 63).state ≠ DocState.free ∧
  ((boardDoc.doc 63).state = DocState.opened ∨ (boardDoc.doc 63).origin ≠ Origin.received ∧ (0 < (boardDoc.doc
    63).sendHold ∨ 0 < (boardDoc.doc 63).printHold)) := by
  decide +kernel

theorem witness_BoardHoldIsSetAndCleared_held :
  (docOnly { state := DocState.closed, boardHold := true, sendHold := 1 }).inReset = false ∧ 63 < 64 ∧
  ((docOnly { state := DocState.closed, boardHold := true, sendHold := 1 }).doc 63).state ≠ DocState.free ∧
  (((docOnly { state := DocState.closed, boardHold := true, sendHold := 1 }).doc 63).state = DocState.opened ∨
    ((docOnly { state := DocState.closed, boardHold := true, sendHold := 1 }).doc 63).origin ≠ Origin.received ∧ (0
    < ((docOnly { state := DocState.closed, boardHold := true, sendHold := 1 }).doc 63).sendHold ∨ 0 < ((docOnly
    { state := DocState.closed, boardHold := true, sendHold := 1 }).doc 63).printHold)) := by
  decide +kernel

theorem witness_DocCloseClosesOrRefuses_closes :
  boardDoc.inReset = false ∧ 63 < 64 ∧ (boardDoc.doc 63).state ≠ DocState.free ∧
  (boardDoc.doc 63).state = DocState.opened ∧ (boardDoc.doc 63).filler = Filler.none ∧
  (boardDoc.doc 63).origin ≠ Origin.received ∧ (boardDoc.doc 63).boardHold = true ∧ (boardDoc.doc 63).sendHold = 0 ∧
  (boardDoc.doc 63).printHold = 0 := by
  decide +kernel

theorem witness_DocCloseClosesOrRefuses_closed :
  onePage.inReset = false ∧ 5 < 64 ∧ (onePage.doc 5).state ≠ DocState.free ∧
  ((onePage.doc 5).state = DocState.closed ∨ (onePage.doc 5).filler ≠ Filler.none) := by
  decide +kernel

theorem witness_DocCloseClosesOrRefuses_filled :
  (boardPage 1).inReset = false ∧ 63 < 64 ∧ ((boardPage 1).doc 63).state ≠ DocState.free ∧
  (((boardPage 1).doc 63).state = DocState.closed ∨ ((boardPage 1).doc 63).filler ≠ Filler.none) := by
  decide +kernel

theorem witness_UnheldDocumentIsFreed_release :
  fetching.inReset = false ∧ 5 < 64 ∧ fetching.pmm.pendingScan = none ∧ (fetching.doc 5).sendHold = 0 ∧
  (fetching.doc 5).printHold = 0 ∧ (fetching.doc 5).pages.Nodup ∧
  (Instr.docRelease 1 (Args.fields 5) = Instr.docClose 1 (Args.fields 5) ∧ 2 = 3 ∧ (fetching.doc 5).state =
    DocState.opened ∧ (fetching.doc 5).filler = Filler.none ∧ (fetching.doc 5).boardHold = false ∨ Instr.docRelease
    1 (Args.fields 5) = Instr.docRelease 1 (Args.fields 5) ∧ 2 = 2 ∧ (fetching.doc 5).state = DocState.closed) := by
  decide +kernel

theorem witness_UnheldDocumentIsFreed_close :
  (docOnly { state := DocState.opened }).inReset = false ∧ 63 < 64 ∧
  (docOnly { state := DocState.opened }).pmm.pendingScan = none ∧
  ((docOnly { state := DocState.opened }).doc 63).sendHold = 0 ∧
  ((docOnly { state := DocState.opened }).doc 63).printHold = 0 ∧
  ((docOnly { state := DocState.opened }).doc 63).pages.Nodup ∧
  (Instr.docClose 1 (Args.fields 63) = Instr.docClose 1 (Args.fields 63) ∧ 3 = 3 ∧ ((docOnly
    { state := DocState.opened }).doc 63).state = DocState.opened ∧ ((docOnly { state := DocState.opened }).doc
    63).filler = Filler.none ∧ ((docOnly { state := DocState.opened }).doc 63).boardHold = false ∨ Instr.docClose 1
    (Args.fields 63) = Instr.docRelease 1 (Args.fields 63) ∧ 3 = 2 ∧ ((docOnly { state := DocState.opened }).doc
    63).state = DocState.closed) := by
  decide +kernel

theorem witness_DocFetchStartsOneFetch_idle :
  onePage.inReset = false ∧ 5 < 64 ∧ (onePage.doc 5).state ≠ DocState.free ∧ 1 ≤ 1 ∧ 1 ≤ 64 ∧
  (onePage.doc 5).pages[1 - 1]? = some 9 ∧
  ((onePage.page 9).state = PageState.complete ∨ (onePage.page 9).state = PageState.damaged) ∧
  onePage.pmm.fetch = none ∧ (onePage.page 9).document.isSome = true ∧ (onePage.page 9).fetches = 0 := by
  decide +kernel

theorem witness_DocFetchStartsOneFetch_busy :
  fetching.inReset = false ∧ 5 < 64 ∧ (fetching.doc 5).state ≠ DocState.free ∧ 1 ≤ 1 ∧ 1 ≤ 64 ∧
  (fetching.doc 5).pages[1 - 1]? = some 9 ∧
  ((fetching.page 9).state = PageState.complete ∨ (fetching.page 9).state = PageState.damaged) ∧
  fetching.pmm.fetch ≠ none := by
  decide +kernel

theorem witness_LoadCodeSetInstallsOrRefuses_installs :
  quiet.inReset = false ∧ (sampleLoad 1 7).slot ≤ 1 ∧ (sampleLoad 1 7).count = 193 ∧
  (sampleLoad 1 7).entries.length = 193 ∧ (∀ e ∈ (sampleLoad 1 7).entries, 1 ≤ e.length ∧ e.length ≤ 16) ∧
  (¬∃ o, quiet.codeSet (1 - (sampleLoad 1 7).slot) = some o ∧ o.number = (sampleLoad 1 7).number) ∧
  ((codeSetOf (sampleLoad 1 7).number (List.map (fun e => entryWord e.length e.bits) (sampleLoad 1
    7).entries)).prefixFree = true) ∧
  tget quiet.pmm.slotUse (sampleLoad 1 7).slot 0 = 0 ∧ quiet.codecBound (sampleLoad 1 7).slot = false := by
  decide +kernel

theorem witness_LoadCodeSetInstallsOrRefuses_other :
  loaded.inReset = false ∧ (sampleLoad 1 7).slot ≤ 1 ∧ (sampleLoad 1 7).count = 193 ∧
  (sampleLoad 1 7).entries.length = 193 ∧ (∀ e ∈ (sampleLoad 1 7).entries, 1 ≤ e.length ∧ e.length ≤ 16) ∧
  (∃ o, loaded.codeSet (1 - (sampleLoad 1 7).slot) = some o ∧ o.number = (sampleLoad 1 7).number) := by
  decide +kernel

theorem witness_LoadCodeSetInstallsOrRefuses_faulty :
  quiet.inReset = false ∧ faultyLoad.slot ≤ 1 ∧ faultyLoad.count = 193 ∧ faultyLoad.entries.length = 193 ∧
  (∀ e ∈ faultyLoad.entries, 1 ≤ e.length ∧ e.length ≤ 16) ∧
  (¬∃ o, quiet.codeSet (1 - faultyLoad.slot) = some o ∧ o.number = faultyLoad.number) ∧
  ((codeSetOf faultyLoad.number (List.map (fun e => entryWord e.length e.bits) faultyLoad.entries)).prefixFree =
    false) := by
  decide +kernel

theorem witness_LoadCodeSetInstallsOrRefuses_inUse :
  slotUsed.inReset = false ∧ (sampleLoad 0 9).slot ≤ 1 ∧ (sampleLoad 0 9).count = 193 ∧
  (sampleLoad 0 9).entries.length = 193 ∧ (∀ e ∈ (sampleLoad 0 9).entries, 1 ≤ e.length ∧ e.length ≤ 16) ∧
  (¬∃ o, slotUsed.codeSet (1 - (sampleLoad 0 9).slot) = some o ∧ o.number = (sampleLoad 0 9).number) ∧
  ((codeSetOf (sampleLoad 0 9).number (List.map (fun e => entryWord e.length e.bits) (sampleLoad 0
    9).entries)).prefixFree = true) ∧
  (0 < tget slotUsed.pmm.slotUse (sampleLoad 0 9).slot 0 ∨ slotUsed.codecBound (sampleLoad 0 9).slot = true) := by
  decide +kernel

theorem witness_BoardPageIsOpened :
  boardDoc.inReset = false ∧ 63 < 64 ∧ widthOk 256 = true ∧ boardDoc.lcd.mode = CoderMode.idle ∧
  (boardDoc.codeSet boardDoc.lcd.config.slot).isSome = true ∧ (boardDoc.doc 63).state = DocState.opened ∧
  (boardDoc.doc 63).origin = Origin.board ∧ (boardDoc.doc 63).filler = Filler.none ∧
  (boardDoc.doc 63).pages.length < 64 ∧ (∀ q ∈ (boardDoc.doc 63).pages, (boardDoc.page q).state ≠ PageState.filling) ∧
  boardDoc.freePageRecord = some 0 := by
  decide +kernel

theorem witness_BoardLinesAreCoded_refused :
  (boardPage 2200).inReset = false ∧ (boardPage 2200).reports = [] ∧ (boardPage 2200).bli.rx = { } ∧
  (boardPage 2200).lcd.mode = CoderMode.board ∧ (boardPage 2200).lcd.job = some (boardJob 2200) ∧
  (boardPage 2200).lcd.board = some boardRecord ∧ (boardPage 2200).lcd.held = none ∧
  widthOk (boardJob 2200).width = true ∧
  ((List.replicate 32 129).length % ((boardJob 2200).width / 8) ≠ 0 ∨ List.replicate 32 129 ≠ [] ∧
    boardRecord.density.maxLines < (boardJob 2200).lineCount + (List.replicate 32 129).length / ((boardJob
    2200).width / 8)) := by
  decide +kernel

theorem witness_BoardLinesAreCoded_taken :
  (boardPage 2199).inReset = false ∧ (boardPage 2199).reports = [] ∧ (boardPage 2199).bli.rx = { } ∧
  (boardPage 2199).lcd.mode = CoderMode.board ∧ (boardPage 2199).lcd.job = some (boardJob 2199) ∧
  (boardPage 2199).lcd.board = some boardRecord ∧ (boardPage 2199).lcd.held = none ∧
  widthOk (boardJob 2199).width = true ∧ (List.replicate 32 129).length % ((boardJob 2199).width / 8) = 0 ∧
  ((boardJob 2199).lineCount + (List.replicate 32 129).length / ((boardJob 2199).width / 8) ≤
    boardRecord.density.maxLines) ∧
  ((boardPage 2199).codeSet (boardJob 2199).slot).isSome = true ∧
  ((takeLines (bodyLines (boardJob 2199).width ((List.replicate 32 129).length / ((boardJob 2199).width / 8))
    (List.replicate 32 129)) (boardPage 2199)).2.2 = true) := by
  decide +kernel

theorem witness_BoardPageIsEnded_end :
  (boardPage 1).inReset = false ∧ (boardPage 1).lcd.mode = CoderMode.board ∧
  (boardPage 1).lcd.job = some (boardJob 1) ∧ (boardPage 1).lcd.board = some boardRecord ∧
  (boardPage 1).lcd.held = none ∧ (boardPage 1).pmm.pendingScan = none ∧ (boardPage 1).prt.order = [] ∧
  (boardPage 1).current (boardJob 1).ref = true ∧
  ((boardPage 1).page (boardJob 1).ref.page).state = PageState.filling ∧
  ((boardPage 1).page (boardJob 1).ref.page).document = some boardRecord.document ∧ boardRecord.document < 64 ∧
  (boardJob 1).ref.page < 256 ∧ 0 < (boardJob 1).lineCount ∧ (boardPage 1).lcd.bits = [] := by
  decide +kernel

theorem witness_BoardPageIsEnded_empty :
  (boardPage 0).inReset = false ∧ (boardPage 0).lcd.mode = CoderMode.board ∧
  (boardPage 0).lcd.job = some (boardJob 0) ∧ (boardPage 0).lcd.board = some boardRecord ∧
  (boardPage 0).lcd.held = none ∧ (boardPage 0).pmm.pendingScan = none ∧ (boardPage 0).prt.order = [] ∧
  (boardPage 0).current (boardJob 0).ref = true ∧
  ((boardPage 0).page (boardJob 0).ref.page).state = PageState.filling ∧
  ((boardPage 0).page (boardJob 0).ref.page).document = some boardRecord.document ∧ boardRecord.document < 64 ∧
  (boardJob 0).ref.page < 256 ∧ (boardJob 0).lineCount = 0 := by
  decide +kernel

theorem witness_ScanConfigIsLoadedInIdle_idle :
  quiet.inReset = false ∧ quiet.scn.state = ScanState.idle ∧ sampleScanConfig.nDark ∈ [4, 8, 16, 32] ∧
  sampleScanConfig.nWhite ∈ [4, 8, 16, 32] ∧ sampleScanConfig.band ≤ 1 := by
  decide +kernel

theorem witness_ScanConfigIsLoadedInIdle_busy :
  (calibrating CalPass.dark 0 []).inReset = false ∧ (calibrating CalPass.dark 0 []).scn.state ≠ ScanState.idle := by
  decide +kernel

theorem witness_CalibrateBeginsTheDarkPass_idle :
  quiet.inReset = false ∧ quiet.scn.state = ScanState.idle ∧ quiet.scn.edge = false := by
  decide +kernel

theorem witness_CalibrateBeginsTheDarkPass_sheet :
  edged.inReset = false ∧ edged.scn.state = ScanState.idle ∧ edged.scn.edge = true := by
  decide +kernel

theorem witness_CalibrateBeginsTheDarkPass_busy :
  (calibrating CalPass.dark 0 []).inReset = false ∧ (calibrating CalPass.dark 0 []).scn.state ≠ ScanState.idle := by
  decide +kernel

theorem witness_CalibrationLinesAreSummed_line :
  (calibrating CalPass.white 14 (List.replicate 2048 7)).inReset = false ∧
  (calibrating CalPass.white 14 (List.replicate 2048 7)).scn.state = ScanState.calibrating ∧
  ((calibrating CalPass.white 14 (List.replicate 2048 7)).scn.cal = some (calibration CalPass.white 14
    (List.replicate 2048 7))) ∧
  (calibrating CalPass.white 14 (List.replicate 2048 7)).scn.lineRequest = some 2048 ∧ (flat 200).length = 2048 ∧
  (calibration CalPass.white 14 (List.replicate 2048 7)).sums.length = 2048 ∧
  ((calibration CalPass.white 14 (List.replicate 2048 7)).pass = CalPass.dark ∧ (calibration CalPass.white 14
    (List.replicate 2048 7)).taken + 1 < (calibrating CalPass.white 14 (List.replicate 2048 7)).scn.config.nDark ∨
    (calibration CalPass.white 14 (List.replicate 2048 7)).pass = CalPass.white ∧ (calibration CalPass.white 14
    (List.replicate 2048 7)).taken + 1 < (calibrating CalPass.white 14 (List.replicate 2048 7)).scn.config.nWhite) := by
  decide +kernel

theorem witness_CalibrationLinesAreSummed_last :
  (calibrating CalPass.dark 7 []).inReset = false ∧
  (calibrating CalPass.dark 7 []).scn.state = ScanState.calibrating ∧
  (calibrating CalPass.dark 7 []).scn.cal = some (calibration CalPass.dark 7 []) ∧
  (calibrating CalPass.dark 7 []).scn.lineRequest = some 2048 ∧ (flat 7).length = 2048 ∧
  (calibration CalPass.dark 7 []).sums.length = 2048 ∧ (calibration CalPass.dark 7 []).pass = CalPass.dark ∧
  (calibrating CalPass.dark 7 []).scn.config.nDark ≤ (calibration CalPass.dark 7 []).taken + 1 := by
  decide +kernel

theorem witness_CalibrationConcludes :
  (calibrating CalPass.white 15 (List.replicate 2048 7)).inReset = false ∧
  (calibrating CalPass.white 15 (List.replicate 2048 7)).scn.state = ScanState.calibrating ∧
  (calibrating CalPass.white 15 (List.replicate 2048 7)).scn.session = none ∧
  ((calibrating CalPass.white 15 (List.replicate 2048 7)).scn.cal = some (calibration CalPass.white 15
    (List.replicate 2048 7))) ∧
  (calibration CalPass.white 15 (List.replicate 2048 7)).pass = CalPass.white ∧
  (calibrating CalPass.white 15 (List.replicate 2048 7)).scn.lineRequest = some 2048 ∧ (flat 200).length = 2048 ∧
  ((calibrating CalPass.white 15 (List.replicate 2048 7)).scn.config.nWhite ≤ (calibration CalPass.white 15
    (List.replicate 2048 7)).taken + 1) := by
  decide +kernel

theorem witness_ScanStartWaitsForPaper :
  loaded.inReset = false ∧ 15 < 16 ∧ widthOk 2048 = true ∧ loaded.scn.state = ScanState.idle ∧
  loaded.lcd.board = none ∧ (loaded.codeSet loaded.lcd.config.slot).isSome = true ∧ loaded.freeDocRecord = some 0 ∧
  loaded.freePageRecord = some 0 ∧ loaded.scn.tray = false ∧ loaded.scn.edge = false := by
  decide +kernel

theorem witness_SensorsFeedTheSheet_tray :
  (scanning ScanState.waitPaper sampleSession).inReset = false ∧
  (scanning ScanState.waitPaper sampleSession).scn.state = ScanState.waitPaper ∧
  (scanning ScanState.waitPaper sampleSession).scn.session = some sampleSession ∧ sampleSession.feeding = false ∧
  (scanning ScanState.waitPaper sampleSession).scn.edge = false ∧ sampleSession.document < 64 ∧
  ((scanning ScanState.waitPaper sampleSession).doc sampleSession.document).state = DocState.opened ∧
  ((scanning ScanState.waitPaper sampleSession).doc sampleSession.document).filler = Filler.scn ∧
  ((scanning ScanState.waitPaper sampleSession).doc sampleSession.document).pages.length < 64 ∧
  (∀ q ∈ ((scanning ScanState.waitPaper sampleSession).doc sampleSession.document).pages, ((scanning
    ScanState.waitPaper sampleSession).page q).state ≠ PageState.filling) ∧
  (scanning ScanState.waitPaper sampleSession).freePageRecord = some 0 := by
  decide +kernel

theorem witness_SensorsFeedTheSheet_edge :
  (scanning ScanState.waitPaper feedingSession).inReset = false ∧
  (scanning ScanState.waitPaper feedingSession).scn.state = ScanState.waitPaper ∧
  (scanning ScanState.waitPaper feedingSession).scn.session = some feedingSession ∧ feedingSession.feeding = true := by
  decide +kernel

theorem witness_ScanLineIsProcessedAndCoded :
  sheet.inReset = false ∧ sheet.reports = [] ∧ sheet.scn.state = ScanState.scanning ∧
  sheet.scn.session = some sheetSession ∧ sheet.scn.lineRequest = some 256 ∧ (List.replicate 256 100).length = 256 ∧
  sheet.scn.edge = true ∧ sheetSession.lineCount + 1 < sheetSession.density.maxLines ∧
  (sheet.codeLine (sheet.scn.process (List.replicate 256 100)).1).2 = true := by
  decide +kernel

theorem witness_SessionsAreEnded_jam :
  (scanning ScanState.waitPaper feedingSession).inReset = false ∧
  (scanning ScanState.waitPaper feedingSession).scn.session = some feedingSession ∧
  (Instr.jamTimerExpiry = Instr.jamTimerExpiry ∧ Option.isSome feedingSession.jamTimer = true ∨
    Instr.jamTimerExpiry = Instr.memoryWaitExpiry ∧ Option.isSome feedingSession.memWait = true ∨ ∃ tag,
    Instr.jamTimerExpiry = Instr.scanStop tag (Args.fields ()) ∧ (scanning ScanState.waitPaper
    feedingSession).scn.state ≠ ScanState.idle) := by
  refine ⟨?_, ?_, ?_⟩
  all_goals first
    | decide +kernel
    | (exact Or.inl (by decide +kernel))

theorem witness_SessionsAreEnded_memory :
  (scanning ScanState.pausedMemory starvedSession).inReset = false ∧
  (scanning ScanState.pausedMemory starvedSession).scn.session = some starvedSession ∧
  (Instr.memoryWaitExpiry = Instr.jamTimerExpiry ∧ Option.isSome starvedSession.jamTimer = true ∨
    Instr.memoryWaitExpiry = Instr.memoryWaitExpiry ∧ Option.isSome starvedSession.memWait = true ∨ ∃ tag,
    Instr.memoryWaitExpiry = Instr.scanStop tag (Args.fields ()) ∧ (scanning ScanState.pausedMemory
    starvedSession).scn.state ≠ ScanState.idle) := by
  refine ⟨?_, ?_, ?_⟩
  all_goals first
    | decide +kernel
    | (exact Or.inr (Or.inl (by decide +kernel)))

theorem witness_SessionsAreEnded_stop :
  sheet.inReset = false ∧ sheet.scn.session = some sheetSession ∧
  (Instr.scanStop 1 (Args.fields ()) = Instr.jamTimerExpiry ∧ Option.isSome sheetSession.jamTimer = true ∨
    Instr.scanStop 1 (Args.fields ()) = Instr.memoryWaitExpiry ∧ Option.isSome sheetSession.memWait = true ∨ ∃ tag,
    Instr.scanStop 1 (Args.fields ()) = Instr.scanStop tag (Args.fields ()) ∧ sheet.scn.state ≠ ScanState.idle) := by
  refine ⟨?_, ?_, ?_⟩
  all_goals first
    | decide +kernel
    | (exact Or.inr (Or.inr ⟨1, by decide +kernel⟩))

theorem witness_SessionsAreEnded_none :
  quiet.inReset = false ∧ quiet.scn.session = none := by
  decide +kernel

theorem witness_LineConfigIsLoadedOutsideCalls_loaded :
  quiet.inReset = false ∧ (sampleLineConfig 3 1).line = ↑3 ∧ (quiet.line 3).state.inCall = false ∧
  lineConfigOf (sampleLineConfig 3 1) = some ((lineConfigOf (sampleLineConfig 3 1)).getD { }) ∧ quiet.dsp.order = [] := by
  decide +kernel

theorem witness_LineConfigIsLoadedOutsideCalls_inUse :
  (seized false).inReset = false ∧ (sampleLineConfig 0 1).line = ↑0 ∧ ((seized false).line 0).state.inCall = true := by
  decide +kernel

theorem witness_LineConfigIsLoadedOutsideCalls_line :
  quiet.inReset = false ∧
  (4 ≤ (sampleLineConfig 4 1).line ∨ ∃ n : LineNo, (sampleLineConfig 4 1).line = ↑n ∧ (quiet.line n).state.inCall =
    false ∧ lineConfigOf (sampleLineConfig 4 1) = none) := by
  decide +kernel

theorem witness_LineConfigIsLoadedOutsideCalls_field :
  quiet.inReset = false ∧
  (4 ≤ (sampleLineConfig 3 0).line ∨ ∃ n : LineNo, (sampleLineConfig 3 0).line = ↑n ∧ (quiet.line n).state.inCall =
    false ∧ lineConfigOf (sampleLineConfig 3 0) = none) := by
  decide +kernel

theorem witness_LineControlEnablesAndDisables_enable :
  (onLine 3 { ringInput := true }).inReset = false ∧
  ((onLine 3 { ringInput := true }).line 3).state = LineState.outOfService ∧
  (onLine 3 { ringInput := true }).dsp.order = [] := by
  decide +kernel

theorem witness_LineControlEnablesAndDisables_disable :
  (ringing loaded).inReset = false ∧
  (((ringing loaded).line 3).state = LineState.idle ∨ ((ringing loaded).line 3).state = LineState.ringing) := by
  decide +kernel

theorem witness_LineControlEnablesAndDisables_inCall :
  (seized false).inReset = false ∧ ((seized false).line 0).state.inCall = true := by
  decide +kernel

theorem witness_RingBurstsAreQualified_edge :
  idleLine.inReset = false ∧ (idleLine.line 3).ringInput = false ∧
  ((idleLine.line 3).state = LineState.idle ∨ (idleLine.line 3).state = LineState.ringing) := by
  decide +kernel

theorem witness_RingBurstsAreQualified_burst :
  rung.inReset = false ∧ Option.isSome (rung.line 3).ringQual = true ∧ (rung.line 3).state = LineState.idle ∧
  2 ≤ (rung.line 3).config.ringCount := by
  decide +kernel

theorem witness_AnswerTestDecidesAtRingCount_answer :
  (ringing loaded).inReset = false ∧ Option.isSome ((ringing loaded).line 3).ringQual = true ∧
  ((∃ q, ((ringing loaded).line 3).state = LineState.ringing ∧ ((ringing loaded).line 3).ringing = some q ∧
    twoBursts = { time := q.time, bursts := q.bursts + 1, reason := q.reason, unset := q.unset }) ∨ ((ringing
    loaded).line 3).state = LineState.idle ∧ twoBursts =
    { time := (ringing loaded).now, bursts := 1, reason := none, unset := !(ringing loaded).chg.clock.set }) ∧
  ((ringing loaded).line 3).config.ringCount ≤ twoBursts.bursts ∧ ((ringing loaded).line 3).config.enableIn = true ∧
  (ringing loaded).chg.reservations + (ringing loaded).chg.queue.length < 64 ∧ 32 ≤ (ringing loaded).freeCount ∧
  (((ringing loaded).codeSet 0).isSome = true ∨ ((ringing loaded).codeSet 1).isSome = true) := by
  refine ⟨?_, ?_, ?_, ?_, ?_, ?_, ?_, ?_⟩
  all_goals first
    | decide +kernel
    | (exact Or.inl ⟨oneBurst, by decide +kernel, by decide +kernel, by decide +kernel⟩)

theorem witness_AnswerTestDecidesAtRingCount_notEnabled :
  notEnabled.inReset = false ∧ Option.isSome (notEnabled.line 3).ringQual = true ∧
  ((∃ q, (notEnabled.line 3).state = LineState.ringing ∧ (notEnabled.line 3).ringing = some q ∧ twoBursts =
    { time := q.time, bursts := q.bursts + 1, reason := q.reason, unset := q.unset }) ∨ (notEnabled.line 3).state =
    LineState.idle ∧ twoBursts =
    { time := notEnabled.now, bursts := 1, reason := none, unset := !notEnabled.chg.clock.set }) ∧
  (notEnabled.line 3).config.ringCount ≤ twoBursts.bursts ∧
  (if (notEnabled.line 3).config.enableIn = false then AnswerFail.notEnabled = AnswerFail.notEnabled else if 64 ≤
    notEnabled.chg.reservations + notEnabled.chg.queue.length then AnswerFail.notEnabled = AnswerFail.noRecordSlot
    else if notEnabled.freeCount < 32 then AnswerFail.notEnabled = AnswerFail.noMemory else notEnabled.codeSet 0 =
    none ∧ notEnabled.codeSet 1 = none ∧ AnswerFail.notEnabled = AnswerFail.noCodeSet) := by
  refine ⟨?_, ?_, ?_, ?_, ?_⟩
  all_goals first
    | decide +kernel
    | (exact Or.inl ⟨oneBurst, by decide +kernel, by decide +kernel, by decide +kernel⟩)

theorem witness_AnswerTestDecidesAtRingCount_noPlace :
  noPlace.inReset = false ∧ Option.isSome (noPlace.line 3).ringQual = true ∧
  ((∃ q, (noPlace.line 3).state = LineState.ringing ∧ (noPlace.line 3).ringing = some q ∧ twoBursts =
    { time := q.time, bursts := q.bursts + 1, reason := q.reason, unset := q.unset }) ∨ (noPlace.line 3).state =
    LineState.idle ∧ twoBursts =
    { time := noPlace.now, bursts := 1, reason := none, unset := !noPlace.chg.clock.set }) ∧
  (noPlace.line 3).config.ringCount ≤ twoBursts.bursts ∧
  (if (noPlace.line 3).config.enableIn = false then AnswerFail.noRecordSlot = AnswerFail.notEnabled else if 64 ≤
    noPlace.chg.reservations + noPlace.chg.queue.length then AnswerFail.noRecordSlot = AnswerFail.noRecordSlot else
    if noPlace.freeCount < 32 then AnswerFail.noRecordSlot = AnswerFail.noMemory else noPlace.codeSet 0 = none ∧
    noPlace.codeSet 1 = none ∧ AnswerFail.noRecordSlot = AnswerFail.noCodeSet) := by
  refine ⟨?_, ?_, ?_, ?_, ?_⟩
  all_goals first
    | decide +kernel
    | (exact Or.inl ⟨oneBurst, by decide +kernel, by decide +kernel, by decide +kernel⟩)

theorem witness_AnswerTestDecidesAtRingCount_noMemory :
  noMemory.inReset = false ∧ Option.isSome (noMemory.line 3).ringQual = true ∧
  ((∃ q, (noMemory.line 3).state = LineState.ringing ∧ (noMemory.line 3).ringing = some q ∧ twoBursts =
    { time := q.time, bursts := q.bursts + 1, reason := q.reason, unset := q.unset }) ∨ (noMemory.line 3).state =
    LineState.idle ∧ twoBursts =
    { time := noMemory.now, bursts := 1, reason := none, unset := !noMemory.chg.clock.set }) ∧
  (noMemory.line 3).config.ringCount ≤ twoBursts.bursts ∧
  (if (noMemory.line 3).config.enableIn = false then AnswerFail.noMemory = AnswerFail.notEnabled else if 64 ≤
    noMemory.chg.reservations + noMemory.chg.queue.length then AnswerFail.noMemory = AnswerFail.noRecordSlot else
    if noMemory.freeCount < 32 then AnswerFail.noMemory = AnswerFail.noMemory else noMemory.codeSet 0 = none ∧
    noMemory.codeSet 1 = none ∧ AnswerFail.noMemory = AnswerFail.noCodeSet) := by
  refine ⟨?_, ?_, ?_, ?_, ?_⟩
  all_goals first
    | decide +kernel
    | (exact Or.inl ⟨oneBurst, by decide +kernel, by decide +kernel, by decide +kernel⟩)

theorem witness_AnswerTestDecidesAtRingCount_noCodeSet :
  codeless.inReset = false ∧ Option.isSome (codeless.line 3).ringQual = true ∧
  ((∃ q, (codeless.line 3).state = LineState.ringing ∧ (codeless.line 3).ringing = some q ∧ twoBursts =
    { time := q.time, bursts := q.bursts + 1, reason := q.reason, unset := q.unset }) ∨ (codeless.line 3).state =
    LineState.idle ∧ twoBursts =
    { time := codeless.now, bursts := 1, reason := none, unset := !codeless.chg.clock.set }) ∧
  (codeless.line 3).config.ringCount ≤ twoBursts.bursts ∧
  (if (codeless.line 3).config.enableIn = false then AnswerFail.noCodeSet = AnswerFail.notEnabled else if 64 ≤
    codeless.chg.reservations + codeless.chg.queue.length then AnswerFail.noCodeSet = AnswerFail.noRecordSlot else
    if codeless.freeCount < 32 then AnswerFail.noCodeSet = AnswerFail.noMemory else codeless.codeSet 0 = none ∧
    codeless.codeSet 1 = none ∧ AnswerFail.noCodeSet = AnswerFail.noCodeSet) := by
  refine ⟨?_, ?_, ?_, ?_, ?_⟩
  all_goals first
    | decide +kernel
    | (exact Or.inl ⟨oneBurst, by decide +kernel, by decide +kernel, by decide +kernel⟩)

theorem witness_RingingIsAbandoned :
  (ringing loaded).inReset = false ∧ (ringing loaded).dsp.order = [] ∧
  Option.isSome ((ringing loaded).line 3).ringGap = true ∧ ((ringing loaded).line 3).state = LineState.ringing ∧
  ((ringing loaded).line 3).ringing = some oneBurst := by
  decide +kernel

theorem witness_LoopCheckDecides_found :
  (seized false).inReset = false ∧ Option.isSome ((seized false).line 0).loopTimer = true ∧
  ((seized false).line 0).state = LineState.seized ∧ ((seized false).line 0).toneSeen = false := by
  decide +kernel

theorem witness_LoopCheckDecides_answered :
  answering.inReset = false ∧ Option.isSome (answering.line 0).loopTimer = true ∧
  (answering.line 0).state = LineState.answering ∧ (answering.line 0).ctx = some sampleCtx := by
  decide +kernel

theorem witness_LoopCheckDecides_fault :
  (seized false).inReset = false ∧ Option.isSome ((seized false).line 0).loopTimer = true ∧
  (((seized false).line 0).state = LineState.seized ∨ ((seized false).line 0).state = LineState.answering) := by
  decide +kernel

theorem witness_MeterPulsesAreCounted_edge :
  (seized false).inReset = false ∧ ((seized false).line 0).meterInput = false ∧ ((seized false).line 0).counts = true := by
  decide +kernel

theorem witness_MeterPulsesAreCounted_pulse :
  lastPulse.inReset = false ∧ (lastPulse.line 0).ctx = some sampleCtx ∧ (lastPulse.line 0).counts = true ∧
  Option.isSome (lastPulse.line 0).meterQual = true ∧ sampleCtx.metering = Metering.tariff := by
  decide +kernel

theorem witness_MeterPulseChargesTheDesk :
  (pulseCall (-1)).inReset = false ∧ ((pulseCall (-1)).line 3).ctx = some pulseCtx ∧
  ((pulseCall (-1)).line 3).counts = true ∧ Option.isSome ((pulseCall (-1)).line 3).meterQual = true ∧
  pulseCtx.metering = Metering.pulse ∧ pulseCtx.desk = some 2 ∧ 2 < 16 ∧ pulseCtx.pool = none ∧
  0 ≤ ((pulseCall (-1)).desk 2).balance + ((pulseCall (-1)).desk 2).margin := by
  decide +kernel

theorem witness_MeterPulseChargesTheDesk_released :
  (pulseCall 8).inReset = false ∧ ((pulseCall 8).line 3).ctx = some pulseCtx ∧ ((pulseCall 8).line 3).counts = true ∧
  Option.isSome ((pulseCall 8).line 3).meterQual = true ∧ pulseCtx.metering = Metering.pulse ∧
  pulseCtx.desk = some 2 ∧ 2 < 16 ∧ pulseCtx.pool = none ∧
  0 ≤ ((pulseCall 8).desk 2).balance + ((pulseCall 8).desk 2).margin := by
  decide +kernel

theorem witness_DialToneBeginsDialling_dials :
  (seized true).inReset = false ∧ ((seized true).line 0).state = LineState.seized ∧
  ((seized true).line 0).ctx = some sampleCtx ∧ ((seized true).line 0).loopFound = true ∧
  ((seized true).line 0).config.accessPrefix ++ sampleCtx.dial = [48, 80, 87] ∧ isKeyChar 48 = true := by
  decide +kernel

theorem witness_DialToneBeginsDialling_early :
  (seized false).inReset = false ∧ ((seized false).line 0).state = LineState.seized ∧
  ((seized false).line 0).ctx = some sampleCtx ∧ ((seized false).line 0).loopFound = false := by
  decide +kernel

theorem witness_DiallingGoesOn_end :
  (pausing []).inReset = false ∧ ((pausing []).line 0).state = LineState.dialing ∧
  (Instr.pauseExpiry 0 = Instr.pauseExpiry 0 ∧ Option.isSome ((pausing []).line 0).pause = true ∧ [] = ((pausing
    []).line 0).tx ∨ Instr.pauseExpiry 0 = Instr.pumpCharacterSent 0 ∧ ((pausing []).line 0).dialWait = some
    DialWait.carried ∧ ((pausing []).line 0).pause = none ∧ [].any PumpChar.isDialDigit = false ∧ ∃ p, ((pausing
    []).line 0).tx = [p]) ∧
  ((pausing []).line 0).dial = [] := by
  refine ⟨?_, ?_, ?_, ?_⟩
  all_goals first
    | decide +kernel
    | (exact Or.inl (by decide +kernel))

theorem witness_DiallingGoesOn_digit :
  (carrying [48]).inReset = false ∧ ((carrying [48]).line 0).state = LineState.dialing ∧
  (Instr.pumpCharacterSent 0 = Instr.pauseExpiry 0 ∧ Option.isSome ((carrying [48]).line 0).pause = true ∧ [] =
    ((carrying [48]).line 0).tx ∨ Instr.pumpCharacterSent 0 = Instr.pumpCharacterSent 0 ∧ ((carrying [48]).line
    0).dialWait = some DialWait.carried ∧ ((carrying [48]).line 0).pause = none ∧ [].any PumpChar.isDialDigit =
    false ∧ ∃ p, ((carrying [48]).line 0).tx = [p]) ∧
  ((carrying [48]).line 0).dial = [48] ∧ isKeyChar 48 = true := by
  refine ⟨?_, ?_, ?_, ?_, ?_⟩
  all_goals first
    | decide +kernel
    | (exact Or.inr ⟨by decide +kernel, by decide +kernel, by decide +kernel, by decide +kernel, .dialDigit 0x30, by decide +kernel⟩)

theorem witness_DiallingGoesOn_pause :
  (carrying [80]).inReset = false ∧ ((carrying [80]).line 0).state = LineState.dialing ∧
  (Instr.pumpCharacterSent 0 = Instr.pauseExpiry 0 ∧ Option.isSome ((carrying [80]).line 0).pause = true ∧ [] =
    ((carrying [80]).line 0).tx ∨ Instr.pumpCharacterSent 0 = Instr.pumpCharacterSent 0 ∧ ((carrying [80]).line
    0).dialWait = some DialWait.carried ∧ ((carrying [80]).line 0).pause = none ∧ [].any PumpChar.isDialDigit =
    false ∧ ∃ p, ((carrying [80]).line 0).tx = [p]) ∧
  ((carrying [80]).line 0).dial = [80] ∧ 80 = 80 := by
  refine ⟨?_, ?_, ?_, ?_, ?_⟩
  all_goals first
    | decide +kernel
    | (exact Or.inr ⟨by decide +kernel, by decide +kernel, by decide +kernel, by decide +kernel, .dialDigit 0x30, by decide +kernel⟩)

theorem witness_DiallingGoesOn_tone :
  (pausing [87]).inReset = false ∧ ((pausing [87]).line 0).state = LineState.dialing ∧
  (Instr.pauseExpiry 0 = Instr.pauseExpiry 0 ∧ Option.isSome ((pausing [87]).line 0).pause = true ∧ [] = ((pausing
    [87]).line 0).tx ∨ Instr.pauseExpiry 0 = Instr.pumpCharacterSent 0 ∧ ((pausing [87]).line 0).dialWait = some
    DialWait.carried ∧ ((pausing [87]).line 0).pause = none ∧ [].any PumpChar.isDialDigit = false ∧ ∃ p, ((pausing
    [87]).line 0).tx = [p]) ∧
  ((pausing [87]).line 0).dial = [87] ∧ 87 = 87 := by
  refine ⟨?_, ?_, ?_, ?_, ?_⟩
  all_goals first
    | decide +kernel
    | (exact Or.inl (by decide +kernel))

theorem witness_CallsAreReleased_busy :
  (carrying []).inReset = false ∧ ((carrying []).line 0).ctx = some sampleCtx ∧
  (carrying []).releaseAsked 0 (Instr.busyTone 0) = some EndReason.busy := by
  decide +kernel

theorem witness_CallsAreReleased_noTone :
  (seized false).inReset = false ∧ ((seized false).line 0).ctx = some sampleCtx ∧
  (seized false).releaseAsked 0 (Instr.dialToneWaitExpiry 0) = some EndReason.noDialTone := by
  decide +kernel

theorem witness_CallsAreReleased_noAnswer :
  awaiting.inReset = false ∧ (awaiting.line 0).ctx = some sampleCtx ∧
  awaiting.releaseAsked 0 (Instr.answerWaitExpiry 0) = some EndReason.noAnswer := by
  decide +kernel

theorem witness_CallsAreReleased_carrier :
  (sendingLine 0).inReset = false ∧
  ((sendingLine 0).line 0).ctx = some (withSess sampleCtx (caller Stage.sendingData)) ∧
  (sendingLine 0).releaseAsked 0 (Instr.carrierLost 0) = some EndReason.carrierLost := by
  decide +kernel

theorem witness_FarAnswerChargesAndNegotiates :
  awaiting.inReset = false ∧ (awaiting.line 0).state = LineState.awaitAnswer ∧
  (awaiting.line 0).ctx = some sampleCtx ∧ sampleCtx.metering = Metering.tariff ∧
  sampleCtx.tariff = some sampleTariff ∧ sampleCtx.desk = some 2 ∧ 2 < 16 ∧ sampleCtx.pool = none ∧
  ↑(sampleTariff.setupCp + sampleTariff.stepCp) ≤ (awaiting.desk 2).balance + (awaiting.desk 2).margin := by
  decide +kernel

theorem witness_GuardEndCompletesTheRecord :
  (guarding true).inReset = false ∧ Option.isSome ((guarding true).line 1).releaseGuard = true ∧
  (((guarding true).line 1).enabled = true → (guarding true).dsp.order = []) := by
  decide +kernel

theorem witness_PageBytesAreSent_carried :
  (sendingLine 0).inReset = false ∧
  ((sendingLine 0).line 0).ctx = some (withSess sampleCtx (caller Stage.sendingData)) ∧
  (withSess sampleCtx (caller Stage.sendingData)).sess = some (caller Stage.sendingData) ∧
  (caller Stage.sendingData).stage = Stage.sendingData ∧ ((sendingLine 0).line 0).phase = some (sendPhase true) ∧
  (sendPhase true).dir = PhaseDir.send ∧ (sendPhase true).ready = true ∧
  ((sendingLine 0).line 0).state = LineState.sending ∧
  (Instr.pumpCharacterSent 0 = Instr.pumpCharacterSent 0 ∧ (∃ ch, ((sendingLine 0).line 0).tx = [ch]) ∧
    ((sendingLine 0).line 0).pace = none ∨ Instr.pumpCharacterSent 0 = Instr.paceIntervalExpiry 0 ∧ ((sendingLine
    0).line 0).tx = [] ∧ Option.isSome ((sendingLine 0).line 0).pace = true) ∧
  (sendingLine 0).nextByte 0 = some 0 := by
  refine ⟨?_, ?_, ?_, ?_, ?_, ?_, ?_, ?_, ?_, ?_⟩
  all_goals first
    | decide +kernel
    | (exact Or.inl ⟨by decide +kernel, ⟨.data 7, by decide +kernel⟩, by decide +kernel⟩)

theorem witness_PageBytesAreSent_end :
  (pacedLine 1).inReset = false ∧ ((pacedLine 1).line 0).ctx = some (withSess sampleCtx (caller Stage.sendingData)) ∧
  (withSess sampleCtx (caller Stage.sendingData)).sess = some (caller Stage.sendingData) ∧
  (caller Stage.sendingData).stage = Stage.sendingData ∧ ((pacedLine 1).line 0).phase = some (sendPhase true) ∧
  (sendPhase true).dir = PhaseDir.send ∧ (sendPhase true).ready = true ∧
  ((pacedLine 1).line 0).state = LineState.sending ∧
  (Instr.paceIntervalExpiry 0 = Instr.pumpCharacterSent 0 ∧ (∃ ch, ((pacedLine 1).line 0).tx = [ch]) ∧ ((pacedLine
    1).line 0).pace = none ∨ Instr.paceIntervalExpiry 0 = Instr.paceIntervalExpiry 0 ∧ ((pacedLine 1).line 0).tx =
    [] ∧ Option.isSome ((pacedLine 1).line 0).pace = true) ∧
  (pacedLine 1).nextByte 0 = none := by
  refine ⟨?_, ?_, ?_, ?_, ?_, ?_, ?_, ?_, ?_, ?_⟩
  all_goals first
    | decide +kernel
    | (exact Or.inr (by decide +kernel))

theorem witness_FrameBodiesAreAssembled_begin :
  (calleeLine LineState.receiving inCtx accepted).inReset = false ∧
  ((calleeLine LineState.receiving inCtx accepted).line 3).state.takesFrames = true ∧
  ((calleeLine LineState.receiving inCtx accepted).line 3).phase = none := by
  decide +kernel

theorem witness_FrameBodiesAreAssembled_data :
  takingData.inReset = false ∧ (takingData.line 3).state.takesFrames = true ∧
  (takingData.line 3).ctx = some (withSess (pageCtx (some 1) (some 1)) (pageCallee Stage.receivingData)) ∧
  ((withSess (pageCtx (some 1) (some 1)) (pageCallee Stage.receivingData)).sess = some (pageCallee
    Stage.receivingData)) ∧
  (takingData.line 3).phase = some { dir := PhaseDir.receive, step := 3, ready := true } := by
  decide +kernel

theorem witness_FrameBodiesAreAssembled_byte :
  (framing (List.replicate 127 7) false Stage.waitReply).inReset = false ∧
  (((framing (List.replicate 127 7) false Stage.waitReply).line 0).frame = some (frameBody (List.replicate 127 7)
    false)) := by
  decide +kernel

theorem witness_FrameBodiesAreAssembled_marked :
  (framing [1] true Stage.waitReply).inReset = false ∧
  ((framing [1] true Stage.waitReply).line 0).frame = some (frameBody [1] true) ∧ (frameBody [1] true).marked = true := by
  decide +kernel

theorem witness_FrameEndDeliversTheFrame_frame :
  (framing Frame.endAck.bytes false Stage.waitEndAck).inReset = false ∧
  ((framing Frame.endAck.bytes false Stage.waitEndAck).line 0).frame = some (frameBody Frame.endAck.bytes false) ∧
  (frameBody Frame.endAck.bytes false).marked = false ∧
  Frame.ofBytes (frameBody Frame.endAck.bytes false).bytes = some Frame.endAck := by
  decide +kernel

theorem witness_FrameEndDeliversTheFrame_none :
  (framing [99] false Stage.waitEndAck).inReset = false ∧
  ((framing [99] false Stage.waitEndAck).line 0).frame = some (frameBody [99] false) ∧
  (frameBody [99] false).marked = false ∧ Frame.ofBytes (frameBody [99] false).bytes = none := by
  decide +kernel

theorem witness_ReceivedByteIsAppended :
  takingData.inReset = false ∧
  (takingData.line 3).ctx = some (withSess (pageCtx (some 1) (some 1)) (pageCallee Stage.receivingData)) ∧
  ((withSess (pageCtx (some 1) (some 1)) (pageCallee Stage.receivingData)).sess = some (pageCallee
    Stage.receivingData)) ∧
  (pageCallee Stage.receivingData).page = some writtenPage ∧ (takingData.line 3).frame = none ∧
  (takingData.line 3).phase = some { dir := PhaseDir.receive, step := 3, ready := true } ∧
  takingData.current writtenPage = true ∧ (takingData.page writtenPage.page).state = PageState.filling ∧
  (takingData.page writtenPage.page).byteCount % 1024 ≠ 0 ∧ (takingData.line 3).codec.slot = some 0 ∧
  takingData.codeSet 0 = some (sampleSet 7) := by
  decide +kernel

theorem witness_DataReadyStartsThePhase_receive :
  takingTraining.inReset = false ∧
  (takingTraining.line 3).ctx = some (withSess (pageCtx (some 1) (some 1)) (pageCallee Stage.training)) ∧
  (withSess (pageCtx (some 1) (some 1)) (pageCallee Stage.training)).sess = some (pageCallee Stage.training) ∧
  (takingTraining.line 3).phase = some { dir := PhaseDir.receive, step := 3 } := by
  decide +kernel

theorem witness_DataReadyStartsThePhase_send :
  (trainingLine 0).inReset = false ∧ ((trainingLine 0).line 0).ctx = some (withSess sampleCtx (trainingCaller 0)) ∧
  (withSess sampleCtx (trainingCaller 0)).sess = some (trainingCaller 0) ∧
  ((trainingLine 0).line 0).phase = some { dir := PhaseDir.send, step := 3 } ∧ ((trainingLine 0).line 0).tx = [] ∧
  ((trainingLine 0).line 0).pace = none ∧ (trainingLine 0).nextByte 0 = some 0 := by
  decide +kernel

theorem witness_TrainingFailureIsTriedOnceMore_again :
  (trainingLine 0).inReset = false ∧ ((trainingLine 0).line 0).ctx = some (withSess sampleCtx (trainingCaller 0)) ∧
  (withSess sampleCtx (trainingCaller 0)).sess = some (trainingCaller 0) ∧ (trainingCaller 0).stage = Stage.training ∧
  ((trainingLine 0).line 0).phase = some (sendPhase false) ∧ (sendPhase false).ready = false ∧
  (Instr.trainFail 0 = Instr.trainFail 0 ∧ ((trainingLine 0).line 0).awaiting = some (sendPhase false) ∨
    Instr.trainFail 0 = Instr.frameReplyExpiry 0 ∧ Option.isSome ((trainingLine 0).line 0).frameReply = true) ∧
  (trainingCaller 0).role = Role.caller ∧ (trainingCaller 0).trainFails = 0 := by
  decide +kernel

theorem witness_TrainingFailureIsTriedOnceMore_released :
  (trainingLine 1).inReset = false ∧ ((trainingLine 1).line 0).ctx = some (withSess sampleCtx (trainingCaller 1)) ∧
  (withSess sampleCtx (trainingCaller 1)).sess = some (trainingCaller 1) ∧ (trainingCaller 1).stage = Stage.training ∧
  ((trainingLine 1).line 0).phase = some (sendPhase false) ∧ (sendPhase false).ready = false ∧
  (Instr.frameReplyExpiry 0 = Instr.trainFail 0 ∧ ((trainingLine 1).line 0).awaiting = some (sendPhase false) ∨
    Instr.frameReplyExpiry 0 = Instr.frameReplyExpiry 0 ∧ Option.isSome ((trainingLine 1).line 0).frameReply = true) ∧
  (trainingCaller 1).role = Role.caller ∧ 1 ≤ (trainingCaller 1).trainFails ∧
  ((trainingLine 1).line 0).state.releasable = true := by
  decide +kernel

theorem witness_TrainingFailureIsTriedOnceMore_callee :
  takingTraining.inReset = false ∧
  (takingTraining.line 3).ctx = some (withSess (pageCtx (some 1) (some 1)) (pageCallee Stage.training)) ∧
  (withSess (pageCtx (some 1) (some 1)) (pageCallee Stage.training)).sess = some (pageCallee Stage.training) ∧
  (pageCallee Stage.training).stage = Stage.training ∧ (takingTraining.line 3).phase = some (receivePhase false) ∧
  (receivePhase false).ready = false ∧
  (Instr.trainFail 3 = Instr.trainFail 3 ∧ (takingTraining.line 3).awaiting = some (receivePhase false) ∨
    Instr.trainFail 3 = Instr.frameReplyExpiry 3 ∧ Option.isSome (takingTraining.line 3).frameReply = true) ∧
  (pageCallee Stage.training).role = Role.callee := by
  decide +kernel

theorem witness_CallerTakesOffer_chooses :
  (callerLine LineState.negotiating sampleCtx (caller Stage.waitOffer)).inReset = false ∧
  (((callerLine LineState.negotiating sampleCtx (caller Stage.waitOffer)).line 0).ctx = some (withSess sampleCtx
    (caller Stage.waitOffer))) ∧
  (withSess sampleCtx (caller Stage.waitOffer)).sess = some (caller Stage.waitOffer) ∧
  (caller Stage.waitOffer).role = Role.caller ∧ (caller Stage.waitOffer).stage = Stage.waitOffer ∧
  ((callerLine LineState.negotiating sampleCtx (caller Stage.waitOffer)).line 0).state = LineState.negotiating ∧
  ((callerLine LineState.negotiating sampleCtx (caller Stage.waitOffer)).line 0).phase = none ∧
  (Frame.offer (sampleOffer true 1 [3, 7])).inRange = true ∧
  (withSess sampleCtx (caller Stage.waitOffer)).job = some (31, 0) ∧
  (callerLine LineState.negotiating sampleCtx (caller Stage.waitOffer)).job (31, 0).1 = some (oneJob inCallDest) ∧
  (sampleOffer true 1 [3, 7]).receiveOk = true ∧
  (((callerLine LineState.negotiating sampleCtx (caller Stage.waitOffer)).doc (oneJob
    inCallDest).document).pages.length - (caller Stage.waitOffer).base ≤ (sampleOffer true 1 [3, 7]).maxPages) ∧
  ((callerLine LineState.negotiating sampleCtx (caller Stage.waitOffer)).commonCode (sampleOffer true 1 [3,
    7]).codes = some (0, 7)) := by
  decide +kernel

theorem witness_CallerTakesOffer_notReceiving :
  (callerLine LineState.negotiating sampleCtx (caller Stage.waitOffer)).inReset = false ∧
  (((callerLine LineState.negotiating sampleCtx (caller Stage.waitOffer)).line 0).ctx = some (withSess sampleCtx
    (caller Stage.waitOffer))) ∧
  (withSess sampleCtx (caller Stage.waitOffer)).sess = some (caller Stage.waitOffer) ∧
  (caller Stage.waitOffer).role = Role.caller ∧ (caller Stage.waitOffer).stage = Stage.waitOffer ∧
  ((callerLine LineState.negotiating sampleCtx (caller Stage.waitOffer)).line 0).state = LineState.negotiating ∧
  ((callerLine LineState.negotiating sampleCtx (caller Stage.waitOffer)).line 0).phase = none ∧
  (Frame.offer (sampleOffer false 64 [3, 7])).inRange = true ∧
  (withSess sampleCtx (caller Stage.waitOffer)).job = some (31, 0) ∧
  (callerLine LineState.negotiating sampleCtx (caller Stage.waitOffer)).job (31, 0).1 = some (oneJob inCallDest) ∧
  (if (sampleOffer false 64 [3, 7]).receiveOk = false then CloseCause.declined DeclineReason.notReceiving =
    CloseCause.declined DeclineReason.notReceiving else if (sampleOffer false 64 [3, 7]).maxPages < ((callerLine
    LineState.negotiating sampleCtx (caller Stage.waitOffer)).doc (oneJob inCallDest).document).pages.length -
    (caller Stage.waitOffer).base then CloseCause.declined DeclineReason.notReceiving = CloseCause.declined
    DeclineReason.unsupported else (callerLine LineState.negotiating sampleCtx (caller Stage.waitOffer)).commonCode
    (sampleOffer false 64 [3, 7]).codes = none ∧ CloseCause.declined DeclineReason.notReceiving =
    CloseCause.noCommonCode) := by
  decide +kernel

theorem witness_CallerTakesOffer_noCommonCode :
  (callerLine LineState.negotiating sampleCtx (caller Stage.waitOffer)).inReset = false ∧
  (((callerLine LineState.negotiating sampleCtx (caller Stage.waitOffer)).line 0).ctx = some (withSess sampleCtx
    (caller Stage.waitOffer))) ∧
  (withSess sampleCtx (caller Stage.waitOffer)).sess = some (caller Stage.waitOffer) ∧
  (caller Stage.waitOffer).role = Role.caller ∧ (caller Stage.waitOffer).stage = Stage.waitOffer ∧
  ((callerLine LineState.negotiating sampleCtx (caller Stage.waitOffer)).line 0).state = LineState.negotiating ∧
  ((callerLine LineState.negotiating sampleCtx (caller Stage.waitOffer)).line 0).phase = none ∧
  (Frame.offer (sampleOffer true 64 [3])).inRange = true ∧
  (withSess sampleCtx (caller Stage.waitOffer)).job = some (31, 0) ∧
  (callerLine LineState.negotiating sampleCtx (caller Stage.waitOffer)).job (31, 0).1 = some (oneJob inCallDest) ∧
  (if (sampleOffer true 64 [3]).receiveOk = false then CloseCause.noCommonCode = CloseCause.declined
    DeclineReason.notReceiving else if (sampleOffer true 64 [3]).maxPages < ((callerLine LineState.negotiating
    sampleCtx (caller Stage.waitOffer)).doc (oneJob inCallDest).document).pages.length - (caller
    Stage.waitOffer).base then CloseCause.noCommonCode = CloseCause.declined DeclineReason.unsupported else
    (callerLine LineState.negotiating sampleCtx (caller Stage.waitOffer)).commonCode (sampleOffer true 64
    [3]).codes = none ∧ CloseCause.noCommonCode = CloseCause.noCommonCode) := by
  decide +kernel

theorem witness_CalleeDeclinesChoose_notReceiving :
  (offeredLine false).inReset = false ∧ ((offeredLine false).line 3).ctx = some (withSess inCtx (offered false)) ∧
  (withSess inCtx (offered false)).sess = some (offered false) ∧ (offered false).role = Role.callee ∧
  ((offeredLine false).line 3).state.takesFrames = true ∧ ((offeredLine false).line 3).phase = none ∧
  List.length (sampleChoose 7).tag ≤ 20 ∧ (offered false).stage = Stage.offered ∧
  (offered false).offered = some (sampleOffer false 64 [7]) ∧
  (if (sampleOffer false 64 [7]).receiveOk = false then DeclineReason.notReceiving = DeclineReason.notReceiving
    else (offeredLine false).choiceSupported (sampleOffer false 64 [7]) (sampleChoose 7) = false ∧
    DeclineReason.notReceiving = DeclineReason.unsupported) := by
  decide +kernel

theorem witness_CalleeDeclinesChoose_unsupported :
  (offeredLine true).inReset = false ∧ ((offeredLine true).line 3).ctx = some (withSess inCtx (offered true)) ∧
  (withSess inCtx (offered true)).sess = some (offered true) ∧ (offered true).role = Role.callee ∧
  ((offeredLine true).line 3).state.takesFrames = true ∧ ((offeredLine true).line 3).phase = none ∧
  List.length (sampleChoose 8).tag ≤ 20 ∧ (offered true).stage = Stage.offered ∧
  (offered true).offered = some (sampleOffer true 64 [7]) ∧
  (if (sampleOffer true 64 [7]).receiveOk = false then DeclineReason.unsupported = DeclineReason.notReceiving else
    (offeredLine true).choiceSupported (sampleOffer true 64 [7]) (sampleChoose 8) = false ∧
    DeclineReason.unsupported = DeclineReason.unsupported) := by
  decide +kernel

theorem witness_CalleeDeclinesChoose_duplicate :
  (calleeLine LineState.receiving inCtx accepted).inReset = false ∧
  ((calleeLine LineState.receiving inCtx accepted).line 3).ctx = some (withSess inCtx accepted) ∧
  (withSess inCtx accepted).sess = some accepted ∧ accepted.role = Role.callee ∧
  ((calleeLine LineState.receiving inCtx accepted).line 3).state.takesFrames = true ∧
  ((calleeLine LineState.receiving inCtx accepted).line 3).phase = none ∧ List.length (sampleChoose 7).tag ≤ 20 ∧
  accepted.stage = Stage.waitHead ∧ accepted.storedReply = some Frame.accept := by
  decide +kernel

theorem witness_CalleeAcceptsChoose :
  routedLine.inReset = false ∧ (routedLine.line 3).ctx = some (withSess inCtx (offered true)) ∧
  (withSess inCtx (offered true)).sess = some (offered true) ∧ (offered true).role = Role.callee ∧
  (offered true).stage = Stage.offered ∧ (offered true).offered = some (sampleOffer true 64 [7]) ∧
  (routedLine.line 3).state = LineState.negotiating ∧ (routedLine.line 3).phase = none ∧
  List.length (sampleChoose 7).tag ≤ 20 ∧ (sampleOffer true 64 [7]).receiveOk = true ∧
  routedLine.choiceSupported (sampleOffer true 64 [7]) (sampleChoose 7) = true ∧
  routedLine.slotOf (sampleChoose 7).code = some 0 ∧ routedLine.freePageRecord = some 0 ∧
  routedLine.freeDocRecord = some 0 ∧ routedLine.rtr.route 3 (sampleChoose 7).tag = (some 0, sampleRule 0) := by
  decide +kernel

theorem witness_CallerTakesAccept_sends :
  (callerLine LineState.negotiating sampleCtx (caller Stage.waitReply)).inReset = false ∧
  (((callerLine LineState.negotiating sampleCtx (caller Stage.waitReply)).line 0).ctx = some (withSess sampleCtx
    (caller Stage.waitReply))) ∧
  (withSess sampleCtx (caller Stage.waitReply)).sess = some (caller Stage.waitReply) ∧
  (caller Stage.waitReply).role = Role.caller ∧ (caller Stage.waitReply).stage = Stage.waitReply ∧
  ((callerLine LineState.negotiating sampleCtx (caller Stage.waitReply)).line 0).state = LineState.negotiating ∧
  ((callerLine LineState.negotiating sampleCtx (caller Stage.waitReply)).line 0).phase = none ∧
  (withSess sampleCtx (caller Stage.waitReply)).job = some (31, 0) ∧
  (callerLine LineState.negotiating sampleCtx (caller Stage.waitReply)).job (31, 0).1 = some (oneJob inCallDest) ∧
  (((callerLine LineState.negotiating sampleCtx (caller Stage.waitReply)).doc (oneJob
    inCallDest).document).pages[(caller Stage.waitReply).base]? = some 9) ∧
  ((callerLine LineState.negotiating sampleCtx (caller Stage.waitReply)).page 9).state.readable = true ∧
  ((callerLine LineState.negotiating sampleCtx (caller Stage.waitReply)).page 9).document.isSome = true ∧
  ((callerLine LineState.negotiating sampleCtx (caller Stage.waitReply)).page 9).transmissions < 4 ∧
  (withSess sampleCtx (caller Stage.waitReply)).closing = false := by
  decide +kernel

theorem witness_CallerTakesAccept_closes :
  (callerLine LineState.negotiating closingCtx (caller Stage.waitReply)).inReset = false ∧
  (((callerLine LineState.negotiating closingCtx (caller Stage.waitReply)).line 0).ctx = some (withSess closingCtx
    (caller Stage.waitReply))) ∧
  (withSess closingCtx (caller Stage.waitReply)).sess = some (caller Stage.waitReply) ∧
  (caller Stage.waitReply).role = Role.caller ∧ (caller Stage.waitReply).stage = Stage.waitReply ∧
  ((callerLine LineState.negotiating closingCtx (caller Stage.waitReply)).line 0).state = LineState.negotiating ∧
  ((callerLine LineState.negotiating closingCtx (caller Stage.waitReply)).line 0).phase = none ∧
  (withSess closingCtx (caller Stage.waitReply)).job = some (31, 0) ∧
  ((callerLine LineState.negotiating closingCtx (caller Stage.waitReply)).job (31, 0).1 = some (oneJob inCallDest)) ∧
  (((callerLine LineState.negotiating closingCtx (caller Stage.waitReply)).doc (oneJob
    inCallDest).document).pages[(caller Stage.waitReply).base]? = some 9) ∧
  ((callerLine LineState.negotiating closingCtx (caller Stage.waitReply)).page 9).state.readable = true ∧
  ((callerLine LineState.negotiating closingCtx (caller Stage.waitReply)).page 9).document.isSome = true ∧
  ((callerLine LineState.negotiating closingCtx (caller Stage.waitReply)).page 9).transmissions < 4 ∧
  (withSess closingCtx (caller Stage.waitReply)).closing = true := by
  decide +kernel

theorem witness_CallerTakesDecline :
  (readingLine sampleCtx Stage.sendingData (some (sendPhase true))).inReset = false ∧
  (((readingLine sampleCtx Stage.sendingData (some (sendPhase true))).line 0).ctx = some (withSess sampleCtx
    (reading Stage.sendingData))) ∧
  (withSess sampleCtx (reading Stage.sendingData)).sess = some (reading Stage.sendingData) ∧
  (reading Stage.sendingData).role = Role.caller ∧
  ((reading Stage.sendingData).stage = Stage.training ∨ (reading Stage.sendingData).stage = Stage.sendingData ∨
    (reading Stage.sendingData).stage = Stage.waitAck) ∧
  ((readingLine sampleCtx Stage.sendingData (some (sendPhase true))).line 0).state = LineState.sending ∧
  (∀ (p : DataPhase), ((readingLine sampleCtx Stage.sendingData (some (sendPhase true))).line 0).phase = some p →
    p.dir = PhaseDir.send) ∧
  (reading Stage.sendingData).reader = some readPage ∧
  (readingLine sampleCtx Stage.sendingData (some (sendPhase true))).current readPage = true ∧ readPage.page < 256 ∧
  ((readingLine sampleCtx Stage.sendingData (some (sendPhase true))).page readPage.page).document.isSome = true ∧
  0 < ((readingLine sampleCtx Stage.sendingData (some (sendPhase true))).page readPage.page).transmissions := by
  decide +kernel

theorem witness_CalleeTakesPageHead :
  acceptedLine.inReset = false ∧ (acceptedLine.line 3).ctx = some (withSess (pageCtx none none) accepted) ∧
  (withSess (pageCtx none none) accepted).sess = some accepted ∧ accepted.role = Role.callee ∧
  accepted.stage = Stage.waitHead ∧ accepted.headSince = false ∧ accepted.memExhausted = false ∧
  (acceptedLine.line 3).state = LineState.receiving ∧ (acceptedLine.line 3).phase = none ∧ 1 = accepted.settled + 1 ∧
  1 ≤ (withSess (pageCtx none none) accepted).params.pages ∧ 1 ≤ 64 ∧ 5 ≤ 5 ∧
  (withSess (pageCtx none none) accepted).page ≠ some 1 ∧
  tget acceptedLine.rtr.reception (↑3) none = some sampleReception ∧ (acceptedLine.line 3).codec.slot = some 0 ∧
  sampleReception.document < 64 ∧ (acceptedLine.doc sampleReception.document).state = DocState.opened ∧
  (acceptedLine.doc sampleReception.document).filler = Filler.lch 3 ∧
  (acceptedLine.doc sampleReception.document).pages.length < 64 ∧
  (∀ q ∈ (acceptedLine.doc sampleReception.document).pages, (acceptedLine.page q).state ≠ PageState.filling) ∧
  acceptedLine.freePageRecord = some 0 := by
  decide +kernel

theorem witness_CalleeJudgesPageTail :
  (receiving Stage.waitTail 1 PageState.filling none).inReset = false ∧
  (receiving Stage.waitTail 1 PageState.filling none).prt.order = [] ∧
  (receiving Stage.waitTail 1 PageState.filling none).pmm.pendingScan = none ∧
  (((receiving Stage.waitTail 1 PageState.filling none).line 3).ctx = some (withSess (pageCtx (some 1) (some 1))
    (pageCallee Stage.waitTail))) ∧
  (withSess (pageCtx (some 1) (some 1)) (pageCallee Stage.waitTail)).sess = some (pageCallee Stage.waitTail) ∧
  (pageCallee Stage.waitTail).role = Role.callee ∧ (pageCallee Stage.waitTail).stage = Stage.waitTail ∧
  ((receiving Stage.waitTail 1 PageState.filling none).line 3).state = LineState.receiving ∧
  ((receiving Stage.waitTail 1 PageState.filling none).line 3).phase = none ∧
  (pageCallee Stage.waitTail).page = some writtenPage ∧
  (receiving Stage.waitTail 1 PageState.filling none).current writtenPage = true ∧ writtenPage.page < 256 ∧
  (withSess (pageCtx (some 1) (some 1)) (pageCallee Stage.waitTail)).page = some 1 ∧
  (withSess (pageCtx (some 1) (some 1)) (pageCallee Stage.waitTail)).attempt.isSome = true ∧
  (((receiving Stage.waitTail 1 PageState.filling none).page writtenPage.page).state = PageState.filling ∨
    ((receiving Stage.waitTail 1 PageState.filling none).page writtenPage.page).state = PageState.damaged) := by
  decide +kernel

theorem witness_CalleeJudgesPageTail_damaged :
  (receiving Stage.waitTail 2 PageState.damaged none).inReset = false ∧
  (receiving Stage.waitTail 2 PageState.damaged none).prt.order = [] ∧
  (receiving Stage.waitTail 2 PageState.damaged none).pmm.pendingScan = none ∧
  (((receiving Stage.waitTail 2 PageState.damaged none).line 3).ctx = some (withSess (pageCtx (some 1) (some 2))
    (pageCallee Stage.waitTail))) ∧
  (withSess (pageCtx (some 1) (some 2)) (pageCallee Stage.waitTail)).sess = some (pageCallee Stage.waitTail) ∧
  (pageCallee Stage.waitTail).role = Role.callee ∧ (pageCallee Stage.waitTail).stage = Stage.waitTail ∧
  ((receiving Stage.waitTail 2 PageState.damaged none).line 3).state = LineState.receiving ∧
  ((receiving Stage.waitTail 2 PageState.damaged none).line 3).phase = none ∧
  (pageCallee Stage.waitTail).page = some writtenPage ∧
  (receiving Stage.waitTail 2 PageState.damaged none).current writtenPage = true ∧ writtenPage.page < 256 ∧
  (withSess (pageCtx (some 1) (some 2)) (pageCallee Stage.waitTail)).page = some 1 ∧
  (withSess (pageCtx (some 1) (some 2)) (pageCallee Stage.waitTail)).attempt.isSome = true ∧
  (((receiving Stage.waitTail 2 PageState.damaged none).page writtenPage.page).state = PageState.filling ∨
    ((receiving Stage.waitTail 2 PageState.damaged none).page writtenPage.page).state = PageState.damaged) := by
  decide +kernel

theorem witness_CallerTakesPageAck_again :
  (readingLine (ackCtx 1 1 1 false) Stage.waitAck none).inReset = false ∧
  (((readingLine (ackCtx 1 1 1 false) Stage.waitAck none).line 0).ctx = some (withSess (ackCtx 1 1 1 false)
    (reading Stage.waitAck))) ∧
  (withSess (ackCtx 1 1 1 false) (reading Stage.waitAck)).sess = some (reading Stage.waitAck) ∧
  (reading Stage.waitAck).role = Role.caller ∧ (reading Stage.waitAck).stage = Stage.waitAck ∧
  ((readingLine (ackCtx 1 1 1 false) Stage.waitAck none).line 0).state = LineState.sending ∧
  ((readingLine (ackCtx 1 1 1 false) Stage.waitAck none).line 0).phase = none ∧
  (withSess (ackCtx 1 1 1 false) (reading Stage.waitAck)).page = some 1 ∧ 1 ≤ 1 ∧ 1 ≤ 64 ∧
  Verdict.resend = Verdict.resend ∧ (withSess (ackCtx 1 1 1 false) (reading Stage.waitAck)).attempt = some 1 := by
  decide +kernel

theorem witness_CallerTakesPageAck_released :
  (readingLine (ackCtx 1 2 1 false) Stage.waitAck none).inReset = false ∧
  (((readingLine (ackCtx 1 2 1 false) Stage.waitAck none).line 0).ctx = some (withSess (ackCtx 1 2 1 false)
    (reading Stage.waitAck))) ∧
  (withSess (ackCtx 1 2 1 false) (reading Stage.waitAck)).sess = some (reading Stage.waitAck) ∧
  (reading Stage.waitAck).role = Role.caller ∧ (reading Stage.waitAck).stage = Stage.waitAck ∧
  ((readingLine (ackCtx 1 2 1 false) Stage.waitAck none).line 0).state = LineState.sending ∧
  ((readingLine (ackCtx 1 2 1 false) Stage.waitAck none).line 0).phase = none ∧
  (withSess (ackCtx 1 2 1 false) (reading Stage.waitAck)).page = some 1 ∧ 1 ≤ 1 ∧ 1 ≤ 64 ∧
  Verdict.resend = Verdict.resend ∧ (withSess (ackCtx 1 2 1 false) (reading Stage.waitAck)).attempt = some 2 := by
  decide +kernel

theorem witness_CallerTakesPageAck_closes :
  (readingLine (ackCtx 64 2 64 true) Stage.waitAck none).inReset = false ∧
  (((readingLine (ackCtx 64 2 64 true) Stage.waitAck none).line 0).ctx = some (withSess (ackCtx 64 2 64 true)
    (reading Stage.waitAck))) ∧
  (withSess (ackCtx 64 2 64 true) (reading Stage.waitAck)).sess = some (reading Stage.waitAck) ∧
  (reading Stage.waitAck).role = Role.caller ∧ (reading Stage.waitAck).stage = Stage.waitAck ∧
  ((readingLine (ackCtx 64 2 64 true) Stage.waitAck none).line 0).state = LineState.sending ∧
  ((readingLine (ackCtx 64 2 64 true) Stage.waitAck none).line 0).phase = none ∧
  (withSess (ackCtx 64 2 64 true) (reading Stage.waitAck)).page = some 64 ∧ 1 ≤ 64 ∧ 64 ≤ 64 ∧
  Verdict.keepPoor ≠ Verdict.resend ∧
  (64 = (withSess (ackCtx 64 2 64 true) (reading Stage.waitAck)).params.pages ∨ (withSess (ackCtx 64 2 64 true)
    (reading Stage.waitAck)).closing = true) := by
  decide +kernel

theorem witness_CallsAreClosed_callee :
  (calleeLine LineState.receiving inCtx accepted).inReset = false ∧
  ((calleeLine LineState.receiving inCtx accepted).line 3).ctx = some (withSess inCtx accepted) ∧
  (withSess inCtx accepted).sess = some accepted ∧ accepted.role = Role.callee ∧
  (accepted.stage = Stage.waitHead ∨ accepted.stage = Stage.waitTail ∨ accepted.stage = Stage.offered ∨
    accepted.stage = Stage.declined) ∧
  ((calleeLine LineState.receiving inCtx accepted).line 3).state.takesFrames = true ∧
  ((calleeLine LineState.receiving inCtx accepted).line 3).phase = none ∧ 64 ≤ 64 := by
  decide +kernel

theorem witness_CallsAreClosed_caller :
  (callerLine LineState.closing sampleCtx (closer CloseCause.lastPage)).inReset = false ∧
  (((callerLine LineState.closing sampleCtx (closer CloseCause.lastPage)).line 0).ctx = some (withSess sampleCtx
    (closer CloseCause.lastPage))) ∧
  (withSess sampleCtx (closer CloseCause.lastPage)).sess = some (closer CloseCause.lastPage) ∧
  (closer CloseCause.lastPage).role = Role.caller ∧ (closer CloseCause.lastPage).stage = Stage.waitEndAck ∧
  ((callerLine LineState.closing sampleCtx (closer CloseCause.lastPage)).line 0).state = LineState.closing ∧
  ((callerLine LineState.closing sampleCtx (closer CloseCause.lastPage)).line 0).phase = none ∧
  (closer CloseCause.lastPage).closeCause = some CloseCause.lastPage := by
  decide +kernel

theorem witness_ReplyTimerRepeatsOrReleases_repeats :
  (callerLine LineState.closing sampleCtx (requesting Stage.waitEndAck 2)).inReset = false ∧
  (((callerLine LineState.closing sampleCtx (requesting Stage.waitEndAck 2)).line 0).ctx = some (withSess sampleCtx
    (requesting Stage.waitEndAck 2))) ∧
  (withSess sampleCtx (requesting Stage.waitEndAck 2)).sess = some (requesting Stage.waitEndAck 2) ∧
  (Option.isSome ((callerLine LineState.closing sampleCtx (requesting Stage.waitEndAck 2)).line 0).frameReply =
    true) ∧
  ((callerLine LineState.closing sampleCtx (requesting Stage.waitEndAck 2)).line 0).state.takesFrames = true ∧
  ((requesting Stage.waitEndAck 2).stage = Stage.waitReply ∨ (requesting Stage.waitEndAck 2).stage = Stage.waitAck
    ∨ (requesting Stage.waitEndAck 2).stage = Stage.offered ∨ (requesting Stage.waitEndAck 2).stage =
    Stage.waitEndAck) ∧
  (requesting Stage.waitEndAck 2).request = some (sampleRequest 2) ∧ (sampleRequest 2).sent < 3 := by
  decide +kernel

theorem witness_ReplyTimerRepeatsOrReleases_third :
  (callerLine LineState.sending sampleCtx (requesting Stage.waitAck 3)).inReset = false ∧
  (((callerLine LineState.sending sampleCtx (requesting Stage.waitAck 3)).line 0).ctx = some (withSess sampleCtx
    (requesting Stage.waitAck 3))) ∧
  (withSess sampleCtx (requesting Stage.waitAck 3)).sess = some (requesting Stage.waitAck 3) ∧
  Option.isSome ((callerLine LineState.sending sampleCtx (requesting Stage.waitAck 3)).line 0).frameReply = true ∧
  ((callerLine LineState.sending sampleCtx (requesting Stage.waitAck 3)).line 0).state.takesFrames = true ∧
  ((requesting Stage.waitAck 3).stage = Stage.waitReply ∨ (requesting Stage.waitAck 3).stage = Stage.waitAck ∨
    (requesting Stage.waitAck 3).stage = Stage.offered) ∧
  (requesting Stage.waitAck 3).request = some (sampleRequest 3) ∧ 3 ≤ (sampleRequest 3).sent := by
  decide +kernel

theorem witness_ReplyTimerRepeatsOrReleases_counted :
  (callerLine LineState.negotiating sampleCtx watching).inReset = false ∧
  ((callerLine LineState.negotiating sampleCtx watching).line 0).ctx = some (withSess sampleCtx watching) ∧
  (withSess sampleCtx watching).sess = some watching ∧
  Option.isSome ((callerLine LineState.negotiating sampleCtx watching).line 0).frameReply = true ∧
  ((callerLine LineState.negotiating sampleCtx watching).line 0).state.takesFrames = true ∧
  (watching.stage = Stage.waitOffer ∨ watching.stage = Stage.declined ∨ watching.stage = Stage.waitHead ∨
    watching.stage = Stage.waitTail) ∧
  watching.expiries < 2 := by
  decide +kernel

theorem witness_ReplyTimerRepeatsOrReleases_watched :
  (calleeLine LineState.receiving inCtx watched).inReset = false ∧
  ((calleeLine LineState.receiving inCtx watched).line 3).ctx = some (withSess inCtx watched) ∧
  (withSess inCtx watched).sess = some watched ∧
  Option.isSome ((calleeLine LineState.receiving inCtx watched).line 3).frameReply = true ∧
  ((calleeLine LineState.receiving inCtx watched).line 3).state.takesFrames = true ∧
  (watched.stage = Stage.waitOffer ∨ watched.stage = Stage.declined ∨ watched.stage = Stage.waitHead ∨
    watched.stage = Stage.waitTail) ∧
  2 ≤ watched.expiries := by
  decide +kernel

theorem witness_ReplyTimerRepeatsOrReleases_lingers :
  (calleeLine LineState.closing inCtx lingering).inReset = false ∧
  ((calleeLine LineState.closing inCtx lingering).line 3).ctx = some (withSess inCtx lingering) ∧
  (withSess inCtx lingering).sess = some lingering ∧
  Option.isSome ((calleeLine LineState.closing inCtx lingering).line 3).frameReply = true ∧
  ((calleeLine LineState.closing inCtx lingering).line 3).state.takesFrames = true ∧ lingering.stage = Stage.linger := by
  decide +kernel

theorem witness_JobSubmitFillsARecord :
  onePage.inReset = false ∧ (sampleSubmit 5).document < 64 ∧ (sampleSubmit 5).desk < 16 ∧
  (sampleSubmit 5).priority ≤ 3 ∧ 1 ≤ (sampleSubmit 5).destinations.length ∧
  (sampleSubmit 5).destinations.length ≤ 16 ∧ (∀ t ∈ (sampleSubmit 5).destinations, dialStringOk t = true) ∧
  (onePage.doc (sampleSubmit 5).document).state ≠ DocState.free ∧
  ((onePage.doc (sampleSubmit 5).document).state = DocState.opened ∨ (onePage.doc (sampleSubmit 5).document).pages
    ≠ []) ∧
  onePage.freeJob = some 0 ∧ onePage.openLine = none := by
  decide +kernel

theorem witness_JobCancelEndsWaitingDestinations :
  mixed.inReset = false ∧ 31 < 32 ∧ mixed.job 31 = some mixedJob ∧ mixedJob.cancel = false ∧
  (∃ d ∈ mixedJob.dests, d.state = DestState.inCall) := by
  decide +kernel

theorem witness_TimeTicks :
  (stepping 1).inReset = false := by
  decide +kernel

theorem witness_DueTimersExpire_due :
  (queued (dueDest 0)).inReset = false ∧ (queued (dueDest 0)).job ↑31 = some (oneJob (dueDest 0)) ∧
  (oneJob (dueDest 0)).dests[↑0]? = some (dueDest 0) ∧ (dueDest 0).timer = true ∧
  (dueDest 0).state = DestState.waitRetry ∧ (dueDest 0).due.getD 0 ≤ (queued (dueDest 0)).dsp.time ∧
  (queued (dueDest 0)).openLine = none := by
  decide +kernel

theorem witness_DueTimersExpire_early :
  (queued (dueDest 1)).inReset = false ∧ (queued (dueDest 1)).job ↑31 = some (oneJob (dueDest 1)) ∧
  (oneJob (dueDest 1)).dests[↑0]? = some (dueDest 1) ∧
  ((dueDest 1).timer = false ∨ (dueDest 1).state ≠ DestState.waitRetry ∨ (queued (dueDest 1)).dsp.time < (dueDest
    1).due.getD 0) := by
  decide +kernel

theorem witness_DueTimersExpire_stopped :
  (queued idleDest).inReset = false ∧ (queued idleDest).job ↑31 = some (oneJob idleDest) ∧
  (oneJob idleDest).dests[↑0]? = some idleDest ∧
  (idleDest.timer = false ∨ idleDest.state ≠ DestState.waitRetry ∨ (queued idleDest).dsp.time < idleDest.due.getD 0) := by
  decide +kernel

theorem witness_DueDestinationIsDispatched :
  dispatchable.inReset = false ∧ dispatchable.dsp.order = [↑31] ∧ dispatchable.job ↑31 = some (oneJob (dueDest 0)) ∧
  (oneJob (dueDest 0)).state = JobState.active ∧ (oneJob (dueDest 0)).dests = [dueDest 0] ∧ (dueDest 0).timer = true ∧
  (dueDest 0).state = DestState.waitRetry ∧ (dueDest 0).due.getD 0 ≤ dispatchable.dsp.time ∧
  (dispatchable.doc (oneJob (dueDest 0)).document).state = DocState.closed ∧
  (dispatchable.doc (oneJob (dueDest 0)).document).pages ≠ [] ∧ dispatchable.openLine = some 3 ∧
  dispatchable.chg.reservations + dispatchable.chg.queue.length < 64 ∧
  dispatchable.classify (oneJob (dueDest 0)).desk (dueDest 0).dial = Classified.pass samplePass := by
  decide +kernel

theorem witness_TablesAreReplaced_station :
  onePage.inReset = false ∧ List.length sampleStation.tag ≤ 20 ∧ List.all sampleStation.tag isPrintable = true := by
  decide +kernel

theorem witness_TablesAreReplaced_coder :
  onePage.inReset = false ∧ sampleCoder.slot ≤ 1 ∧ sampleCoder.coding ≤ 1 := by
  decide +kernel

theorem witness_TablesAreReplaced_bands :
  onePage.inReset = false ∧ (List.replicate 168 3).length = 168 ∧ (∀ b ∈ List.replicate 168 3, b ≤ 3) := by
  decide +kernel

theorem witness_TablesAreReplaced_clock :
  onePage.inReset = false ∧ 6 ≤ 6 ∧ 863999 < 864000 := by
  decide +kernel

theorem witness_TablesAreReplaced_tariffs :
  onePage.inReset = false ∧ sampleTariffs.count ≤ 16 ∧ sampleTariffs.entries.length = sampleTariffs.count ∧
  (∀ e ∈ sampleTariffs.entries, e.id < 16) ∧ ((List.map (fun x => x.id) sampleTariffs.entries).Nodup) := by
  decide +kernel

theorem witness_RuleTablesAreReplacedWhole_plan :
  quiet.inReset = false ∧ (samplePlan [sampleDialArgs 15]).count ≤ 128 ∧
  (samplePlan [sampleDialArgs 15]).rules.length = (samplePlan [sampleDialArgs 15]).count ∧
  (∀ r ∈ (samplePlan [sampleDialArgs 15]).rules, dialRuleOk r = true) ∧
  ((List.map (fun x => x.digits) (samplePlan [sampleDialArgs 15]).rules).Nodup) := by
  decide +kernel

theorem witness_RuleTablesAreReplacedWhole_field :
  quiet.inReset = false ∧ (samplePlan [sampleDialArgs 15, sampleDialArgs 16]).count ≤ 128 ∧
  ((samplePlan [sampleDialArgs 15, sampleDialArgs 16]).rules.length = (samplePlan [sampleDialArgs 15,
    sampleDialArgs 16]).count) ∧
  (samplePlan [sampleDialArgs 15, sampleDialArgs 16]).rules[1]? = some (sampleDialArgs 16) ∧
  dialRuleOk (sampleDialArgs 16) = false ∧
  (∀ (j : ℕ) (q : DialRuleArgs), j < 1 → (samplePlan [sampleDialArgs 15, sampleDialArgs 16]).rules[j]? = some q →
    dialRuleOk q = true) := by
  refine ⟨?_, ?_, ?_, ?_, ?_, ?_⟩
  all_goals first
    | decide +kernel
    | (intro j q hj hq; obtain rfl : j = 0 := (by omega); cases hq; decide +kernel)

theorem witness_RuleTablesAreReplacedWhole_twice :
  quiet.inReset = false ∧ (samplePlan [sampleDialArgs 15, sampleDialArgs 15]).count ≤ 128 ∧
  ((samplePlan [sampleDialArgs 15, sampleDialArgs 15]).rules.length = (samplePlan [sampleDialArgs 15,
    sampleDialArgs 15]).count) ∧
  (∀ r ∈ (samplePlan [sampleDialArgs 15, sampleDialArgs 15]).rules, dialRuleOk r = true) ∧
  (¬(List.map (fun x => x.digits) (samplePlan [sampleDialArgs 15, sampleDialArgs 15]).rules).Nodup) := by
  decide +kernel

theorem witness_RuleTablesAreReplacedWhole_routes :
  quiet.inReset = false ∧ sampleRoutes.count ≤ 32 ∧ sampleRoutes.rules.length = sampleRoutes.count ∧
  (∀ r ∈ sampleRoutes.rules, routeRuleOk r = true) := by
  decide +kernel

theorem witness_PrintConfigSetsTheNextPagesWidth_refused :
  quiet.inReset = false ∧ (1000 < 512 ∨ 2048 < 1000 ∨ 1000 % 32 ≠ 0) := by
  decide +kernel

theorem witness_PrintConfigSetsTheNextPagesWidth_set :
  quiet.inReset = false ∧ 512 ≤ 2048 ∧ 2048 ≤ 2048 ∧ 2048 % 32 = 0 := by
  decide +kernel

theorem witness_PrintEntriesAreMadeAndCancelled_made :
  boardDoc.inReset = false ∧ 63 < 64 ∧ 3 ≤ 3 ∧ (boardDoc.doc 63).state = DocState.opened ∧
  boardDoc.finalPage 63 1 = false ∧ boardDoc.freeEntry = some 0 := by
  decide +kernel

theorem witness_PrintEntriesAreMadeAndCancelled_cancelled :
  oneEntry.inReset = false ∧ 31 < 32 ∧ oneEntry.entry 31 = some sampleEntry ∧ oneEntry.prt.current ≠ some 31 ∧
  (oneEntry.doc sampleEntry.document).state = DocState.opened ∧ sampleEntry.document < 64 := by
  decide +kernel

theorem witness_PrintLinesPassTheSlots_decoded :
  (printing (printPage 0 0 none none true) PrintPhase.lines).inReset = false ∧
  (printing (printPage 0 0 none none true) PrintPhase.lines).prt.engine = EngineState.printing ∧
  (printing (printPage 0 0 none none true) PrintPhase.lines).prt.phase = PrintPhase.lines ∧
  (printing (printPage 0 0 none none true) PrintPhase.lines).prt.current = some 31 ∧
  (printing (printPage 0 0 none none true) PrintPhase.lines).prt.page = some (printPage 0 0 none none true) ∧
  (printPage 0 0 none none true).decoded + 1 < (printPage 0 0 none none true).total ∧
  (printPage 0 0 none none true).slot (printPage 0 0 none none true).decoded = none := by
  decide +kernel

theorem witness_PrintLinesPassTheSlots_taken :
  (printing (printPage 2 1 none (some []) true) PrintPhase.lines).inReset = false ∧
  (printing (printPage 2 1 none (some []) true) PrintPhase.lines).prt.engine = EngineState.printing ∧
  (printing (printPage 2 1 none (some []) true) PrintPhase.lines).prt.phase = PrintPhase.lines ∧
  (printing (printPage 2 1 none (some []) true) PrintPhase.lines).prt.current = some 31 ∧
  ((printing (printPage 2 1 none (some []) true) PrintPhase.lines).prt.page = some (printPage 2 1 none (some [])
    true)) ∧
  (printing (printPage 2 1 none (some []) true) PrintPhase.lines).prt.ready = true ∧
  (printPage 2 1 none (some []) true).slot (printPage 2 1 none (some []) true).taken = some [] := by
  decide +kernel

theorem witness_PrintLinesPassTheSlots_none :
  (printing (printPage 0 0 none none true) PrintPhase.lines).inReset = false ∧
  (printing (printPage 0 0 none none true) PrintPhase.lines).prt.engine = EngineState.printing ∧
  (printing (printPage 0 0 none none true) PrintPhase.lines).prt.phase = PrintPhase.lines ∧
  (printing (printPage 0 0 none none true) PrintPhase.lines).prt.current = some 31 ∧
  (printing (printPage 0 0 none none true) PrintPhase.lines).prt.page = some (printPage 0 0 none none true) ∧
  ((printing (printPage 0 0 none none true) PrintPhase.lines).prt.ready = false ∨ (printPage 0 0 none none
    true).slot (printPage 0 0 none none true).taken = none) := by
  decide +kernel

theorem witness_PaperHoldsTheEngine_out :
  oneEntry.inReset = false ∧ oneEntry.prt.engine = EngineState.idle := by
  decide +kernel

theorem witness_PaperHoldsTheEngine_in :
  paperOut.inReset = false ∧ paperOut.prt.engine = EngineState.held ∧ paperOut.waitingEntries = [] := by
  decide +kernel

theorem witness_PaperHoldsTheEngine_printing :
  (printing (printPage 1 0 (some []) none false) PrintPhase.lines).inReset = false ∧
  (printing (printPage 1 0 (some []) none false) PrintPhase.lines).prt.engine = EngineState.printing ∧
  (printing (printPage 1 0 (some []) none false) PrintPhase.lines).prt.phase = PrintPhase.lines ∧
  (printing (printPage 1 0 (some []) none false) PrintPhase.lines).prt.current = some 31 ∧
  ((printing (printPage 1 0 (some []) none false) PrintPhase.lines).prt.page = some (printPage 1 0 (some []) none
    false)) ∧
  (printing (printPage 1 0 (some []) none false) PrintPhase.lines).entry 31 = some printEntry ∧ 31 < 32 ∧
  (printPage 1 0 (some []) none false).reader = false := by
  decide +kernel

theorem witness_CutEndsThePage_none :
  lastCut.inReset = false ∧ lastCut.prt.engine = EngineState.printing ∧ lastCut.prt.phase = PrintPhase.cut ∧
  lastCut.prt.current = none ∧ (lastCut.prt.paper = true → lastCut.waitingEntries = []) := by
  decide +kernel

theorem witness_DesksAreSetCreditedAndClosed_set :
  (funded quiet (-5)).inReset = false ∧ (funded quiet (-5)).dsp.order = [] ∧ 2 < 16 ∧
  ClassSet.ofMask 15 = some { localCall := true, national := true, intl := true, premium := true } ∧
  ((funded quiet (-5)).desk 2).kind = DeskKind.independent ∧ ((funded quiet (-5)).desk 2).pool = none ∧
  -65535 ≤ ((funded quiet (-5)).desk 2).balance := by
  decide +kernel

theorem witness_DesksAreSetCreditedAndClosed_credited :
  (funded quiet 5).inReset = false ∧ (funded quiet 5).dsp.order = [] ∧ 2 < 16 ∧
  -((funded quiet 5).desk 2).margin ≤ ((funded quiet 5).desk 2).balance + 2147483642 ∧
  ((funded quiet 5).desk 2).balance + 2147483642 ≤ 2147483647 := by
  decide +kernel

theorem witness_DesksAreSetCreditedAndClosed_refused :
  (funded quiet 5).inReset = false ∧ (funded quiet 5).dsp.order = [] ∧ 2 < 16 ∧
  (((funded quiet 5).desk 2).balance + -7 < -((funded quiet 5).desk 2).margin ∨ 2147483647 < ((funded quiet 5).desk
    2).balance + -7) := by
  decide +kernel

theorem witness_DesksAreSetCreditedAndClosed_closed :
  (funded quiet 5).inReset = false ∧ (funded quiet 5).dsp.order = [] ∧ 2 < 16 ∧ 2147483647 ≤ 2147483647 := by
  decide +kernel

theorem witness_StepBoundaryChargesOrReleases_charges :
  (stepping 1).inReset = false ∧ ((stepping 1).line 0).ctx = some stepCtx ∧ stepCtx.tariff = some sampleTariff ∧
  stepCtx.nextDue = some 50 ∧ stepCtx.desk = some 2 ∧ 2 < 16 ∧ stepCtx.pool = none ∧ 50 ≤ stepCtx.elapsed ∧
  -((stepping 1).desk 2).margin ≤ ((stepping 1).desk 2).balance - ↑sampleTariff.stepCp := by
  decide +kernel

theorem witness_StepBoundaryChargesOrReleases_releases :
  (stepping 0).inReset = false ∧ ((stepping 0).line 0).ctx = some stepCtx ∧ stepCtx.tariff = some sampleTariff ∧
  stepCtx.nextDue = some 50 ∧ stepCtx.desk = some 2 ∧ 2 < 16 ∧ stepCtx.pool = none ∧ 50 ≤ stepCtx.elapsed ∧
  ((stepping 0).desk 2).balance - ↑sampleTariff.stepCp < -((stepping 0).desk 2).margin ∧
  ((stepping 0).line 0).state.releasable = true ∧ sampleTariff.minSteps ≤ stepCtx.steps := by
  decide +kernel

theorem witness_FramesDecodeToThemselves :
  (Frame.instr 3 (Frame.pageAck 64 2 65535)).wf = true := by
  decide +kernel

theorem witness_CodedPagesDecodeToThemselves :
  (sampleSet 7).sound ∧ 1 ≤ 2048 ∧ 2048 ≤ 2048 ∧
  (∀ l ∈ [whiteLine 2048, List.replicate 2048 true], List.length l = 2048) := by
  simp only [CodeSet.sound]; decide +kernel

theorem witness_RunsAreWrittenFromTheirTable :
  (sampleSet 7).sound ∧ 32 ≤ 2048 ∧ 2048 ≤ 2048 := by
  simp only [CodeSet.sound]; decide +kernel

theorem witness_WorkingGainFollowsR31_formula :
  7 < 200 := by
  decide +kernel

theorem witness_CorrectionFollowsR34_column :
  quiet.scn.dark[0]? = some 0 ∧ quiet.scn.gain[0]? = some 256 ∧ [100][0]? = some 100 := by
  decide +kernel

theorem witness_CorrectionFollowsR34_page :
  ((scanning ScanState.waitPaper sampleSession).openScanPage sampleSession = (((scanning ScanState.waitPaper
    sampleSession).openScanPage sampleSession).1, true)) := by
  exact Prod.ext rfl (by decide +kernel)

theorem witness_MaskAndModeAreReplaced_kind :
  quiet.inReset = false ∧ 4096 ≤ 4096 := by
  decide +kernel

theorem witness_AllDocumentsIsNoDocument :
  quiet.inReset = false := by
  decide +kernel

theorem witness_HeldLineWaitsForASegment_held :
  (lowMemory 64).inReset = false ∧ (lowMemory 64).lcd.mode = CoderMode.board ∧
  (lowMemory 64).lcd.job = some (boardJob 0) ∧ (lowMemory 64).lcd.board = some boardRecord ∧
  (lowMemory 64).lcd.held = none ∧ widthOk (boardJob 0).width = true ∧
  (List.replicate 32 129).length = (boardJob 0).width / 8 ∧
  (boardJob 0).lineCount + 1 ≤ boardRecord.density.maxLines ∧
  (lowMemory 64).codeSet (boardJob 0).slot = some (sampleSet 7) ∧ (lowMemory 64).current (boardJob 0).ref = true ∧
  ((lowMemory 64).page (boardJob 0).ref.page).state = PageState.filling ∧
  ((lowMemory 64).page (boardJob 0).ref.page).source = Source.board ∧
  ((lowMemory 64).page (boardJob 0).ref.page).byteCount % 1024 = 0 ∧ (lowMemory 64).pmm.freeList.length ≤ 64 ∧
  (8 ≤ List.length ((lowMemory 64).lcd.bits ++ (sampleSet 7).codeLine (boardJob 0).coding (boardJob 0).lineCount
    (lowMemory 64).lcd.reference (unpackBits (List.replicate 32 129)))) := by
  decide +kernel

theorem witness_HeldLineWaitsForASegment_again :
  heldBoard.inReset = false ∧ heldBoard.lcd.mode = CoderMode.board ∧ heldBoard.lcd.job = some (boardJob 0) ∧
  heldBoard.lcd.board = some boardRecord ∧ heldBoard.lcd.held = some (heldOf heldBoard) ∧
  (heldOf heldBoard).line.isSome = true ∧ (heldOf heldBoard).bytes ≠ [] ∧ heldBoard.lcd.bits = [] ∧
  widthOk (boardJob 0).width = true ∧ List.replicate 32 129 ≠ [] ∧
  (List.replicate 32 129).length % ((boardJob 0).width / 8) = 0 ∧
  ((boardJob 0).lineCount + 1 + (List.replicate 32 129).length / ((boardJob 0).width / 8) ≤
    boardRecord.density.maxLines) ∧
  heldBoard.current (boardJob 0).ref = true ∧ (heldBoard.page (boardJob 0).ref.page).state = PageState.filling ∧
  (heldBoard.page (boardJob 0).ref.page).source = Source.board ∧
  (heldBoard.page (boardJob 0).ref.page).byteCount % 1024 = 0 ∧ heldBoard.pmm.freeList.length ≤ 64 := by
  decide +kernel

theorem witness_HeldLineWaitsForASegment_empty :
  heldBoard.inReset = false ∧ heldBoard.lcd.mode = CoderMode.board ∧ heldBoard.lcd.job = some (boardJob 0) ∧
  heldBoard.lcd.board = some boardRecord := by
  decide +kernel

theorem witness_SegmentsAreGranted_refused :
  (((lowMemory 64).page 255).source = Source.received ∧ (lowMemory 64).pmm.freeList = [] ∨ ((lowMemory 64).page
    255).source ≠ Source.received ∧ (lowMemory 64).pmm.freeList.length ≤ 64) := by
  decide +kernel

theorem witness_SegmentsAreGranted_granted :
  255 < 256 ∧ 0 < 2048 ∧ (lowMemory 65).pmm.freeList = 0 :: List.range' 1 64 ∧
  (((lowMemory 65).page 255).source = Source.received ∨ 64 ≤ (List.range' 1 64).length) := by
  decide +kernel

theorem witness_BytesAreAppended_inside :
  takingData.current writtenPage = true ∧ writtenPage.page < 256 ∧
  (takingData.page writtenPage.page).state = PageState.filling ∧
  (takingData.page writtenPage.page).byteCount % 1024 ≠ 0 ∧ (takingData.page writtenPage.page).last = some 3 := by
  decide +kernel

theorem witness_BytesAreAppended_none :
  (lowMemory 64).current writtenPage = true ∧ writtenPage.page < 256 ∧
  ((lowMemory 64).page writtenPage.page).state = PageState.filling ∧
  ((lowMemory 64).page writtenPage.page).byteCount % 1024 = 0 ∧ (lowMemory 64).grant writtenPage.page = none := by
  decide +kernel

theorem witness_StaleRequestsAreRefused :
  stalePage.gen ≠ onePage.pmm.generation := by
  decide +kernel

theorem witness_BoardPageIsEnded_padded :
  padding.inReset = false ∧ padding.lcd.mode = CoderMode.board ∧ padding.lcd.job = some (boardJob 1) ∧
  padding.lcd.board = some boardRecord ∧ padding.lcd.held = none ∧ padding.pmm.pendingScan = none ∧
  padding.prt.order = [] ∧ padding.current (boardJob 1).ref = true ∧
  (padding.page (boardJob 1).ref.page).state = PageState.filling ∧
  (padding.page (boardJob 1).ref.page).document = some boardRecord.document ∧ boardRecord.document < 64 ∧
  (boardJob 1).ref.page < 256 ∧ 0 < (boardJob 1).lineCount ∧ 1 ≤ List.length padding.lcd.bits ∧
  List.length padding.lcd.bits < 8 ∧ (padding.page (boardJob 1).ref.page).byteCount % 1024 ≠ 0 ∧
  (padding.page (boardJob 1).ref.page).last = some 3 := by
  decide +kernel

theorem witness_WeakColumnsFollowR32 :
  64 ≤ quiet.scn.config.target ∧ 7 ≤ 7 := by
  decide +kernel

theorem witness_PixelsFollowR36AndR37 :
  quiet.scn.bg[0]? = some 56320 ∧ (quiet.scn.correct [100])[0]? = some 100 := by
  decide +kernel

theorem witness_ScanUnitPausesForMemory :
  starvedSheet.inReset = false ∧ starvedSheet.reports = [] ∧ starvedSheet.scn.state = ScanState.scanning ∧
  starvedSheet.scn.session = some sheetSession ∧ starvedSheet.scn.lineRequest = some 256 ∧ sheetLine.length = 256 ∧
  (starvedSheet.codeLine (starvedSheet.scn.process sheetLine).1).2 = false := by
  decide +kernel

theorem witness_FreedMemoryResumesTheScan :
  pausedSheet.inReset = false ∧ 5 < 64 ∧ (pausedSheet.doc 5).state = DocState.closed ∧
  (pausedSheet.doc 5).sendHold = 0 ∧ (pausedSheet.doc 5).printHold = 0 ∧ (pausedSheet.doc 5).pages = [9] ∧ 9 < 256 ∧
  9 ≠ sheetJob.ref.page ∧ (pausedSheet.page 9).readers = 0 ∧ pausedSheet.chain 9 ≠ [] ∧
  64 < pausedSheet.pmm.freeList.length + (pausedSheet.chain 9).length ∧
  pausedSheet.scn.state = ScanState.pausedMemory ∧ pausedSheet.pmm.pendingScan = some ScanRequest.grant ∧
  pausedSheet.scn.session = some pausedSession ∧ pausedSession.ending = none ∧ pausedSheet.scn.edge = true ∧
  pausedSession.lineCount < pausedSession.density.maxLines ∧ pausedSheet.lcd.job = some sheetJob ∧
  pausedSheet.lcd.held = some (heldOf pausedSheet) ∧
  (heldOf pausedSheet).line = some ((heldOf pausedSheet).line.getD []) ∧ 1 ≤ (heldOf pausedSheet).bytes.length ∧
  (heldOf pausedSheet).bytes.length ≤ 1024 ∧ sheetJob.ref.page < 256 ∧ pausedSheet.current sheetJob.ref = true ∧
  (pausedSheet.page sheetJob.ref.page).state = PageState.filling ∧
  (pausedSheet.page sheetJob.ref.page).source = Source.scan ∧
  (pausedSheet.page sheetJob.ref.page).byteCount % 1024 = 0 := by
  decide +kernel

theorem witness_LineConfigFollowsR74_refused :
  (4 < List.length (sampleLineConfig 3 0).accessPrefix ∨ (∃ c ∈ (sampleLineConfig 3 0).accessPrefix, BitVec.toNat c
    < 48 ∨ 57 < BitVec.toNat c) ∨ 2 ≤ (sampleLineConfig 3 0).metering ∨ 3 ≤ (sampleLineConfig 3 0).parity ∨
    (sampleLineConfig 3 0).stopBits ≠ 1 ∧ (sampleLineConfig 3 0).stopBits ≠ 2 ∨ 2 ≤ (sampleLineConfig 3 0).bitOrder
    ∨ (sampleLineConfig 3 0).parity = 2 ∧ (sampleLineConfig 3 0).stopBits = 2) := by
  decide +kernel

theorem witness_LineConfigFollowsR74_taken :
  (¬(4 < List.length (sampleLineConfig 3 1).accessPrefix ∨ (∃ c ∈ (sampleLineConfig 3 1).accessPrefix, BitVec.toNat
    c < 48 ∨ 57 < BitVec.toNat c) ∨ 2 ≤ (sampleLineConfig 3 1).metering ∨ 3 ≤ (sampleLineConfig 3 1).parity ∨
    (sampleLineConfig 3 1).stopBits ≠ 1 ∧ (sampleLineConfig 3 1).stopBits ≠ 2 ∨ 2 ≤ (sampleLineConfig 3 1).bitOrder
    ∨ (sampleLineConfig 3 1).parity = 2 ∧ (sampleLineConfig 3 1).stopBits = 2)) := by
  decide +kernel

theorem witness_RingBurstsAreQualified_later :
  patient.inReset = false ∧ Option.isSome (patient.line 3).ringQual = true ∧
  (patient.line 3).state = LineState.ringing ∧ (patient.line 3).ringing = some oneBurst ∧
  oneBurst.bursts + 1 < (patient.line 3).config.ringCount := by
  decide +kernel

theorem witness_AnswerTestDecidesAtRingCount_first :
  firstRing.inReset = false ∧ Option.isSome (firstRing.line 3).ringQual = true ∧
  ((∃ q, (firstRing.line 3).state = LineState.ringing ∧ (firstRing.line 3).ringing = some q ∧ oneBurst =
    { time := q.time, bursts := q.bursts + 1, reason := q.reason, unset := q.unset }) ∨ (firstRing.line 3).state =
    LineState.idle ∧ oneBurst =
    { time := firstRing.now, bursts := 1, reason := none, unset := !firstRing.chg.clock.set }) ∧
  (firstRing.line 3).config.ringCount ≤ oneBurst.bursts ∧ (firstRing.line 3).config.enableIn = true ∧
  firstRing.chg.reservations + firstRing.chg.queue.length < 64 ∧ 32 ≤ firstRing.freeCount ∧
  ((firstRing.codeSet 0).isSome = true ∨ (firstRing.codeSet 1).isSome = true) := by
  refine ⟨?_, ?_, ?_, ?_, ?_, ?_, ?_, ?_⟩
  all_goals first
    | decide +kernel
    | (exact Or.inr ⟨by decide +kernel, by decide +kernel⟩)

theorem witness_LoopCheckDecides_tone :
  toneHeard.inReset = false ∧ Option.isSome (toneHeard.line 0).loopTimer = true ∧
  (toneHeard.line 0).state = LineState.seized ∧ (toneHeard.line 0).toneSeen = true ∧
  (toneHeard.line 0).ctx = some sampleCtx ∧ (toneHeard.line 0).config.accessPrefix ++ sampleCtx.dial = [48, 80, 87] ∧
  isKeyChar 48 = true := by
  decide +kernel

theorem witness_MeterPulseChargesDeskAndPool :
  (pooledPulse 20 10).inReset = false ∧ ((pooledPulse 20 10).line 3).ctx = some pooledPulseCtx ∧
  ((pooledPulse 20 10).line 3).counts = true ∧ Option.isSome ((pooledPulse 20 10).line 3).meterQual = true ∧
  pooledPulseCtx.metering = Metering.pulse ∧ pooledPulseCtx.desk = some 2 ∧ 2 < 16 ∧ pooledPulseCtx.pool = some 3 ∧
  3 < 16 ∧ 3 ≠ 2 ∧ 0 ≤ ((pooledPulse 20 10).desk 2).balance + ((pooledPulse 20 10).desk 2).margin ∧
  0 ≤ ((pooledPulse 20 10).desk 3).balance + ((pooledPulse 20 10).desk 3).margin := by
  decide +kernel

theorem witness_MeterPulseChargesDeskAndPool_released :
  (pooledPulse 20 (-1)).inReset = false ∧ ((pooledPulse 20 (-1)).line 3).ctx = some pooledPulseCtx ∧
  ((pooledPulse 20 (-1)).line 3).counts = true ∧ Option.isSome ((pooledPulse 20 (-1)).line 3).meterQual = true ∧
  pooledPulseCtx.metering = Metering.pulse ∧ pooledPulseCtx.desk = some 2 ∧ 2 < 16 ∧ pooledPulseCtx.pool = some 3 ∧
  3 < 16 ∧ 3 ≠ 2 ∧ 0 ≤ ((pooledPulse 20 (-1)).desk 2).balance + ((pooledPulse 20 (-1)).desk 2).margin ∧
  0 ≤ ((pooledPulse 20 (-1)).desk 3).balance + ((pooledPulse 20 (-1)).desk 3).margin := by
  decide +kernel

theorem witness_FarAnswerChargesDeskAndPool :
  pooledAwaiting.inReset = false ∧ (pooledAwaiting.line 0).state = LineState.awaitAnswer ∧
  (pooledAwaiting.line 0).ctx = some pooledCtx ∧ pooledCtx.metering = Metering.tariff ∧
  pooledCtx.tariff = some sampleTariff ∧ pooledCtx.desk = some 2 ∧ 2 < 16 ∧ pooledCtx.pool = some 3 ∧ 3 < 16 ∧ 3 ≠ 2 ∧
  (↑(sampleTariff.setupCp + sampleTariff.stepCp) ≤ (pooledAwaiting.desk 2).balance + (pooledAwaiting.desk 2).margin) ∧
  ((↑(sampleTariff.setupCp + sampleTariff.stepCp) * ↑(pooledAwaiting.desk 2).weight + 2048) / 4096 ≤
    (pooledAwaiting.desk 3).balance + (pooledAwaiting.desk 3).margin) := by
  decide +kernel

theorem witness_ClampedFirstChargeReleases :
  (funded awaiting 3).inReset = false ∧ ((funded awaiting 3).line 0).state = LineState.awaitAnswer ∧
  ((funded awaiting 3).line 0).ctx = some sampleCtx ∧ sampleCtx.metering = Metering.tariff ∧
  sampleCtx.tariff = some sampleTariff ∧ sampleTariff.minSteps ≤ 1 ∧ sampleCtx.dir = Direction.out ∧
  sampleCtx.sess = none ∧ sampleCtx.desk = some 2 ∧ 2 < 16 ∧ sampleCtx.pool = none ∧
  0 ≤ ((funded awaiting 3).desk 2).balance + ((funded awaiting 3).desk 2).margin ∧
  (((funded awaiting 3).desk 2).balance + ((funded awaiting 3).desk 2).margin < ↑(sampleTariff.setupCp +
    sampleTariff.stepCp)) := by
  decide +kernel

theorem witness_ChargeRecordFollowsR180 :
  ((guarding true).line 1).ctx = some endedCtx ∧ endedCtx.reason = some EndReason.completed := by
  decide +kernel

theorem witness_ReceivedByteTakesASegment_last :
  (segmentFull [7]).inReset = false ∧
  ((segmentFull [7]).line 3).ctx = some (withSess (pageCtx (some 1) (some 1)) (pageCallee Stage.receivingData)) ∧
  ((withSess (pageCtx (some 1) (some 1)) (pageCallee Stage.receivingData)).sess = some (pageCallee
    Stage.receivingData)) ∧
  (pageCallee Stage.receivingData).page = some writtenPage ∧ ((segmentFull [7]).line 3).frame = none ∧
  ((segmentFull [7]).line 3).phase = some { dir := PhaseDir.receive, step := 3, ready := true } ∧
  (segmentFull [7]).current writtenPage = true ∧ writtenPage.page < 256 ∧
  ((segmentFull [7]).page writtenPage.page).state = PageState.filling ∧
  ((segmentFull [7]).page writtenPage.page).source = Source.received ∧
  ((segmentFull [7]).page writtenPage.page).byteCount % 1024 = 0 ∧ ((segmentFull [7]).line 3).codec.slot = some 0 ∧
  (segmentFull [7]).codeSet 0 = some (sampleSet 7) ∧ (segmentFull [7]).prt.order = [] ∧
  (segmentFull [7]).pmm.freeList = [7] := by
  decide +kernel

theorem witness_ReceivedByteTakesASegment_none :
  (segmentFull []).inReset = false ∧
  ((segmentFull []).line 3).ctx = some (withSess (pageCtx (some 1) (some 1)) (pageCallee Stage.receivingData)) ∧
  ((withSess (pageCtx (some 1) (some 1)) (pageCallee Stage.receivingData)).sess = some (pageCallee
    Stage.receivingData)) ∧
  (pageCallee Stage.receivingData).page = some writtenPage ∧ ((segmentFull []).line 3).frame = none ∧
  ((segmentFull []).line 3).phase = some { dir := PhaseDir.receive, step := 3, ready := true } ∧
  (segmentFull []).current writtenPage = true ∧ writtenPage.page < 256 ∧
  ((segmentFull []).page writtenPage.page).state = PageState.filling ∧
  ((segmentFull []).page writtenPage.page).source = Source.received ∧
  ((segmentFull []).page writtenPage.page).byteCount % 1024 = 0 ∧ ((segmentFull []).line 3).codec.slot = some 0 ∧
  (segmentFull []).codeSet 0 = some (sampleSet 7) ∧ (segmentFull []).prt.order = [] ∧
  (segmentFull []).pmm.freeList = [] := by
  decide +kernel

theorem witness_OldAnswersAreDiscarded_renewed :
  renewedLine.inReset = false ∧ (renewedLine.line 0).phase = some (sendPhase false) ∧
  (sendPhase false).ready = false ∧ (sendPhase false).dir = PhaseDir.send ∧ (renewedLine.line 0).renewed = true ∧
  (∃ st d, PumpChar.dataStart st d ∈ (renewedLine.line 0).tx) := by
  refine ⟨?_, ?_, ?_, ?_, ?_, ?_⟩
  all_goals first
    | decide +kernel
    | (exact ⟨2, .send, by decide +kernel⟩)

theorem witness_OldAnswersAreDiscarded_awaiting :
  (trainingLine 0).inReset = false ∧ ((trainingLine 0).line 0).phase = some (sendPhase false) ∧
  (sendPhase false).ready = false ∧
  ((sendPhase false).dir = PhaseDir.receive ∨ ((trainingLine 0).line 0).renewed = false ∨ ∀ (st : ℕ) (d :
    PhaseDir), PumpChar.dataStart st d ∉ ((trainingLine 0).line 0).tx) := by
  refine ⟨?_, ?_, ?_, ?_⟩
  all_goals first
    | decide +kernel
    | (exact Or.inr (Or.inl (by decide +kernel)))

theorem witness_ChoiceFollowsR101_own :
  loaded.codeSet loaded.lcd.config.slot = some (sampleSet 7) ∧ (sampleSet 7).number ∈ [3, 7] := by
  decide +kernel

theorem witness_ChoiceFollowsR101_fields :
  (∀ p ∈ (onePage.doc 5).pages, (onePage.page p).width ≤ 256) ∧
  (256 = 0 ∧ (onePage.doc 5).pages = [] ∨ ∃ p ∈ (onePage.doc 5).pages, (onePage.page p).width = 256) := by
  decide +kernel

theorem witness_RouteFollowsR139_hit :
  routedLine.rtr.table[0]? = some (sampleRule 0) ∧
  ((fun r => r.mask.testBit ↑3 = true ∧ ∃ rest, [66, 67] = r.tagPrefix ++ rest) (sampleRule 0)) ∧
  (∀ (j : ℕ) (q : RouteRule), j < 0 → routedLine.rtr.table[j]? = some q → ¬(fun r => r.mask.testBit ↑3 = true ∧ ∃
    rest, [66, 67] = r.tagPrefix ++ rest) q) := by
  refine ⟨?_, ?_, ?_⟩
  all_goals first
    | decide +kernel
    | (first | exact ⟨by decide +kernel, [0x43], by decide +kernel⟩ | (intro j q h; omega))

theorem witness_CalleeDeclinesChoose_again :
  (calleeLine LineState.negotiating inCtx refusing).inReset = false ∧
  ((calleeLine LineState.negotiating inCtx refusing).line 3).ctx = some (withSess inCtx refusing) ∧
  (withSess inCtx refusing).sess = some refusing ∧ refusing.role = Role.callee ∧
  ((calleeLine LineState.negotiating inCtx refusing).line 3).state.takesFrames = true ∧
  ((calleeLine LineState.negotiating inCtx refusing).line 3).phase = none ∧ List.length (sampleChoose 8).tag ≤ 20 ∧
  refusing.stage = Stage.declined ∧ refusing.storedReply = some (Frame.decline DeclineReason.unsupported.code) := by
  decide +kernel

theorem witness_CallerTakesOffer_tooMany :
  (twoPages (callerLine LineState.negotiating sampleCtx (caller Stage.waitOffer))).inReset = false ∧
  (((twoPages (callerLine LineState.negotiating sampleCtx (caller Stage.waitOffer))).line 0).ctx = some (withSess
    sampleCtx (caller Stage.waitOffer))) ∧
  (withSess sampleCtx (caller Stage.waitOffer)).sess = some (caller Stage.waitOffer) ∧
  (caller Stage.waitOffer).role = Role.caller ∧ (caller Stage.waitOffer).stage = Stage.waitOffer ∧
  (((twoPages (callerLine LineState.negotiating sampleCtx (caller Stage.waitOffer))).line 0).state =
    LineState.negotiating) ∧
  ((twoPages (callerLine LineState.negotiating sampleCtx (caller Stage.waitOffer))).line 0).phase = none ∧
  (Frame.offer (sampleOffer true 1 [3, 7])).inRange = true ∧
  (withSess sampleCtx (caller Stage.waitOffer)).job = some (31, 0) ∧
  ((twoPages (callerLine LineState.negotiating sampleCtx (caller Stage.waitOffer))).job (31, 0).1 = some (oneJob
    inCallDest)) ∧
  (if (sampleOffer true 1 [3, 7]).receiveOk = false then CloseCause.declined DeclineReason.unsupported =
    CloseCause.declined DeclineReason.notReceiving else if (sampleOffer true 1 [3, 7]).maxPages < ((twoPages
    (callerLine LineState.negotiating sampleCtx (caller Stage.waitOffer))).doc (oneJob
    inCallDest).document).pages.length - (caller Stage.waitOffer).base then CloseCause.declined
    DeclineReason.unsupported = CloseCause.declined DeclineReason.unsupported else (twoPages (callerLine
    LineState.negotiating sampleCtx (caller Stage.waitOffer))).commonCode (sampleOffer true 1 [3, 7]).codes = none
    ∧ CloseCause.declined DeclineReason.unsupported = CloseCause.noCommonCode) := by
  decide +kernel

theorem witness_TransformationFollowsR172_short :
  (List.filter isKeyChar [48, 80]).length < (stripRule 2).strip := by
  decide +kernel

theorem witness_TransformationFollowsR172_strip :
  (List.filter isKeyChar [80, 48]).length = (stripRule 1).strip ∧
  ([80, 48] = [] ∨ ∃ u c, [80, 48] = u ++ [c] ∧ isKeyChar c = true) := by
  refine ⟨?_, ?_⟩
  all_goals first
    | decide +kernel
    | (exact Or.inr ⟨[0x50], 0x30, by decide +kernel, by decide +kernel⟩)

theorem witness_ClassificationFollowsR172_none :
  (∀ r ∈ (planned otherRule).chg.plan, ¬r.digits <+: List.filter isKeyChar [48, 80]) := by
  decide +kernel

theorem witness_ClassificationFollowsR172_blocked :
  blockedRule ∈ (planned blockedRule).chg.plan ∧ blockedRule.digits <+: List.filter isKeyChar [48] ∧
  (∀ q ∈ (planned blockedRule).chg.plan, q ≠ blockedRule → q.digits <+: List.filter isKeyChar [48] → List.length
    q.digits < List.length blockedRule.digits) ∧
  blockedRule.cls = NumberClass.blocked := by
  decide +kernel

theorem witness_ClassificationFollowsR172_noTariff :
  untariffedRule ∈ (planned untariffedRule).chg.plan ∧ untariffedRule.digits <+: List.filter isKeyChar [48] ∧
  (∀ q ∈ (planned untariffedRule).chg.plan, q ≠ untariffedRule → q.digits <+: List.filter isKeyChar [48] →
    List.length q.digits < List.length untariffedRule.digits) ∧
  untariffedRule.cls ≠ NumberClass.blocked ∧
  (tget (planned untariffedRule).chg.tariffs untariffedRule.tariff none = none ∨ transformDial untariffedRule [48]
    = none) := by
  decide +kernel

theorem witness_ClassificationFollowsR172_barred :
  sampleDialRule ∈ unpermitted.chg.plan ∧ sampleDialRule.digits <+: List.filter isKeyChar [48] ∧
  (∀ q ∈ unpermitted.chg.plan, q ≠ sampleDialRule → q.digits <+: List.filter isKeyChar [48] → List.length q.digits
    < List.length sampleDialRule.digits) ∧
  sampleDialRule.cls ≠ NumberClass.blocked ∧
  tget unpermitted.chg.tariffs sampleDialRule.tariff none = some sampleTariff ∧
  transformDial sampleDialRule [48] = some [48] ∧
  (¬((unpermitted.desk 2).classes.permits sampleDialRule.cls = true ∧ ∀ (p : ℕ), (unpermitted.desk 2).kind =
    DeskKind.member → (unpermitted.desk 2).pool = some p → (unpermitted.desk p).classes.permits sampleDialRule.cls
    = true)) := by
  refine ⟨?_, ?_, ?_, ?_, ?_, ?_, ?_⟩
  all_goals first
    | decide +kernel
    | ((intro h; exact absurd h.1 (by decide +kernel)))

theorem witness_ClassificationFollowsR172_funds :
  sampleDialRule ∈ (funded dispatchable 4).chg.plan ∧ sampleDialRule.digits <+: List.filter isKeyChar [48] ∧
  (∀ q ∈ (funded dispatchable 4).chg.plan, q ≠ sampleDialRule → q.digits <+: List.filter isKeyChar [48] →
    List.length q.digits < List.length sampleDialRule.digits) ∧
  sampleDialRule.cls ≠ NumberClass.blocked ∧
  tget (funded dispatchable 4).chg.tariffs sampleDialRule.tariff none = some sampleTariff ∧
  transformDial sampleDialRule [48] = some [48] ∧
  (((funded dispatchable 4).desk 2).classes.permits sampleDialRule.cls = true ∧ ∀ (p : ℕ), ((funded dispatchable
    4).desk 2).kind = DeskKind.member → ((funded dispatchable 4).desk 2).pool = some p → ((funded dispatchable
    4).desk p).classes.permits sampleDialRule.cls = true) ∧
  (¬(↑sampleTariff.setupCp + ↑sampleTariff.stepCp * ↑(max 1 sampleTariff.minSteps) ≤ ((funded dispatchable 4).desk
    2).balance ∧ ∀ (p : ℕ), ((funded dispatchable 4).desk 2).kind = DeskKind.member → ((funded dispatchable 4).desk
    2).pool = some p → ((↑sampleTariff.setupCp + ↑sampleTariff.stepCp * ↑(max 1 sampleTariff.minSteps)) * ↑((funded
    dispatchable 4).desk 2).weight + 2048) / 4096 ≤ ((funded dispatchable 4).desk p).balance)) := by
  refine ⟨?_, ?_, ?_, ?_, ?_, ?_, ?_, ?_⟩
  all_goals first
    | decide +kernel
    | (first | exact ⟨by decide +kernel, fun p h => absurd h (by decide +kernel)⟩ | (intro h; exact absurd h.1 (by decide +kernel)))

theorem witness_ClassificationFollowsR172_pass :
  sampleDialRule ∈ (funded dispatchable 5).chg.plan ∧ sampleDialRule.digits <+: List.filter isKeyChar [48] ∧
  (∀ q ∈ (funded dispatchable 5).chg.plan, q ≠ sampleDialRule → q.digits <+: List.filter isKeyChar [48] →
    List.length q.digits < List.length sampleDialRule.digits) ∧
  sampleDialRule.cls ≠ NumberClass.blocked ∧
  tget (funded dispatchable 5).chg.tariffs sampleDialRule.tariff none = some sampleTariff ∧
  transformDial sampleDialRule [48] = some [48] ∧
  (((funded dispatchable 5).desk 2).classes.permits sampleDialRule.cls = true ∧ ∀ (p : ℕ), ((funded dispatchable
    5).desk 2).kind = DeskKind.member → ((funded dispatchable 5).desk 2).pool = some p → ((funded dispatchable
    5).desk p).classes.permits sampleDialRule.cls = true) ∧
  (↑sampleTariff.setupCp + ↑sampleTariff.stepCp * ↑(max 1 sampleTariff.minSteps) ≤ ((funded dispatchable 5).desk
    2).balance ∧ ∀ (p : ℕ), ((funded dispatchable 5).desk 2).kind = DeskKind.member → ((funded dispatchable 5).desk
    2).pool = some p → ((↑sampleTariff.setupCp + ↑sampleTariff.stepCp * ↑(max 1 sampleTariff.minSteps)) * ↑((funded
    dispatchable 5).desk 2).weight + 2048) / 4096 ≤ ((funded dispatchable 5).desk p).balance) := by
  refine ⟨?_, ?_, ?_, ?_, ?_, ?_, ?_, ?_⟩
  all_goals first
    | decide +kernel
    | (exact ⟨by decide +kernel, fun p h => absurd h (by decide +kernel)⟩)

theorem witness_FaultyLoadsAreRefused_station :
  quiet.inReset = false ∧
  (20 < List.length faultyStation.tag ∨ ∃ c ∈ faultyStation.tag, BitVec.toNat c < 32 ∨ 126 < BitVec.toNat c) := by
  decide +kernel

theorem witness_FaultyLoadsAreRefused_coder :
  quiet.inReset = false ∧ (2 ≤ faultyCoder.slot ∨ 2 ≤ faultyCoder.coding) := by
  decide +kernel

theorem witness_FaultyLoadsAreRefused_bands :
  quiet.inReset = false ∧ ((List.replicate 168 4).length ≠ 168 ∨ ∃ b ∈ List.replicate 168 4, 3 < b) := by
  decide +kernel

theorem witness_FaultyLoadsAreRefused_clock :
  quiet.inReset = false ∧ (6 < 6 ∨ 863999 < 864000) := by
  decide +kernel

theorem witness_FaultyLoadsAreRefused_tariff :
  quiet.inReset = false ∧
  (16 < (tariffsOf [16]).count ∨ (tariffsOf [16]).entries.length ≠ (tariffsOf [16]).count ∨ ∃ e ∈ (tariffsOf
    [16]).entries, 16 ≤ e.id) := by
  decide +kernel

theorem witness_FaultyLoadsAreRefused_twice :
  quiet.inReset = false ∧ (tariffsOf [15, 15]).count ≤ 16 ∧
  (tariffsOf [15, 15]).entries.length = (tariffsOf [15, 15]).count ∧ (∀ e ∈ (tariffsOf [15, 15]).entries, e.id < 16) ∧
  (¬(List.map (fun x => x.id) (tariffsOf [15, 15]).entries).Nodup) := by
  decide +kernel

theorem witness_RuleTablesAreReplacedWhole_later :
  quiet.inReset = false ∧ (samplePlan [sampleDialArgs 15, sampleDialArgs 15]).count ≤ 128 ∧
  ((samplePlan [sampleDialArgs 15, sampleDialArgs 15]).rules.length = (samplePlan [sampleDialArgs 15,
    sampleDialArgs 15]).count) ∧
  (∀ q ∈ (samplePlan [sampleDialArgs 15, sampleDialArgs 15]).rules, dialRuleOk q = true) ∧
  (samplePlan [sampleDialArgs 15, sampleDialArgs 15]).rules[1]? = some (sampleDialArgs 15) ∧
  (∃ j q, j < 1 ∧ (samplePlan [sampleDialArgs 15, sampleDialArgs 15]).rules[j]? = some q ∧ q.digits =
    (sampleDialArgs 15).digits) ∧
  ((List.map (fun x => x.digits) (List.take 1 (samplePlan [sampleDialArgs 15, sampleDialArgs 15]).rules)).Nodup) := by
  refine ⟨?_, ?_, ?_, ?_, ?_, ?_, ?_⟩
  all_goals first
    | decide +kernel
    | (exact ⟨0, sampleDialArgs 15, by decide +kernel, by decide +kernel, by decide +kernel⟩)

theorem witness_RuleTablesAreReplacedWhole_faulty :
  quiet.inReset = false ∧ faultyRoutes.count ≤ 32 ∧ faultyRoutes.rules.length = faultyRoutes.count ∧
  faultyRoutes.rules[1]? = some maskless ∧ routeRuleOk maskless = false ∧
  (∀ (j : ℕ) (q : RouteRule), j < 1 → faultyRoutes.rules[j]? = some q → routeRuleOk q = true) := by
  refine ⟨?_, ?_, ?_, ?_, ?_, ?_⟩
  all_goals first
    | decide +kernel
    | (intro j q hj hq; obtain rfl : j = 0 := (by omega); cases hq; decide +kernel)

theorem witness_RuleTablesAreReplacedWhole_count :
  quiet.inReset = false ∧ (32 < longRoutes.count ∨ longRoutes.rules.length ≠ longRoutes.count) := by
  decide +kernel

theorem witness_RuleTablesAreReplacedWhole_planCount :
  quiet.inReset = false ∧ (128 < shortPlan.count ∨ shortPlan.rules.length ≠ shortPlan.count) := by
  decide +kernel

theorem witness_PrintLinesPassTheSlots_last :
  (printing (printPage 1 0 (some []) none true) PrintPhase.lines).inReset = false ∧
  (printing (printPage 1 0 (some []) none true) PrintPhase.lines).prt.engine = EngineState.printing ∧
  (printing (printPage 1 0 (some []) none true) PrintPhase.lines).prt.phase = PrintPhase.lines ∧
  (printing (printPage 1 0 (some []) none true) PrintPhase.lines).prt.current = some 31 ∧
  ((printing (printPage 1 0 (some []) none true) PrintPhase.lines).prt.page = some (printPage 1 0 (some []) none
    true)) ∧
  (printPage 1 0 (some []) none true).decoded + 1 = (printPage 1 0 (some []) none true).total ∧
  (printPage 1 0 (some []) none true).slot (printPage 1 0 (some []) none true).decoded = none ∧
  (printing (printPage 1 0 (some []) none true) PrintPhase.lines).entry 31 = some printEntry ∧ 31 < 32 ∧
  ((printing (printPage 1 0 (some []) none true) PrintPhase.lines).current (printPage 1 0 (some []) none true).ref
    = true) ∧
  (printPage 1 0 (some []) none true).ref.page < 256 ∧
  (((printing (printPage 1 0 (some []) none true) PrintPhase.lines).page (printPage 1 0 (some []) none
    true).ref.page).document.isSome = true) ∧
  (0 < ((printing (printPage 1 0 (some []) none true) PrintPhase.lines).page (printPage 1 0 (some []) none
    true).ref.page).prints) := by
  decide +kernel

theorem witness_PrintLinesPassTheSlots_full :
  (printing (printPage 1 0 (some []) (some []) true) PrintPhase.lines).inReset = false ∧
  (printing (printPage 1 0 (some []) (some []) true) PrintPhase.lines).prt.engine = EngineState.printing ∧
  (printing (printPage 1 0 (some []) (some []) true) PrintPhase.lines).prt.phase = PrintPhase.lines ∧
  (printing (printPage 1 0 (some []) (some []) true) PrintPhase.lines).prt.current = some 31 ∧
  ((printing (printPage 1 0 (some []) (some []) true) PrintPhase.lines).prt.page = some (printPage 1 0 (some [])
    (some []) true)) ∧
  (printPage 1 0 (some []) (some []) true).slot (printPage 1 0 (some []) (some []) true).decoded ≠ none := by
  decide +kernel

theorem witness_ArbiterTakesTheMostUrgent :
  yielding.arbiterPick = some 30 := by
  decide +kernel

theorem witness_ChoiceStartsAPage :
  heldReady.inReset = false ∧ heldReady.prt.engine = EngineState.held ∧ heldReady.arbiterPick = some 31 ∧
  heldReady.entry 31 = some waitingEntry ∧ 31 < 32 ∧
  heldReady.docPage waitingEntry.document waitingEntry.next = some 9 ∧ 9 < 256 ∧
  (heldReady.page 9).state.readable = true ∧ (heldReady.page 9).document.isSome = true ∧
  (heldReady.page 9).prints = 0 ∧ 0 < (heldReady.page 9).lineCount := by
  decide +kernel

theorem witness_PaperHoldsTheEngine_reader :
  (printing (printPage 0 0 none none true) PrintPhase.lines).inReset = false ∧
  (printing (printPage 0 0 none none true) PrintPhase.lines).prt.engine = EngineState.printing ∧
  (printing (printPage 0 0 none none true) PrintPhase.lines).prt.phase = PrintPhase.lines ∧
  (printing (printPage 0 0 none none true) PrintPhase.lines).prt.current = some 31 ∧
  (printing (printPage 0 0 none none true) PrintPhase.lines).prt.page = some (printPage 0 0 none none true) ∧
  (printing (printPage 0 0 none none true) PrintPhase.lines).entry 31 = some printEntry ∧ 31 < 32 ∧
  (printPage 0 0 none none true).reader = true ∧
  (printing (printPage 0 0 none none true) PrintPhase.lines).current (printPage 0 0 none none true).ref = true ∧
  (printPage 0 0 none none true).ref.page < 256 ∧
  (((printing (printPage 0 0 none none true) PrintPhase.lines).page (printPage 0 0 none none
    true).ref.page).document.isSome = true) ∧
  (0 < ((printing (printPage 0 0 none none true) PrintPhase.lines).page (printPage 0 0 none none
    true).ref.page).prints) := by
  decide +kernel

theorem witness_CutGoesOnOrYields_goesOn :
  cutting.inReset = false ∧ cutting.prt.engine = EngineState.printing ∧ cutting.prt.phase = PrintPhase.cut ∧
  cutting.prt.current = some 31 ∧ cutting.entry 31 = some printEntry ∧ 31 < 32 ∧
  printEntry.state = EntryState.printing ∧ printEntry.pastPage = some nextEntry ∧
  cutting.finalPage nextEntry.document nextEntry.next = true ∧ cutting.prt.paper = true ∧
  ((31 = 31 ∧ nextEntry = nextEntry ∧ ∀ w ∈ cutting.waitingEntries, printEntry.priority ≤ w.2.priority) ∨
    cutting.arbiterPick = some 31 ∧ cutting.entry 31 = some nextEntry ∧ 31 < 32 ∧ nextEntry.priority <
    printEntry.priority) ∧
  cutting.docPage nextEntry.document nextEntry.next = some 10 ∧ 10 < 256 ∧ (cutting.page 10).state.readable = true ∧
  (cutting.page 10).document.isSome = true ∧ (cutting.page 10).prints = 0 ∧ 0 < (cutting.page 10).lineCount := by
  decide +kernel

theorem witness_CutGoesOnOrYields_yields :
  yielding.inReset = false ∧ yielding.prt.engine = EngineState.printing ∧ yielding.prt.phase = PrintPhase.cut ∧
  yielding.prt.current = some 31 ∧ yielding.entry 31 = some printEntry ∧ 31 < 32 ∧
  printEntry.state = EntryState.printing ∧ printEntry.pastPage = some nextEntry ∧
  yielding.finalPage nextEntry.document nextEntry.next = true ∧ yielding.prt.paper = true ∧
  ((30 = 31 ∧ urgentEntry = nextEntry ∧ ∀ w ∈ yielding.waitingEntries, printEntry.priority ≤ w.2.priority) ∨
    yielding.arbiterPick = some 30 ∧ yielding.entry 30 = some urgentEntry ∧ 30 < 32 ∧ urgentEntry.priority <
    printEntry.priority) ∧
  yielding.docPage urgentEntry.document urgentEntry.next = some 9 ∧ 9 < 256 ∧
  (yielding.page 9).state.readable = true ∧ (yielding.page 9).document.isSome = true ∧ (yielding.page 9).prints = 0 ∧
  0 < (yielding.page 9).lineCount := by
  decide +kernel

theorem witness_DeskStandingIsSet_bad :
  (pooled quiet 10 10).inReset = false ∧ (pooled quiet 10 10).dsp.order = [] ∧
  (16 ≤ (deskArgs 4 1 4 0 0).desk ∨ 3 ≤ (deskArgs 4 1 4 0 0).kind ∨ 16 ≤ (deskArgs 4 1 4 0 0).classes ∨ (deskArgs 4
    1 4 0 0).kind = 1 ∧ (16 ≤ (deskArgs 4 1 4 0 0).pool ∨ (deskArgs 4 1 4 0 0).pool = (deskArgs 4 1 4 0 0).desk ∨
    ((pooled quiet 10 10).desk (deskArgs 4 1 4 0 0).pool).kind ≠ DeskKind.pool)) := by
  decide +kernel

theorem witness_DeskStandingIsSet_pooled :
  (pooled quiet 10 10).inReset = false ∧ (pooled quiet 10 10).dsp.order = [] ∧
  (¬(16 ≤ (deskArgs 3 0 0 0 0).desk ∨ 3 ≤ (deskArgs 3 0 0 0 0).kind ∨ 16 ≤ (deskArgs 3 0 0 0 0).classes ∨ (deskArgs
    3 0 0 0 0).kind = 1 ∧ (16 ≤ (deskArgs 3 0 0 0 0).pool ∨ (deskArgs 3 0 0 0 0).pool = (deskArgs 3 0 0 0 0).desk ∨
    ((pooled quiet 10 10).desk (deskArgs 3 0 0 0 0).pool).kind ≠ DeskKind.pool))) ∧
  (((pooled quiet 10 10).desk (deskArgs 3 0 0 0 0).desk).kind = DeskKind.pool ∧ (if (deskArgs 3 0 0 0 0).kind = 0
    then DeskKind.independent else if (deskArgs 3 0 0 0 0).kind = 1 then DeskKind.member else DeskKind.pool) ≠
    DeskKind.pool ∧ ∃ i < 16, ((pooled quiet 10 10).desk i).kind = DeskKind.member ∧ ((pooled quiet 10 10).desk
    i).pool = some (deskArgs 3 0 0 0 0).desk) := by
  decide +kernel

theorem witness_DeskStandingIsSet_busy :
  busyDesk.inReset = false ∧ busyDesk.dsp.order = [] ∧
  (¬(16 ≤ (deskArgs 2 0 0 0 0).desk ∨ 3 ≤ (deskArgs 2 0 0 0 0).kind ∨ 16 ≤ (deskArgs 2 0 0 0 0).classes ∨ (deskArgs
    2 0 0 0 0).kind = 1 ∧ (16 ≤ (deskArgs 2 0 0 0 0).pool ∨ (deskArgs 2 0 0 0 0).pool = (deskArgs 2 0 0 0 0).desk ∨
    (busyDesk.desk (deskArgs 2 0 0 0 0).pool).kind ≠ DeskKind.pool))) ∧
  (¬((busyDesk.desk (deskArgs 2 0 0 0 0).desk).kind = DeskKind.pool ∧ (if (deskArgs 2 0 0 0 0).kind = 0 then
    DeskKind.independent else if (deskArgs 2 0 0 0 0).kind = 1 then DeskKind.member else DeskKind.pool) ≠
    DeskKind.pool ∧ ∃ i < 16, (busyDesk.desk i).kind = DeskKind.member ∧ (busyDesk.desk i).pool = some (deskArgs 2
    0 0 0 0).desk)) ∧
  (0 < (busyDesk.desk (deskArgs 2 0 0 0 0).desk).active ∧ (((busyDesk.desk (deskArgs 2 0 0 0 0).desk).kind ≠ if
    (deskArgs 2 0 0 0 0).kind = 0 then DeskKind.independent else if (deskArgs 2 0 0 0 0).kind = 1 then
    DeskKind.member else DeskKind.pool) ∨ (if (deskArgs 2 0 0 0 0).kind = 0 then DeskKind.independent else if
    (deskArgs 2 0 0 0 0).kind = 1 then DeskKind.member else DeskKind.pool) = DeskKind.member ∧ (busyDesk.desk
    (deskArgs 2 0 0 0 0).desk).pool ≠ some (deskArgs 2 0 0 0 0).pool)) := by
  decide +kernel

theorem witness_DeskStandingIsSet_member :
  (pooled quiet 10 10).inReset = false ∧ (pooled quiet 10 10).dsp.order = [] ∧
  (¬(16 ≤ (deskArgs 4 1 3 4097 65536).desk ∨ 3 ≤ (deskArgs 4 1 3 4097 65536).kind ∨ 16 ≤ (deskArgs 4 1 3 4097
    65536).classes ∨ (deskArgs 4 1 3 4097 65536).kind = 1 ∧ (16 ≤ (deskArgs 4 1 3 4097 65536).pool ∨ (deskArgs 4 1
    3 4097 65536).pool = (deskArgs 4 1 3 4097 65536).desk ∨ ((pooled quiet 10 10).desk (deskArgs 4 1 3 4097
    65536).pool).kind ≠ DeskKind.pool))) ∧
  (¬(((pooled quiet 10 10).desk (deskArgs 4 1 3 4097 65536).desk).kind = DeskKind.pool ∧ (if (deskArgs 4 1 3 4097
    65536).kind = 0 then DeskKind.independent else if (deskArgs 4 1 3 4097 65536).kind = 1 then DeskKind.member
    else DeskKind.pool) ≠ DeskKind.pool ∧ ∃ i < 16, ((pooled quiet 10 10).desk i).kind = DeskKind.member ∧ ((pooled
    quiet 10 10).desk i).pool = some (deskArgs 4 1 3 4097 65536).desk)) ∧
  (¬(0 < ((pooled quiet 10 10).desk (deskArgs 4 1 3 4097 65536).desk).active ∧ ((((pooled quiet 10 10).desk
    (deskArgs 4 1 3 4097 65536).desk).kind ≠ if (deskArgs 4 1 3 4097 65536).kind = 0 then DeskKind.independent else
    if (deskArgs 4 1 3 4097 65536).kind = 1 then DeskKind.member else DeskKind.pool) ∨ (if (deskArgs 4 1 3 4097
    65536).kind = 0 then DeskKind.independent else if (deskArgs 4 1 3 4097 65536).kind = 1 then DeskKind.member
    else DeskKind.pool) = DeskKind.member ∧ ((pooled quiet 10 10).desk (deskArgs 4 1 3 4097 65536).desk).pool ≠
    some (deskArgs 4 1 3 4097 65536).pool))) ∧
  -65535 ≤ ((pooled quiet 10 10).desk (deskArgs 4 1 3 4097 65536).desk).balance := by
  decide +kernel

theorem witness_DeskStandingIsSet_pool :
  (pooled quiet 10 10).inReset = false ∧ (pooled quiet 10 10).dsp.order = [] ∧
  (¬(16 ≤ (deskArgs 4 2 0 0 65535).desk ∨ 3 ≤ (deskArgs 4 2 0 0 65535).kind ∨ 16 ≤ (deskArgs 4 2 0 0 65535).classes
    ∨ (deskArgs 4 2 0 0 65535).kind = 1 ∧ (16 ≤ (deskArgs 4 2 0 0 65535).pool ∨ (deskArgs 4 2 0 0 65535).pool =
    (deskArgs 4 2 0 0 65535).desk ∨ ((pooled quiet 10 10).desk (deskArgs 4 2 0 0 65535).pool).kind ≠
    DeskKind.pool))) ∧
  (¬(((pooled quiet 10 10).desk (deskArgs 4 2 0 0 65535).desk).kind = DeskKind.pool ∧ (if (deskArgs 4 2 0 0
    65535).kind = 0 then DeskKind.independent else if (deskArgs 4 2 0 0 65535).kind = 1 then DeskKind.member else
    DeskKind.pool) ≠ DeskKind.pool ∧ ∃ i < 16, ((pooled quiet 10 10).desk i).kind = DeskKind.member ∧ ((pooled
    quiet 10 10).desk i).pool = some (deskArgs 4 2 0 0 65535).desk)) ∧
  (¬(0 < ((pooled quiet 10 10).desk (deskArgs 4 2 0 0 65535).desk).active ∧ ((((pooled quiet 10 10).desk (deskArgs
    4 2 0 0 65535).desk).kind ≠ if (deskArgs 4 2 0 0 65535).kind = 0 then DeskKind.independent else if (deskArgs 4
    2 0 0 65535).kind = 1 then DeskKind.member else DeskKind.pool) ∨ (if (deskArgs 4 2 0 0 65535).kind = 0 then
    DeskKind.independent else if (deskArgs 4 2 0 0 65535).kind = 1 then DeskKind.member else DeskKind.pool) =
    DeskKind.member ∧ ((pooled quiet 10 10).desk (deskArgs 4 2 0 0 65535).desk).pool ≠ some (deskArgs 4 2 0 0
    65535).pool))) ∧
  -65535 ≤ ((pooled quiet 10 10).desk (deskArgs 4 2 0 0 65535).desk).balance := by
  decide +kernel

theorem witness_DesksOutOfRangeAreRefused :
  quiet.inReset = false ∧ 16 ≤ 16 := by
  decide +kernel

theorem witness_AllPeriodsAreClosed_all :
  (pooled quiet 5 5).inReset = false ∧ (pooled quiet 5 5).dsp.order = [] := by
  decide +kernel

theorem witness_AllPeriodsAreClosed_one :
  (pooled quiet 5 5).inReset = false ∧ (pooled quiet 5 5).dsp.order = [] ∧ 3 < 16 := by
  decide +kernel

theorem witness_BoundaryFallsAtItsTime :
  earlyLine.inReset = false ∧ (earlyLine.line 0).ctx = some earlyCtx ∧
  (earlyCtx.nextDue = none ∨ earlyCtx.tariff = none ∨ ∃ due, earlyCtx.nextDue = some due ∧ earlyCtx.elapsed < due) := by
  decide +kernel

theorem witness_StepBoundaryChargesDeskAndPool_charges :
  (pooledStep 1 0).inReset = false ∧ ((pooledStep 1 0).line 0).ctx = some pooledStepCtx ∧
  pooledStepCtx.tariff = some sampleTariff ∧ pooledStepCtx.nextDue = some 50 ∧ pooledStepCtx.desk = some 2 ∧ 2 < 16 ∧
  pooledStepCtx.pool = some 3 ∧ 3 < 16 ∧ 3 ≠ 2 ∧ 50 ≤ pooledStepCtx.elapsed ∧
  -((pooledStep 1 0).desk 2).margin ≤ ((pooledStep 1 0).desk 2).balance - ↑sampleTariff.stepCp ∧
  (-((pooledStep 1 0).desk 3).margin ≤ ((pooledStep 1 0).desk 3).balance - (↑sampleTariff.stepCp * ↑((pooledStep 1
    0).desk 2).weight + 2048) / 4096) := by
  decide +kernel

theorem witness_StepBoundaryChargesDeskAndPool_releases :
  (pooledStep 1 (-1)).inReset = false ∧ ((pooledStep 1 (-1)).line 0).ctx = some pooledStepCtx ∧
  pooledStepCtx.tariff = some sampleTariff ∧ pooledStepCtx.nextDue = some 50 ∧ pooledStepCtx.desk = some 2 ∧ 2 < 16 ∧
  pooledStepCtx.pool = some 3 ∧ 3 < 16 ∧ 3 ≠ 2 ∧ 50 ≤ pooledStepCtx.elapsed ∧
  (((pooledStep 1 (-1)).desk 2).balance - ↑sampleTariff.stepCp < -((pooledStep 1 (-1)).desk 2).margin ∨
    ((pooledStep 1 (-1)).desk 3).balance - (↑sampleTariff.stepCp * ↑((pooledStep 1 (-1)).desk 2).weight + 2048) /
    4096 < -((pooledStep 1 (-1)).desk 3).margin) ∧
  ((pooledStep 1 (-1)).line 0).state.releasable = true ∧ sampleTariff.minSteps ≤ pooledStepCtx.steps := by
  decide +kernel

theorem witness_CalibrateBeginsTheDarkPass_busySheet :
  sheetInCalibration.inReset = false ∧ sheetInCalibration.scn.state ≠ ScanState.idle := by
  decide +kernel

theorem witness_StaleRouteRequestsAreShort :
  (((offeredLine true).line 3).state.inCall = false ∨ ((offeredLine true).line 3).ctx = none ∨ ∃ x, ((offeredLine
    true).line 3).ctx = some x ∧ x.callId ≠ 3) := by
  decide +kernel

theorem witness_StaleRouteRequestsAreShort_idle :
  ((loaded.line 0).state.inCall = false ∨ (loaded.line 0).ctx = none ∨ ∃ x, (loaded.line 0).ctx = some x ∧ x.callId
    ≠ 0) := by
  decide +kernel

theorem witness_ScanPagesEnd_padding :
  sheetUnpadded.inReset = false ∧ sheetUnpadded.reports = [] ∧ sheetUnpadded.scn.state = ScanState.scanning ∧
  sheetUnpadded.scn.session = some (sheetEndSession 5) ∧ sheetUnpadded.scn.lineRequest = some 256 ∧
  sheetLine.length = 256 ∧ sheetUnpadded.lcd.job = some sheetJob ∧
  (sheetUnpadded.codeSet sheetJob.slot).isSome = true ∧ sheetUnpadded.current sheetJob.ref = true ∧
  sheetJob.ref.page < 256 ∧ (sheetUnpadded.page sheetJob.ref.page).state = PageState.filling ∧
  sheetUnpadded.prt.order = [] ∧
  (sheetUnpadded.scn.edge = false ∨ (sheetEndSession 5).density.maxLines ≤ (sheetEndSession 5).lineCount + 1) ∧
  (sheetUnpadded.codeLine (sheetUnpadded.scn.process sheetLine).1).2 = true ∧
  (sheetUnpadded.codeLine (sheetUnpadded.scn.process sheetLine).1).1.padPage.2 = false := by
  decide +kernel

theorem witness_ScanPagesEnd_done :
  (sheetEnd false false [0] 5).inReset = false ∧ (sheetEnd false false [0] 5).reports = [] ∧
  (sheetEnd false false [0] 5).scn.state = ScanState.scanning ∧
  (sheetEnd false false [0] 5).scn.session = some (sheetEndSession 5) ∧
  (sheetEnd false false [0] 5).scn.lineRequest = some 256 ∧ sheetLine.length = 256 ∧
  (sheetEnd false false [0] 5).lcd.job = some sheetJob ∧
  ((sheetEnd false false [0] 5).codeSet sheetJob.slot).isSome = true ∧
  (sheetEnd false false [0] 5).current sheetJob.ref = true ∧ sheetJob.ref.page < 256 ∧
  ((sheetEnd false false [0] 5).page sheetJob.ref.page).state = PageState.filling ∧
  (sheetEnd false false [0] 5).prt.order = [] ∧
  ((sheetEnd false false [0] 5).scn.edge = false ∨ (sheetEndSession 5).density.maxLines ≤ (sheetEndSession
    5).lineCount + 1) ∧
  ((sheetEnd false false [0] 5).codeLine ((sheetEnd false false [0] 5).scn.process sheetLine).1).2 = true ∧
  (((sheetEnd false false [0] 5).codeLine ((sheetEnd false false [0] 5).scn.process sheetLine).1).1.padPage.2 =
    true) ∧
  ((sheetEnd false false [0] 5).doc (sheetEndSession 5).document).state = DocState.opened ∧
  ((sheetEnd false false [0] 5).doc (sheetEndSession 5).document).filler = Filler.scn ∧
  (∀ q ∈ ((sheetEnd false false [0] 5).doc (sheetEndSession 5).document).pages, q ≠ sheetJob.ref.page → ((sheetEnd
    false false [0] 5).page q).state ≠ PageState.filling) ∧
  (sheetEnd false false [0] 5).scn.edge = false ∧ (sheetEnd false false [0] 5).scn.tray = false := by
  decide +kernel

theorem witness_ScanPagesEnd_full :
  (sheetEnd false true (List.range 64) 5).inReset = false ∧ (sheetEnd false true (List.range 64) 5).reports = [] ∧
  (sheetEnd false true (List.range 64) 5).scn.state = ScanState.scanning ∧
  (sheetEnd false true (List.range 64) 5).scn.session = some (sheetEndSession 5) ∧
  (sheetEnd false true (List.range 64) 5).scn.lineRequest = some 256 ∧ sheetLine.length = 256 ∧
  (sheetEnd false true (List.range 64) 5).lcd.job = some sheetJob ∧
  ((sheetEnd false true (List.range 64) 5).codeSet sheetJob.slot).isSome = true ∧
  (sheetEnd false true (List.range 64) 5).current sheetJob.ref = true ∧ sheetJob.ref.page < 256 ∧
  ((sheetEnd false true (List.range 64) 5).page sheetJob.ref.page).state = PageState.filling ∧
  (sheetEnd false true (List.range 64) 5).prt.order = [] ∧
  ((sheetEnd false true (List.range 64) 5).scn.edge = false ∨ (sheetEndSession 5).density.maxLines ≤
    (sheetEndSession 5).lineCount + 1) ∧
  (((sheetEnd false true (List.range 64) 5).codeLine ((sheetEnd false true (List.range 64) 5).scn.process
    sheetLine).1).2 = true) ∧
  (((sheetEnd false true (List.range 64) 5).codeLine ((sheetEnd false true (List.range 64) 5).scn.process
    sheetLine).1).1.padPage.2 = true) ∧
  ((sheetEnd false true (List.range 64) 5).doc (sheetEndSession 5).document).state = DocState.opened ∧
  ((sheetEnd false true (List.range 64) 5).doc (sheetEndSession 5).document).filler = Filler.scn ∧
  (∀ q ∈ ((sheetEnd false true (List.range 64) 5).doc (sheetEndSession 5).document).pages, q ≠ sheetJob.ref.page →
    ((sheetEnd false true (List.range 64) 5).page q).state ≠ PageState.filling) ∧
  ((sheetEnd false true (List.range 64) 5).scn.edge = true ∨ (sheetEnd false true (List.range 64) 5).scn.tray =
    true) ∧
  64 ≤ ((sheetEnd false true (List.range 64) 5).doc (sheetEndSession 5).document).pages.length := by
  decide +kernel

theorem witness_ScanPagesEnd_next :
  (sheetEnd false true (0 :: List.range' 100 62) 5).inReset = false ∧
  (sheetEnd false true (0 :: List.range' 100 62) 5).reports = [] ∧
  (sheetEnd false true (0 :: List.range' 100 62) 5).scn.state = ScanState.scanning ∧
  (sheetEnd false true (0 :: List.range' 100 62) 5).scn.session = some (sheetEndSession 5) ∧
  (sheetEnd false true (0 :: List.range' 100 62) 5).scn.lineRequest = some 256 ∧ sheetLine.length = 256 ∧
  (sheetEnd false true (0 :: List.range' 100 62) 5).lcd.job = some sheetJob ∧
  ((sheetEnd false true (0 :: List.range' 100 62) 5).codeSet sheetJob.slot).isSome = true ∧
  (sheetEnd false true (0 :: List.range' 100 62) 5).current sheetJob.ref = true ∧ sheetJob.ref.page < 256 ∧
  ((sheetEnd false true (0 :: List.range' 100 62) 5).page sheetJob.ref.page).state = PageState.filling ∧
  (sheetEnd false true (0 :: List.range' 100 62) 5).prt.order = [] ∧
  ((sheetEnd false true (0 :: List.range' 100 62) 5).scn.edge = false ∨ (sheetEndSession 5).density.maxLines ≤
    (sheetEndSession 5).lineCount + 1) ∧
  (((sheetEnd false true (0 :: List.range' 100 62) 5).codeLine ((sheetEnd false true (0 :: List.range' 100 62)
    5).scn.process sheetLine).1).2 = true) ∧
  (((sheetEnd false true (0 :: List.range' 100 62) 5).codeLine ((sheetEnd false true (0 :: List.range' 100 62)
    5).scn.process sheetLine).1).1.padPage.2 = true) ∧
  ((sheetEnd false true (0 :: List.range' 100 62) 5).doc (sheetEndSession 5).document).state = DocState.opened ∧
  ((sheetEnd false true (0 :: List.range' 100 62) 5).doc (sheetEndSession 5).document).filler = Filler.scn ∧
  (∀ q ∈ ((sheetEnd false true (0 :: List.range' 100 62) 5).doc (sheetEndSession 5).document).pages, q ≠
    sheetJob.ref.page → ((sheetEnd false true (0 :: List.range' 100 62) 5).page q).state ≠ PageState.filling) ∧
  (((sheetEnd false true (0 :: List.range' 100 62) 5).scn.edge = true ∨ (sheetEnd false true (0 :: List.range' 100
    62) 5).scn.tray = true) ∧ ((sheetEnd false true (0 :: List.range' 100 62) 5).doc (sheetEndSession
    5).document).pages.length < 64) ∧
  (sheetEnd false true (0 :: List.range' 100 62) 5).freePageRecord = some 1 := by
  decide +kernel

theorem witness_ScanPagesEnd_split :
  (sheetEnd true false [0] 2199).inReset = false ∧ (sheetEnd true false [0] 2199).reports = [] ∧
  (sheetEnd true false [0] 2199).scn.state = ScanState.scanning ∧
  (sheetEnd true false [0] 2199).scn.session = some (sheetEndSession 2199) ∧
  (sheetEnd true false [0] 2199).scn.lineRequest = some 256 ∧ sheetLine.length = 256 ∧
  (sheetEnd true false [0] 2199).lcd.job = some sheetJob ∧
  ((sheetEnd true false [0] 2199).codeSet sheetJob.slot).isSome = true ∧
  (sheetEnd true false [0] 2199).current sheetJob.ref = true ∧ sheetJob.ref.page < 256 ∧
  ((sheetEnd true false [0] 2199).page sheetJob.ref.page).state = PageState.filling ∧
  (sheetEnd true false [0] 2199).prt.order = [] ∧
  ((sheetEnd true false [0] 2199).scn.edge = false ∨ (sheetEndSession 2199).density.maxLines ≤ (sheetEndSession
    2199).lineCount + 1) ∧
  ((sheetEnd true false [0] 2199).codeLine ((sheetEnd true false [0] 2199).scn.process sheetLine).1).2 = true ∧
  (((sheetEnd true false [0] 2199).codeLine ((sheetEnd true false [0] 2199).scn.process sheetLine).1).1.padPage.2 =
    true) ∧
  ((sheetEnd true false [0] 2199).doc (sheetEndSession 2199).document).state = DocState.opened ∧
  ((sheetEnd true false [0] 2199).doc (sheetEndSession 2199).document).filler = Filler.scn ∧
  (∀ q ∈ ((sheetEnd true false [0] 2199).doc (sheetEndSession 2199).document).pages, q ≠ sheetJob.ref.page →
    ((sheetEnd true false [0] 2199).page q).state ≠ PageState.filling) ∧
  (((sheetEnd true false [0] 2199).scn.edge = true ∨ (sheetEnd true false [0] 2199).scn.tray = true) ∧ ((sheetEnd
    true false [0] 2199).doc (sheetEndSession 2199).document).pages.length < 64) ∧
  (sheetEnd true false [0] 2199).freePageRecord = some 1 := by
  decide +kernel

theorem witness_ScanPagesEnd_noRecord :
  sheetCrowded.inReset = false ∧ sheetCrowded.reports = [] ∧ sheetCrowded.scn.state = ScanState.scanning ∧
  sheetCrowded.scn.session = some (sheetEndSession 5) ∧ sheetCrowded.scn.lineRequest = some 256 ∧
  sheetLine.length = 256 ∧ sheetCrowded.lcd.job = some sheetJob ∧ (sheetCrowded.codeSet sheetJob.slot).isSome = true ∧
  sheetCrowded.current sheetJob.ref = true ∧ sheetJob.ref.page < 256 ∧
  (sheetCrowded.page sheetJob.ref.page).state = PageState.filling ∧ sheetCrowded.prt.order = [] ∧
  (sheetCrowded.scn.edge = false ∨ (sheetEndSession 5).density.maxLines ≤ (sheetEndSession 5).lineCount + 1) ∧
  (sheetCrowded.codeLine (sheetCrowded.scn.process sheetLine).1).2 = true ∧
  (sheetCrowded.codeLine (sheetCrowded.scn.process sheetLine).1).1.padPage.2 = true ∧
  (sheetCrowded.doc (sheetEndSession 5).document).state = DocState.opened ∧
  (sheetCrowded.doc (sheetEndSession 5).document).filler = Filler.scn ∧
  (∀ q ∈ (sheetCrowded.doc (sheetEndSession 5).document).pages, q ≠ sheetJob.ref.page → (sheetCrowded.page q).state
    ≠ PageState.filling) ∧
  ((sheetCrowded.scn.edge = true ∨ sheetCrowded.scn.tray = true) ∧ (sheetCrowded.doc (sheetEndSession
    5).document).pages.length < 64) ∧
  sheetCrowded.freePageRecord = none := by
  decide +kernel

theorem witness_CallsAreReleased_endAck :
  (callerLine LineState.closing sampleCtx (closer CloseCause.lastPage)).inReset = false ∧
  (((callerLine LineState.closing sampleCtx (closer CloseCause.lastPage)).line 0).ctx = some (withSess sampleCtx
    (closer CloseCause.lastPage))) ∧
  ((callerLine LineState.closing sampleCtx (closer CloseCause.lastPage)).releaseAsked 0 (Instr.endAck 0) = some
    EndReason.completed) := by
  decide +kernel

theorem witness_CallsAreReleased_resend :
  (readingLine (ackCtx 64 2 64 false) Stage.waitAck none).inReset = false ∧
  (((readingLine (ackCtx 64 2 64 false) Stage.waitAck none).line 0).ctx = some (withSess (ackCtx 64 2 64 false)
    (reading Stage.waitAck))) ∧
  ((readingLine (ackCtx 64 2 64 false) Stage.waitAck none).releaseAsked 0 (Instr.pageAck 0 64 2 5) = some
    EndReason.protocolTimeout) := by
  decide +kernel

theorem witness_CallsAreReleased_training :
  (trainingLine 1).inReset = false ∧ ((trainingLine 1).line 0).ctx = some (withSess sampleCtx (trainingCaller 1)) ∧
  (trainingLine 1).releaseAsked 0 (Instr.trainFail 0) = some EndReason.trainFail := by
  decide +kernel

theorem witness_CallsAreReleased_third :
  (callerLine LineState.closing sampleCtx ended).inReset = false ∧
  ((callerLine LineState.closing sampleCtx ended).line 0).ctx = some (withSess sampleCtx ended) ∧
  ((callerLine LineState.closing sampleCtx ended).releaseAsked 0 (Instr.frameReplyExpiry 0) = some
    EndReason.completed) := by
  decide +kernel

theorem witness_CallsAreReleased_lingers :
  (calleeLine LineState.closing inCtx lingering).inReset = false ∧
  ((calleeLine LineState.closing inCtx lingering).line 3).ctx = some (withSess inCtx lingering) ∧
  (calleeLine LineState.closing inCtx lingering).releaseAsked 3 (Instr.carrierLost 3) = some EndReason.memory := by
  decide +kernel

theorem witness_CallsAreReleased_funds :
  (stepping 0).inReset = false ∧ ((stepping 0).line 0).ctx = some stepCtx ∧
  (stepping 0).releaseAsked 0 (Instr.stepBoundary 0) = some EndReason.funds := by
  decide +kernel

theorem witness_ReceptionEndsWithTheCall_damaged :
  takingData.inReset = false ∧
  (takingData.line 3).ctx = some (withSess (pageCtx (some 1) (some 1)) (pageCallee Stage.receivingData)) ∧
  (withSess (pageCtx (some 1) (some 1)) (pageCallee Stage.receivingData)).job = none ∧
  (withSess (pageCtx (some 1) (some 1)) (pageCallee Stage.receivingData)).dir = Direction.inbound ∧
  takingData.releaseAsked 3 (Instr.carrierLost 3) = some EndReason.carrierLost ∧ (takingData.sess 3).reader = none ∧
  tget takingData.rtr.reception (↑3) none = some sampleReception ∧ takingData.pmm.pendingScan = none ∧
  (takingData.doc sampleReception.document).state = DocState.opened ∧
  (takingData.doc sampleReception.document).origin = Origin.received ∧
  (takingData.doc sampleReception.document).pages.Nodup ∧
  (∀ (p : PageRef), (takingData.sess 3).page = some p → takingData.writes 3 p.page = true → p.page ∈
    (takingData.doc sampleReception.document).pages ∧ (takingData.page p.page).document = some
    sampleReception.document) ∧
  (∀ p ∈ takingData.pagesLeft 3 sampleReception.document, (takingData.pageLeft 3 p).state.readable = true) := by
  decide +kernel

theorem witness_ReceptionEndsWithTheCall_empty :
  takingNothing.inReset = false ∧
  (takingNothing.line 3).ctx = some (withSess (pageCtx (some 1) (some 1)) (pageCallee Stage.receivingData)) ∧
  (withSess (pageCtx (some 1) (some 1)) (pageCallee Stage.receivingData)).job = none ∧
  (withSess (pageCtx (some 1) (some 1)) (pageCallee Stage.receivingData)).dir = Direction.inbound ∧
  takingNothing.releaseAsked 3 (Instr.carrierLost 3) = some EndReason.carrierLost ∧
  (takingNothing.sess 3).reader = none ∧ tget takingNothing.rtr.reception (↑3) none = some sampleReception ∧
  takingNothing.pmm.pendingScan = none ∧ (takingNothing.doc sampleReception.document).state = DocState.opened ∧
  (takingNothing.doc sampleReception.document).origin = Origin.received ∧
  (takingNothing.doc sampleReception.document).pages.Nodup ∧
  (∀ (p : PageRef), (takingNothing.sess 3).page = some p → takingNothing.writes 3 p.page = true → p.page ∈
    (takingNothing.doc sampleReception.document).pages ∧ (takingNothing.page p.page).document = some
    sampleReception.document) ∧
  (∀ p ∈ takingNothing.pagesLeft 3 sampleReception.document, (takingNothing.pageLeft 3 p).state.readable = true) := by
  decide +kernel

theorem witness_ReceptionEndsWithTheCall_printing :
  betweenPages.inReset = false ∧ (betweenPages.line 3).ctx = some (withSess (pageCtx none none) accepted) ∧
  (withSess (pageCtx none none) accepted).job = none ∧
  (withSess (pageCtx none none) accepted).dir = Direction.inbound ∧
  betweenPages.releaseAsked 3 (Instr.carrierLost 3) = some EndReason.carrierLost ∧
  (betweenPages.sess 3).reader = none ∧ tget betweenPages.rtr.reception (↑3) none = some printedReception ∧
  betweenPages.pmm.pendingScan = none ∧ (betweenPages.doc printedReception.document).state = DocState.opened ∧
  (betweenPages.doc printedReception.document).origin = Origin.received ∧
  (betweenPages.doc printedReception.document).pages.Nodup ∧
  (∀ (p : PageRef), (betweenPages.sess 3).page = some p → betweenPages.writes 3 p.page = true → p.page ∈
    (betweenPages.doc printedReception.document).pages ∧ (betweenPages.page p.page).document = some
    printedReception.document) ∧
  (∀ p ∈ betweenPages.pagesLeft 3 printedReception.document, (betweenPages.pageLeft 3 p).state.readable = true) := by
  decide +kernel

theorem witness_CalleeAcceptsChoose_prints :
  (printRoute false).inReset = false ∧ ((printRoute false).line 3).ctx = some (withSess inCtx (offered true)) ∧
  (withSess inCtx (offered true)).sess = some (offered true) ∧ (offered true).role = Role.callee ∧
  (offered true).stage = Stage.offered ∧ (offered true).offered = some (sampleOffer true 64 [7]) ∧
  ((printRoute false).line 3).state = LineState.negotiating ∧ ((printRoute false).line 3).phase = none ∧
  List.length (sampleChoose 7).tag ≤ 20 ∧ (sampleOffer true 64 [7]).receiveOk = true ∧
  (printRoute false).choiceSupported (sampleOffer true 64 [7]) (sampleChoose 7) = true ∧
  (printRoute false).slotOf (sampleChoose 7).code = some 0 ∧ (printRoute false).freePageRecord = some 0 ∧
  (printRoute false).freeDocRecord = some 0 ∧
  (printRoute false).rtr.route 3 (sampleChoose 7).tag = (some 0, sampleRule 3) := by
  decide +kernel

theorem witness_CalleeAcceptsChoose_queueFull :
  (printRoute true).inReset = false ∧ ((printRoute true).line 3).ctx = some (withSess inCtx (offered true)) ∧
  (withSess inCtx (offered true)).sess = some (offered true) ∧ (offered true).role = Role.callee ∧
  (offered true).stage = Stage.offered ∧ (offered true).offered = some (sampleOffer true 64 [7]) ∧
  ((printRoute true).line 3).state = LineState.negotiating ∧ ((printRoute true).line 3).phase = none ∧
  List.length (sampleChoose 7).tag ≤ 20 ∧ (sampleOffer true 64 [7]).receiveOk = true ∧
  (printRoute true).choiceSupported (sampleOffer true 64 [7]) (sampleChoose 7) = true ∧
  (printRoute true).slotOf (sampleChoose 7).code = some 0 ∧ (printRoute true).freePageRecord = some 0 ∧
  (printRoute true).freeDocRecord = some 0 ∧
  (printRoute true).rtr.route 3 (sampleChoose 7).tag = (some 0, sampleRule 3) := by
  decide +kernel

theorem witness_ShortageDeclinesChoose_page :
  noPageRecord.inReset = false ∧ (noPageRecord.line 3).ctx = some (withSess inCtx (offered true)) ∧
  (withSess inCtx (offered true)).sess = some (offered true) ∧ (offered true).role = Role.callee ∧
  (offered true).stage = Stage.offered ∧ (offered true).offered = some (sampleOffer true 64 [7]) ∧
  (noPageRecord.line 3).state = LineState.negotiating ∧ (noPageRecord.line 3).phase = none ∧
  List.length (sampleChoose 7).tag ≤ 20 ∧ (sampleOffer true 64 [7]).receiveOk = true ∧
  noPageRecord.choiceSupported (sampleOffer true 64 [7]) (sampleChoose 7) = true ∧
  (noPageRecord.freePageRecord = none ∨ noPageRecord.freeDocRecord = none) := by
  decide +kernel

theorem witness_ShortageDeclinesChoose_document :
  noDocRecord.inReset = false ∧ (noDocRecord.line 3).ctx = some (withSess inCtx (offered true)) ∧
  (withSess inCtx (offered true)).sess = some (offered true) ∧ (offered true).role = Role.callee ∧
  (offered true).stage = Stage.offered ∧ (offered true).offered = some (sampleOffer true 64 [7]) ∧
  (noDocRecord.line 3).state = LineState.negotiating ∧ (noDocRecord.line 3).phase = none ∧
  List.length (sampleChoose 7).tag ≤ 20 ∧ (sampleOffer true 64 [7]).receiveOk = true ∧
  noDocRecord.choiceSupported (sampleOffer true 64 [7]) (sampleChoose 7) = true ∧
  (noDocRecord.freePageRecord = none ∨ noDocRecord.freeDocRecord = none) := by
  decide +kernel

theorem witness_CallerTakesPageAck_next :
  (twoPages (readingLine (ackCtx 1 1 2 false) Stage.waitAck none)).inReset = false ∧
  (((twoPages (readingLine (ackCtx 1 1 2 false) Stage.waitAck none)).line 0).ctx = some (withSess (ackCtx 1 1 2
    false) (reading Stage.waitAck))) ∧
  (withSess (ackCtx 1 1 2 false) (reading Stage.waitAck)).sess = some (reading Stage.waitAck) ∧
  (reading Stage.waitAck).role = Role.caller ∧ (reading Stage.waitAck).stage = Stage.waitAck ∧
  ((twoPages (readingLine (ackCtx 1 1 2 false) Stage.waitAck none)).line 0).state = LineState.sending ∧
  ((twoPages (readingLine (ackCtx 1 1 2 false) Stage.waitAck none)).line 0).phase = none ∧
  (withSess (ackCtx 1 1 2 false) (reading Stage.waitAck)).page = some 1 ∧ 1 ≤ 1 ∧ 1 ≤ 64 ∧
  Verdict.keep ≠ Verdict.resend ∧ 1 < (withSess (ackCtx 1 1 2 false) (reading Stage.waitAck)).params.pages ∧
  (withSess (ackCtx 1 1 2 false) (reading Stage.waitAck)).closing = false ∧
  (reading Stage.waitAck).reader = some readPage ∧
  (twoPages (readingLine (ackCtx 1 1 2 false) Stage.waitAck none)).current readPage = true ∧ readPage.page < 256 ∧
  ((twoPages (readingLine (ackCtx 1 1 2 false) Stage.waitAck none)).page readPage.page).document.isSome = true ∧
  0 < ((twoPages (readingLine (ackCtx 1 1 2 false) Stage.waitAck none)).page readPage.page).transmissions ∧
  (withSess (ackCtx 1 1 2 false) (reading Stage.waitAck)).job = some (31, 0) ∧
  (twoPages (readingLine (ackCtx 1 1 2 false) Stage.waitAck none)).job (31, 0).1 = some (oneJob inCallDest) ∧
  (((twoPages (readingLine (ackCtx 1 1 2 false) Stage.waitAck none)).doc (oneJob
    inCallDest).document).pages[(reading Stage.waitAck).base + 1]? = some 10) ∧
  10 ≠ readPage.page ∧
  ((twoPages (readingLine (ackCtx 1 1 2 false) Stage.waitAck none)).page 10).state.readable = true ∧
  ((twoPages (readingLine (ackCtx 1 1 2 false) Stage.waitAck none)).page 10).document.isSome = true ∧
  ((twoPages (readingLine (ackCtx 1 1 2 false) Stage.waitAck none)).page 10).transmissions < 4 := by
  decide +kernel

theorem witness_CallerTakesPageAck_reader :
  (readingLine (ackCtx 1 1 1 false) Stage.waitAck none).inReset = false ∧
  (((readingLine (ackCtx 1 1 1 false) Stage.waitAck none).line 0).ctx = some (withSess (ackCtx 1 1 1 false)
    (reading Stage.waitAck))) ∧
  (withSess (ackCtx 1 1 1 false) (reading Stage.waitAck)).sess = some (reading Stage.waitAck) ∧
  (reading Stage.waitAck).role = Role.caller ∧ (reading Stage.waitAck).stage = Stage.waitAck ∧
  ((readingLine (ackCtx 1 1 1 false) Stage.waitAck none).line 0).state = LineState.sending ∧
  ((readingLine (ackCtx 1 1 1 false) Stage.waitAck none).line 0).phase = none ∧
  (withSess (ackCtx 1 1 1 false) (reading Stage.waitAck)).page = some 1 ∧ 1 ≤ 1 ∧ 1 ≤ 64 ∧
  Verdict.keep ≠ Verdict.resend ∧
  (1 = (withSess (ackCtx 1 1 1 false) (reading Stage.waitAck)).params.pages ∨ (withSess (ackCtx 1 1 1 false)
    (reading Stage.waitAck)).closing = true) := by
  decide +kernel

theorem witness_DestinationsSettleByR128_done :
  twiceFailed.confirmed = 0 := by
  decide +kernel

theorem witness_DestinationsSettleByR128_cancelled :
  twiceFailed.confirmed ≠ 1 ∧ cancelledJob.cancel = true := by
  decide +kernel

theorem witness_DestinationsSettleByR128_retries :
  inCallDest.confirmed ≠ 1 ∧ mixedJob.cancel = false ∧
  CallOutcome.released EndReason.busy = CallOutcome.released EndReason.busy ∧
  ((EndReason.busy, LastReason.busy) ∈ [(EndReason.busy, LastReason.busy), (EndReason.noAnswer,
    LastReason.noAnswer), (EndReason.trainFail, LastReason.trainFail), (EndReason.protocolTimeout,
    LastReason.protocolTimeout), (EndReason.carrierLost, LastReason.carrierLost), (EndReason.declined
    DeclineReason.noMemory, LastReason.declinedNoMemory), (EndReason.funds, LastReason.funds)]) ∧
  inCallDest.attempts + 1 < mixedJob.maxAttempts := by
  decide +kernel

theorem witness_DestinationsSettleByR128_fails :
  twiceFailed.confirmed ≠ 1 ∧ mixedJob.cancel = false ∧
  (CallOutcome.released (EndReason.declined DeclineReason.noMemory) = CallOutcome.released (EndReason.declined
    DeclineReason.noMemory)) ∧
  ((EndReason.declined DeclineReason.noMemory, LastReason.declinedNoMemory) ∈ [(EndReason.busy, LastReason.busy),
    (EndReason.noAnswer, LastReason.noAnswer), (EndReason.trainFail, LastReason.trainFail),
    (EndReason.protocolTimeout, LastReason.protocolTimeout), (EndReason.carrierLost, LastReason.carrierLost),
    (EndReason.declined DeclineReason.noMemory, LastReason.declinedNoMemory), (EndReason.funds, LastReason.funds)]) ∧
  mixedJob.maxAttempts ≤ twiceFailed.attempts + 1 := by
  decide +kernel

theorem witness_DestinationsSettleByR128_waits :
  twiceFailed.confirmed ≠ 1 ∧ mixedJob.cancel = false ∧
  CallOutcome.released EndReason.completed = CallOutcome.released EndReason.completed := by
  decide +kernel

theorem witness_DestinationsSettleByR128_noTone :
  twiceFailed.confirmed ≠ 1 ∧ mixedJob.cancel = false ∧
  CallOutcome.released EndReason.noDialTone = CallOutcome.released EndReason.noDialTone := by
  decide +kernel

theorem witness_DestinationsSettleByR128_declined :
  inCallDest.confirmed ≠ 1 ∧ mixedJob.cancel = false ∧
  (CallOutcome.released (EndReason.declined DeclineReason.unsupported) = CallOutcome.released (EndReason.declined
    DeclineReason.unsupported)) ∧
  ((EndReason.declined DeclineReason.unsupported, LastReason.declinedUnsupported) ∈ [(EndReason.noCommonCode,
    LastReason.noCommonCode), (EndReason.declined DeclineReason.unsupported, LastReason.declinedUnsupported),
    (EndReason.declined DeclineReason.notReceiving, LastReason.declinedNotReceiving)]) := by
  decide +kernel

theorem witness_DestinationsSettleByR128_fault :
  inCallDest.confirmed ≠ 1 ∧ mixedJob.cancel = false ∧ CallOutcome.lineFault = CallOutcome.lineFault := by
  decide +kernel

theorem witness_ReleasedCallsSettleDestinations_retries :
  (outbound ringingOut sampleCtx (oneJob inCallDest)).inReset = false ∧
  ((outbound ringingOut sampleCtx (oneJob inCallDest)).line 0).ctx = some sampleCtx ∧
  (outbound ringingOut sampleCtx (oneJob inCallDest)).releaseAsked 0 (Instr.busyTone 0) = some EndReason.busy ∧
  sampleCtx.job = some (31, 0) ∧
  (outbound ringingOut sampleCtx (oneJob inCallDest)).job (31, 0).1 = some (oneJob inCallDest) ∧
  (oneJob inCallDest).dests[(31, 0).2]? = some inCallDest ∧
  tget (outbound ringingOut sampleCtx (oneJob inCallDest)).rtr.reception (↑0) none = none ∧
  ((outbound ringingOut sampleCtx (oneJob inCallDest)).sess 0).page = none ∧
  (∀ (p : PageRef), ((outbound ringingOut sampleCtx (oneJob inCallDest)).sess 0).reader = some p → (outbound
    ringingOut sampleCtx (oneJob inCallDest)).current p = true → ((outbound ringingOut sampleCtx (oneJob
    inCallDest)).page p.page).document.isSome = true) ∧
  ((outbound ringingOut sampleCtx (oneJob inCallDest)).openLine = none ∨ 1 ≤ (oneJob inCallDest).redial ∧ (outbound
    ringingOut sampleCtx (oneJob inCallDest)).dsp.time < 4294967295) ∧
  ((((oneJob inCallDest).dests.set (31, 0).2 ((outbound ringingOut sampleCtx (oneJob inCallDest)).destAfter
    sampleCtx (oneJob inCallDest) inCallDest (CallOutcome.released EndReason.busy))).all fun x => x.state.terminal)
    = true → (outbound ringingOut sampleCtx (oneJob inCallDest)).pmm.pendingScan = none ∧ (outbound ringingOut
    sampleCtx (oneJob inCallDest)).freedByHolds (oneJob inCallDest).document) := by
  decide +kernel

theorem witness_ReleasedCallsSettleDestinations_fails :
  (outbound ringingOut sampleCtx (oneJob twiceFailed)).inReset = false ∧
  ((outbound ringingOut sampleCtx (oneJob twiceFailed)).line 0).ctx = some sampleCtx ∧
  ((outbound ringingOut sampleCtx (oneJob twiceFailed)).releaseAsked 0 (Instr.answerWaitExpiry 0) = some
    EndReason.noAnswer) ∧
  sampleCtx.job = some (31, 0) ∧
  (outbound ringingOut sampleCtx (oneJob twiceFailed)).job (31, 0).1 = some (oneJob twiceFailed) ∧
  (oneJob twiceFailed).dests[(31, 0).2]? = some twiceFailed ∧
  tget (outbound ringingOut sampleCtx (oneJob twiceFailed)).rtr.reception (↑0) none = none ∧
  ((outbound ringingOut sampleCtx (oneJob twiceFailed)).sess 0).page = none ∧
  (∀ (p : PageRef), ((outbound ringingOut sampleCtx (oneJob twiceFailed)).sess 0).reader = some p → (outbound
    ringingOut sampleCtx (oneJob twiceFailed)).current p = true → ((outbound ringingOut sampleCtx (oneJob
    twiceFailed)).page p.page).document.isSome = true) ∧
  ((outbound ringingOut sampleCtx (oneJob twiceFailed)).openLine = none ∨ 1 ≤ (oneJob twiceFailed).redial ∧
    (outbound ringingOut sampleCtx (oneJob twiceFailed)).dsp.time < 4294967295) ∧
  ((((oneJob twiceFailed).dests.set (31, 0).2 ((outbound ringingOut sampleCtx (oneJob twiceFailed)).destAfter
    sampleCtx (oneJob twiceFailed) twiceFailed (CallOutcome.released EndReason.noAnswer))).all fun x =>
    x.state.terminal) = true → (outbound ringingOut sampleCtx (oneJob twiceFailed)).pmm.pendingScan = none ∧
    (outbound ringingOut sampleCtx (oneJob twiceFailed)).freedByHolds (oneJob twiceFailed).document) := by
  decide +kernel

theorem witness_ReleasedCallsSettleDestinations_done :
  (unheld (outbound closingLine (confirmedCtx 1 CloseCause.lastPage) (oneJob inCallDest))).inReset = false ∧
  (((unheld (outbound closingLine (confirmedCtx 1 CloseCause.lastPage) (oneJob inCallDest))).line 0).ctx = some
    (confirmedCtx 1 CloseCause.lastPage)) ∧
  ((unheld (outbound closingLine (confirmedCtx 1 CloseCause.lastPage) (oneJob inCallDest))).releaseAsked 0
    (Instr.endAck 0) = some EndReason.completed) ∧
  (confirmedCtx 1 CloseCause.lastPage).job = some (31, 0) ∧
  ((unheld (outbound closingLine (confirmedCtx 1 CloseCause.lastPage) (oneJob inCallDest))).job (31, 0).1 = some
    (oneJob inCallDest)) ∧
  (oneJob inCallDest).dests[(31, 0).2]? = some inCallDest ∧
  (tget (unheld (outbound closingLine (confirmedCtx 1 CloseCause.lastPage) (oneJob inCallDest))).rtr.reception (↑0)
    none = none) ∧
  ((unheld (outbound closingLine (confirmedCtx 1 CloseCause.lastPage) (oneJob inCallDest))).sess 0).page = none ∧
  (∀ (p : PageRef), ((unheld (outbound closingLine (confirmedCtx 1 CloseCause.lastPage) (oneJob inCallDest))).sess
    0).reader = some p → (unheld (outbound closingLine (confirmedCtx 1 CloseCause.lastPage) (oneJob
    inCallDest))).current p = true → ((unheld (outbound closingLine (confirmedCtx 1 CloseCause.lastPage) (oneJob
    inCallDest))).page p.page).document.isSome = true) ∧
  ((unheld (outbound closingLine (confirmedCtx 1 CloseCause.lastPage) (oneJob inCallDest))).openLine = none ∨ 1 ≤
    (oneJob inCallDest).redial ∧ (unheld (outbound closingLine (confirmedCtx 1 CloseCause.lastPage) (oneJob
    inCallDest))).dsp.time < 4294967295) ∧
  ((((oneJob inCallDest).dests.set (31, 0).2 ((unheld (outbound closingLine (confirmedCtx 1 CloseCause.lastPage)
    (oneJob inCallDest))).destAfter (confirmedCtx 1 CloseCause.lastPage) (oneJob inCallDest) inCallDest
    (CallOutcome.released EndReason.completed))).all fun x => x.state.terminal) = true → (unheld (outbound
    closingLine (confirmedCtx 1 CloseCause.lastPage) (oneJob inCallDest))).pmm.pendingScan = none ∧ (unheld
    (outbound closingLine (confirmedCtx 1 CloseCause.lastPage) (oneJob inCallDest))).freedByHolds (oneJob
    inCallDest).document) := by
  decide +kernel

theorem witness_ReleasedCallsSettleDestinations_waits :
  (outbound closingLine (confirmedCtx 0 CloseCause.closingFlag) (oneJob inCallDest)).inReset = false ∧
  (((outbound closingLine (confirmedCtx 0 CloseCause.closingFlag) (oneJob inCallDest)).line 0).ctx = some
    (confirmedCtx 0 CloseCause.closingFlag)) ∧
  ((outbound closingLine (confirmedCtx 0 CloseCause.closingFlag) (oneJob inCallDest)).releaseAsked 0 (Instr.endAck
    0) = some EndReason.completed) ∧
  (confirmedCtx 0 CloseCause.closingFlag).job = some (31, 0) ∧
  ((outbound closingLine (confirmedCtx 0 CloseCause.closingFlag) (oneJob inCallDest)).job (31, 0).1 = some (oneJob
    inCallDest)) ∧
  (oneJob inCallDest).dests[(31, 0).2]? = some inCallDest ∧
  (tget (outbound closingLine (confirmedCtx 0 CloseCause.closingFlag) (oneJob inCallDest)).rtr.reception (↑0) none
    = none) ∧
  ((outbound closingLine (confirmedCtx 0 CloseCause.closingFlag) (oneJob inCallDest)).sess 0).page = none ∧
  (∀ (p : PageRef), ((outbound closingLine (confirmedCtx 0 CloseCause.closingFlag) (oneJob inCallDest)).sess
    0).reader = some p → (outbound closingLine (confirmedCtx 0 CloseCause.closingFlag) (oneJob inCallDest)).current
    p = true → ((outbound closingLine (confirmedCtx 0 CloseCause.closingFlag) (oneJob inCallDest)).page
    p.page).document.isSome = true) ∧
  ((outbound closingLine (confirmedCtx 0 CloseCause.closingFlag) (oneJob inCallDest)).openLine = none ∨ 1 ≤ (oneJob
    inCallDest).redial ∧ (outbound closingLine (confirmedCtx 0 CloseCause.closingFlag) (oneJob
    inCallDest)).dsp.time < 4294967295) ∧
  ((((oneJob inCallDest).dests.set (31, 0).2 ((outbound closingLine (confirmedCtx 0 CloseCause.closingFlag) (oneJob
    inCallDest)).destAfter (confirmedCtx 0 CloseCause.closingFlag) (oneJob inCallDest) inCallDest
    (CallOutcome.released EndReason.completed))).all fun x => x.state.terminal) = true → (outbound closingLine
    (confirmedCtx 0 CloseCause.closingFlag) (oneJob inCallDest)).pmm.pendingScan = none ∧ (outbound closingLine
    (confirmedCtx 0 CloseCause.closingFlag) (oneJob inCallDest)).freedByHolds (oneJob inCallDest).document) := by
  decide +kernel

theorem witness_ReleasedCallsSettleDestinations_cancelled :
  (outbound closingLine (confirmedCtx 0 CloseCause.closingFlag) cancelledJob).inReset = false ∧
  (((outbound closingLine (confirmedCtx 0 CloseCause.closingFlag) cancelledJob).line 0).ctx = some (confirmedCtx 0
    CloseCause.closingFlag)) ∧
  ((outbound closingLine (confirmedCtx 0 CloseCause.closingFlag) cancelledJob).releaseAsked 0 (Instr.carrierLost 0)
    = some EndReason.carrierLost) ∧
  (confirmedCtx 0 CloseCause.closingFlag).job = some (31, 0) ∧
  (outbound closingLine (confirmedCtx 0 CloseCause.closingFlag) cancelledJob).job (31, 0).1 = some cancelledJob ∧
  cancelledJob.dests[(31, 0).2]? = some inCallDest ∧
  (tget (outbound closingLine (confirmedCtx 0 CloseCause.closingFlag) cancelledJob).rtr.reception (↑0) none = none) ∧
  ((outbound closingLine (confirmedCtx 0 CloseCause.closingFlag) cancelledJob).sess 0).page = none ∧
  (∀ (p : PageRef), ((outbound closingLine (confirmedCtx 0 CloseCause.closingFlag) cancelledJob).sess 0).reader =
    some p → (outbound closingLine (confirmedCtx 0 CloseCause.closingFlag) cancelledJob).current p = true →
    ((outbound closingLine (confirmedCtx 0 CloseCause.closingFlag) cancelledJob).page p.page).document.isSome =
    true) ∧
  ((outbound closingLine (confirmedCtx 0 CloseCause.closingFlag) cancelledJob).openLine = none ∨ 1 ≤
    cancelledJob.redial ∧ (outbound closingLine (confirmedCtx 0 CloseCause.closingFlag) cancelledJob).dsp.time <
    4294967295) ∧
  (((cancelledJob.dests.set (31, 0).2 ((outbound closingLine (confirmedCtx 0 CloseCause.closingFlag)
    cancelledJob).destAfter (confirmedCtx 0 CloseCause.closingFlag) cancelledJob inCallDest (CallOutcome.released
    EndReason.carrierLost))).all fun x => x.state.terminal) = true → (outbound closingLine (confirmedCtx 0
    CloseCause.closingFlag) cancelledJob).pmm.pendingScan = none ∧ (outbound closingLine (confirmedCtx 0
    CloseCause.closingFlag) cancelledJob).freedByHolds cancelledJob.document) := by
  decide +kernel

theorem witness_LineFaultReturnsTheDestination :
  (outbound seizedOut sampleCtx (oneJob inCallDest)).inReset = false ∧
  ((outbound seizedOut sampleCtx (oneJob inCallDest)).line 0).state = LineState.seized ∧
  Option.isSome ((outbound seizedOut sampleCtx (oneJob inCallDest)).line 0).loopTimer = true ∧
  ((outbound seizedOut sampleCtx (oneJob inCallDest)).line 0).ctx = some sampleCtx ∧ sampleCtx.job = some (31, 0) ∧
  (outbound seizedOut sampleCtx (oneJob inCallDest)).job (31, 0).1 = some (oneJob inCallDest) ∧
  (oneJob inCallDest).dests[(31, 0).2]? = some inCallDest ∧
  (outbound seizedOut sampleCtx (oneJob inCallDest)).openLine = none ∧
  ((((oneJob inCallDest).dests.set (31, 0).2 ((outbound seizedOut sampleCtx (oneJob inCallDest)).destAfter
    sampleCtx (oneJob inCallDest) inCallDest CallOutcome.lineFault)).all fun x => x.state.terminal) = true →
    (outbound seizedOut sampleCtx (oneJob inCallDest)).pmm.pendingScan = none ∧ (outbound seizedOut sampleCtx
    (oneJob inCallDest)).freedByHolds (oneJob inCallDest).document) := by
  decide +kernel

theorem witness_CreditReturnsDestinations_desk :
  (broke 4).inReset = false ∧ 2 < 16 ∧ (broke 4).openLine = none ∧
  -((broke 4).desk 2).margin ≤ ((broke 4).desk 2).balance + 1 ∧ ((broke 4).desk 2).balance + 1 ≤ 2147483647 ∧
  (∀ i ∈ (broke 4).dsp.order, ∀ (r : Job), (broke 4).job i = some r → r.state = JobState.active ∧ r.dests.length ≤ 16) := by
  decide +kernel

theorem witness_CreditReturnsDestinations_short :
  (broke 3).inReset = false ∧ 2 < 16 ∧ (broke 3).openLine = none ∧
  -((broke 3).desk 2).margin ≤ ((broke 3).desk 2).balance + 1 ∧ ((broke 3).desk 2).balance + 1 ≤ 2147483647 ∧
  (∀ i ∈ (broke 3).dsp.order, ∀ (r : Job), (broke 3).job i = some r → r.state = JobState.active ∧ r.dests.length ≤ 16) := by
  decide +kernel

theorem witness_CreditReturnsDestinations_pool :
  (broke 5).inReset = false ∧ 3 < 16 ∧ (broke 5).openLine = none ∧
  -((broke 5).desk 3).margin ≤ ((broke 5).desk 3).balance + 3 ∧ ((broke 5).desk 3).balance + 3 ≤ 2147483647 ∧
  (∀ i ∈ (broke 5).dsp.order, ∀ (r : Job), (broke 5).job i = some r → r.state = JobState.active ∧ r.dests.length ≤ 16) := by
  decide +kernel

theorem witness_EmptyDocumentFailsItsJob :
  emptyDoc.inReset = false ∧ 63 < 64 ∧ (emptyDoc.doc 63).state = DocState.opened ∧
  (emptyDoc.doc 63).filler = Filler.none ∧ (emptyDoc.doc 63).pages = [] ∧ (emptyDoc.doc 63).origin ≠ Origin.received ∧
  0 < (emptyDoc.doc 63).sendHold ∧ emptyDoc.pmm.pendingScan = none ∧ emptyDoc.prt.order = [] ∧
  emptyDoc.dsp.order = [31] ∧ emptyDoc.job 31 = some emptyJob ∧ emptyJob.document = 63 ∧ emptyJob.dests.length ≤ 16 ∧
  (∃ x ∈ emptyJob.dests, x.state.waits = true) ∧ (∀ x ∈ emptyJob.dests, x.state ≠ DestState.inCall) := by
  decide +kernel

theorem witness_JobCancelCompletesOrRefuses_completes :
  (queued idleDest).inReset = false ∧ 31 < 32 ∧ (queued idleDest).job 31 = some (oneJob idleDest) ∧
  (oneJob idleDest).cancel = false ∧ (∀ d ∈ (oneJob idleDest).dests, d.state ≠ DestState.inCall) ∧
  (oneJob idleDest).dests.length ≤ 16 ∧ (queued idleDest).pmm.pendingScan = none ∧
  (queued idleDest).freedByHolds (oneJob idleDest).document := by
  decide +kernel

theorem witness_JobCancelCompletesOrRefuses_range :
  quiet.inReset = false ∧ 32 ≤ 32 := by
  decide +kernel

theorem witness_JobCancelCompletesOrRefuses_free :
  quiet.inReset = false ∧ 31 < 32 ∧ quiet.job 31 = none := by
  decide +kernel

theorem witness_CutEndsThePage_blocked :
  (printing (printPage 2 2 none none false) PrintPhase.cut).inReset = false ∧
  (printing (printPage 2 2 none none false) PrintPhase.cut).prt.engine = EngineState.printing ∧
  (printing (printPage 2 2 none none false) PrintPhase.cut).prt.phase = PrintPhase.cut ∧
  (printing (printPage 2 2 none none false) PrintPhase.cut).prt.current = some 31 ∧
  (printing (printPage 2 2 none none false) PrintPhase.cut).entry 31 = some printEntry ∧ 31 < 32 ∧
  printEntry.pastPage = some nextEntry ∧
  (printing (printPage 2 2 none none false) PrintPhase.cut).finalPage nextEntry.document nextEntry.next = false ∧
  printEntry.state = EntryState.printing ∧
  (printing (printPage 2 2 none none false) PrintPhase.cut).waitingEntries = [] ∧
  (printing (printPage 2 2 none none false) PrintPhase.cut).prt.paper = true := by
  decide +kernel

theorem witness_CutEndsThePage_paperless :
  (paperless cutting).inReset = false ∧ (paperless cutting).prt.engine = EngineState.printing ∧
  (paperless cutting).prt.phase = PrintPhase.cut ∧ (paperless cutting).prt.current = some 31 ∧
  (paperless cutting).entry 31 = some printEntry ∧ 31 < 32 ∧ printEntry.pastPage = some nextEntry ∧
  (paperless cutting).prt.paper = false := by
  decide +kernel

theorem witness_CutEndsThePage_paperlessBlocked :
  (paperless (printing (printPage 2 2 none none false) PrintPhase.cut)).inReset = false ∧
  (paperless (printing (printPage 2 2 none none false) PrintPhase.cut)).prt.engine = EngineState.printing ∧
  (paperless (printing (printPage 2 2 none none false) PrintPhase.cut)).prt.phase = PrintPhase.cut ∧
  (paperless (printing (printPage 2 2 none none false) PrintPhase.cut)).prt.current = some 31 ∧
  (paperless (printing (printPage 2 2 none none false) PrintPhase.cut)).entry 31 = some printEntry ∧ 31 < 32 ∧
  printEntry.pastPage = some nextEntry ∧
  (paperless (printing (printPage 2 2 none none false) PrintPhase.cut)).prt.paper = false := by
  decide +kernel

theorem witness_CutEndsThePage_noneHeld :
  (paperless lastCut).inReset = false ∧ (paperless lastCut).prt.engine = EngineState.printing ∧
  (paperless lastCut).prt.phase = PrintPhase.cut ∧ (paperless lastCut).prt.current = none ∧
  ((paperless lastCut).prt.paper = true → (paperless lastCut).waitingEntries = []) := by
  decide +kernel

theorem witness_CutGoesOnOrYields_nextCopy :
  (lastPageCut 2 true).inReset = false ∧ (lastPageCut 2 true).prt.engine = EngineState.printing ∧
  (lastPageCut 2 true).prt.phase = PrintPhase.cut ∧ (lastPageCut 2 true).prt.current = some 31 ∧
  (lastPageCut 2 true).entry 31 = some (lastPageEntry 2) ∧ 31 < 32 ∧ (lastPageEntry 2).state = EntryState.printing ∧
  (lastPageEntry 2).pastPage = some nextCopy ∧ (lastPageCut 2 true).finalPage nextCopy.document nextCopy.next = true ∧
  (lastPageCut 2 true).prt.paper = true ∧
  ((31 = 31 ∧ nextCopy = nextCopy ∧ ∀ w ∈ (lastPageCut 2 true).waitingEntries, (lastPageEntry 2).priority ≤
    w.2.priority) ∨ (lastPageCut 2 true).arbiterPick = some 31 ∧ (lastPageCut 2 true).entry 31 = some nextCopy ∧ 31
    < 32 ∧ nextCopy.priority < (lastPageEntry 2).priority) ∧
  (lastPageCut 2 true).docPage nextCopy.document nextCopy.next = some 9 ∧ 9 < 256 ∧
  ((lastPageCut 2 true).page 9).state.readable = true ∧ ((lastPageCut 2 true).page 9).document.isSome = true ∧
  ((lastPageCut 2 true).page 9).prints = 0 ∧ 0 < ((lastPageCut 2 true).page 9).lineCount := by
  decide +kernel

theorem witness_FinishedEntryIsRemoved_idle :
  (lastPageCut 1 true).inReset = false ∧ (lastPageCut 1 true).prt.engine = EngineState.printing ∧
  (lastPageCut 1 true).prt.phase = PrintPhase.cut ∧ (lastPageCut 1 true).prt.current = some 31 ∧
  (lastPageCut 1 true).entry 31 = some (lastPageEntry 1) ∧ 31 < 32 ∧ (lastPageEntry 1).pastPage = none ∧
  (lastPageEntry 1).state = EntryState.printing ∧ (lastPageCut 1 true).freedByHolds (lastPageEntry 1).document ∧
  (lastPageCut 1 true).pmm.pendingScan = none ∧
  ((lastPageCut 1 true).prt.paper = true → (lastPageCut 1 true).waitingEntries = []) := by
  decide +kernel

theorem witness_FinishedEntryIsRemoved_freed :
  (unheld (lastPageCut 1 false)).inReset = false ∧ (unheld (lastPageCut 1 false)).prt.engine = EngineState.printing ∧
  (unheld (lastPageCut 1 false)).prt.phase = PrintPhase.cut ∧ (unheld (lastPageCut 1 false)).prt.current = some 31 ∧
  (unheld (lastPageCut 1 false)).entry 31 = some (lastPageEntry 1) ∧ 31 < 32 ∧ (lastPageEntry 1).pastPage = none ∧
  (lastPageEntry 1).state = EntryState.printing ∧
  (unheld (lastPageCut 1 false)).freedByHolds (lastPageEntry 1).document ∧
  (unheld (lastPageCut 1 false)).pmm.pendingScan = none ∧
  ((unheld (lastPageCut 1 false)).prt.paper = true → (unheld (lastPageCut 1 false)).waitingEntries = []) := by
  decide +kernel

theorem witness_CloseReportEndsCopies_count :
  (closable EntryState.blocked 1 1).inReset = false ∧ 63 < 64 ∧ 31 < 32 ∧
  ((closable EntryState.blocked 1 1).doc 63).state = DocState.opened ∧
  ((closable EntryState.blocked 1 1).doc 63).filler = Filler.none ∧
  0 < ((closable EntryState.blocked 1 1).doc 63).printHold ∧ (closable EntryState.blocked 1 1).dsp.order = [] ∧
  (closable EntryState.blocked 1 1).prt.order = [31] ∧
  (closable EntryState.blocked 1 1).entry 31 = some (closableEntry EntryState.blocked 1 1) ∧
  (closableEntry EntryState.blocked 1 1).document = 63 ∧ (closableEntry EntryState.blocked 1 1).finalCount = none ∧
  (closable EntryState.blocked 1 1).freedByHolds 63 ∧
  ((closableEntry EntryState.blocked 1 1).state ≠ EntryState.blocked ∨ (closableEntry EntryState.blocked 1 1).next
    ≤ ((closable EntryState.blocked 1 1).doc 63).pages.length) := by
  decide +kernel

theorem witness_CloseReportEndsCopies_next :
  (closable EntryState.blocked 2 2).inReset = false ∧ 63 < 64 ∧ 31 < 32 ∧
  ((closable EntryState.blocked 2 2).doc 63).state = DocState.opened ∧
  ((closable EntryState.blocked 2 2).doc 63).filler = Filler.none ∧
  0 < ((closable EntryState.blocked 2 2).doc 63).printHold ∧ (closable EntryState.blocked 2 2).dsp.order = [] ∧
  (closable EntryState.blocked 2 2).prt.order = [31] ∧
  (closable EntryState.blocked 2 2).entry 31 = some (closableEntry EntryState.blocked 2 2) ∧
  (closableEntry EntryState.blocked 2 2).document = 63 ∧ (closableEntry EntryState.blocked 2 2).finalCount = none ∧
  (closable EntryState.blocked 2 2).freedByHolds 63 ∧
  (closableEntry EntryState.blocked 2 2).state = EntryState.blocked ∧
  ((closable EntryState.blocked 2 2).doc 63).pages.length < (closableEntry EntryState.blocked 2 2).next ∧
  1 < (closableEntry EntryState.blocked 2 2).remaining ∧ ((closable EntryState.blocked 2 2).doc 63).pages.length ≠ 0 ∧
  (closable EntryState.blocked 2 2).prt.engine ≠ EngineState.idle := by
  decide +kernel

theorem witness_CloseReportEndsCopies_done :
  (closable EntryState.blocked 2 1).inReset = false ∧ 63 < 64 ∧ 31 < 32 ∧
  ((closable EntryState.blocked 2 1).doc 63).state = DocState.opened ∧
  ((closable EntryState.blocked 2 1).doc 63).filler = Filler.none ∧
  0 < ((closable EntryState.blocked 2 1).doc 63).printHold ∧ (closable EntryState.blocked 2 1).dsp.order = [] ∧
  (closable EntryState.blocked 2 1).prt.order = [31] ∧
  (closable EntryState.blocked 2 1).entry 31 = some (closableEntry EntryState.blocked 2 1) ∧
  (closableEntry EntryState.blocked 2 1).document = 63 ∧ (closableEntry EntryState.blocked 2 1).finalCount = none ∧
  (closable EntryState.blocked 2 1).freedByHolds 63 ∧
  (closableEntry EntryState.blocked 2 1).state = EntryState.blocked ∧
  ((closable EntryState.blocked 2 1).doc 63).pages.length < (closableEntry EntryState.blocked 2 1).next ∧
  ((closableEntry EntryState.blocked 2 1).remaining ≤ 1 ∨ ((closable EntryState.blocked 2 1).doc 63).pages.length =
    0) ∧
  (closable EntryState.blocked 2 1).pmm.pendingScan = none := by
  decide +kernel

theorem witness_PrintedEntryIsCancelled_lines :
  (printing (printPage 0 0 none none true) PrintPhase.lines).inReset = false ∧ 31 < 32 ∧
  (printing (printPage 0 0 none none true) PrintPhase.lines).entry 31 = some printEntry ∧
  (printing (printPage 0 0 none none true) PrintPhase.lines).prt.engine = EngineState.printing ∧
  (printing (printPage 0 0 none none true) PrintPhase.lines).prt.current = some 31 ∧
  (printing (printPage 0 0 none none true) PrintPhase.lines).prt.page = some (printPage 0 0 none none true) ∧
  (printing (printPage 0 0 none none true) PrintPhase.lines).pmm.pendingScan = none ∧
  (printing (printPage 0 0 none none true) PrintPhase.lines).freedByHolds printEntry.document ∧
  ((printPage 0 0 none none true).reader = true → (printing (printPage 0 0 none none true)
    PrintPhase.lines).current (printPage 0 0 none none true).ref = true ∧ (printPage 0 0 none none true).ref.page <
    256 ∧ ((printing (printPage 0 0 none none true) PrintPhase.lines).page (printPage 0 0 none none
    true).ref.page).document.isSome = true ∧ 0 < ((printing (printPage 0 0 none none true) PrintPhase.lines).page
    (printPage 0 0 none none true).ref.page).prints) := by
  decide +kernel

theorem witness_PrintedEntryIsCancelled_cut :
  (unheld (printing (printPage 2 2 none none false) PrintPhase.cut)).inReset = false ∧ 31 < 32 ∧
  (unheld (printing (printPage 2 2 none none false) PrintPhase.cut)).entry 31 = some printEntry ∧
  (unheld (printing (printPage 2 2 none none false) PrintPhase.cut)).prt.engine = EngineState.printing ∧
  (unheld (printing (printPage 2 2 none none false) PrintPhase.cut)).prt.current = some 31 ∧
  ((unheld (printing (printPage 2 2 none none false) PrintPhase.cut)).prt.page = some (printPage 2 2 none none
    false)) ∧
  (unheld (printing (printPage 2 2 none none false) PrintPhase.cut)).pmm.pendingScan = none ∧
  (unheld (printing (printPage 2 2 none none false) PrintPhase.cut)).freedByHolds printEntry.document ∧
  ((printPage 2 2 none none false).reader = true → (unheld (printing (printPage 2 2 none none false)
    PrintPhase.cut)).current (printPage 2 2 none none false).ref = true ∧ (printPage 2 2 none none false).ref.page
    < 256 ∧ ((unheld (printing (printPage 2 2 none none false) PrintPhase.cut)).page (printPage 2 2 none none
    false).ref.page).document.isSome = true ∧ 0 < ((unheld (printing (printPage 2 2 none none false)
    PrintPhase.cut)).page (printPage 2 2 none none false).ref.page).prints) := by
  decide +kernel

theorem witness_FinalPageWakesItsEntry_wakes :
  (blockedOn 1).inReset = false ∧ (blockedOn 1).lcd.mode = CoderMode.board ∧
  (blockedOn 1).lcd.job = some (boardJob 1) ∧ (blockedOn 1).lcd.board = some boardRecord ∧
  (blockedOn 1).lcd.held = none ∧ (blockedOn 1).lcd.bits = [] ∧ 0 < (boardJob 1).lineCount ∧
  (blockedOn 1).current (boardJob 1).ref = true ∧
  ((blockedOn 1).page (boardJob 1).ref.page).state = PageState.filling ∧
  ((blockedOn 1).page (boardJob 1).ref.page).document = some boardRecord.document ∧ boardRecord.document < 64 ∧
  (boardJob 1).ref.page < 256 ∧ (blockedOn 1).prt.order = [31] ∧ 31 < 32 ∧ (blockedOn 1).entry 31 = some sampleEntry ∧
  sampleEntry.state = EntryState.blocked ∧ (blockedOn 1).prt.engine ≠ EngineState.idle := by
  decide +kernel

theorem witness_FinalPageWakesItsEntry_stays :
  (blockedOn 2).inReset = false ∧ (blockedOn 2).lcd.mode = CoderMode.board ∧
  (blockedOn 2).lcd.job = some (boardJob 1) ∧ (blockedOn 2).lcd.board = some boardRecord ∧
  (blockedOn 2).lcd.held = none ∧ (blockedOn 2).lcd.bits = [] ∧ 0 < (boardJob 1).lineCount ∧
  (blockedOn 2).current (boardJob 1).ref = true ∧
  ((blockedOn 2).page (boardJob 1).ref.page).state = PageState.filling ∧
  ((blockedOn 2).page (boardJob 1).ref.page).document = some boardRecord.document ∧ boardRecord.document < 64 ∧
  (boardJob 1).ref.page < 256 ∧ (blockedOn 2).prt.order = [31] ∧ 31 < 32 ∧ (blockedOn 2).entry 31 = some secondEntry ∧
  secondEntry.state = EntryState.blocked ∧ (blockedOn 2).prt.engine ≠ EngineState.idle := by
  decide +kernel

theorem witness_JobCancelCompletesOrRefuses_again :
  (outbound ringingOut sampleCtx cancelledJob).inReset = false ∧ 31 < 32 ∧
  (outbound ringingOut sampleCtx cancelledJob).job 31 = some cancelledJob ∧ cancelledJob.cancel = true := by
  decide +kernel

/-- For the invariants that every step keeps: a state with a command waiting has them, and its step has an answer. -/
theorem witness_StepKeeps_memory_and_queues :
  Memory.wf waiting.pmm.mem ∧ waiting.queuesBounded ∧ ∃ t, Machine.step waiting = .next t := by
  refine ⟨by decide +kernel, ?_, _, rfl⟩
  simp only [State.queuesBounded]; decide +kernel

theorem witness_StepKeeps_ledgers_and_ranges :
  waiting.ledgersBalanced ∧ waiting.inRange := by
  refine ⟨?_, ?_⟩
  · simp only [State.ledgersBalanced, Desk.balanced]; decide +kernel
  · simp only [State.inRange]; decide +kernel

theorem witness_StepKeeps_readers_places_and_margins :
  waiting.readersWithinLimits ∧ waiting.placesReserved ∧ waiting.marginsHeld := by
  refine ⟨?_, ?_, ?_⟩
  · simp only [State.readersWithinLimits]; decide +kernel
  · simp only [State.placesReserved, Line.timersInPlace]; decide +kernel
  · simp only [State.marginsHeld, Desk.withinMargin]; decide +kernel

/-- The gains of State.reset lie in 64..1023 (the second half of WorkingGainFollowsR31). -/
theorem witness_WorkingGainFollowsR31_gains :
  (∀ g ∈ waiting.scn.gain, 64 ≤ g ∧ g ≤ 1023) ∧ ∃ t, Machine.step waiting = .next t :=
  ⟨by decide +kernel, _, rfl⟩

/-- PRINT_CONFIG's third clause: a page started while none is being printed. -/
theorem witness_PrintConfigSetsTheNextPagesWidth_page :
  printReady.prt.page = none ∧ (printReady.startPage 31).prt.page.isSome = true := by decide +kernel

/-- A granted segment takes the byte (the third clause of BytesAreAppended). -/
theorem witness_BytesAreAppended_granted :
  (lowMemory 65).current writtenPage = true ∧ writtenPage.page < 256 ∧
  ((lowMemory 65).page writtenPage.page).state = .filling ∧
  ((lowMemory 65).page writtenPage.page).byteCount % 1024 = 0 ∧
  ∃ u, (lowMemory 65).grant writtenPage.page = some u ∧ (u.page writtenPage.page).last = some 0 := by
  refine ⟨by decide +kernel, by decide +kernel, by decide +kernel, by decide +kernel, _, rfl, by decide +kernel⟩

/-- The other slot's set is chosen where the slot named holds none (ChoiceFollowsR101). -/
theorem witness_ChoiceFollowsR101_other :
  (∀ d, (sideSlot.codeSet sideSlot.lcd.config.slot) = some d → d.number ∉ [3, 7]) ∧
  sideSlot.codeSet (1 - sideSlot.lcd.config.slot) = some (sampleSet 7) ∧ (sampleSet 7).number ∈ [3, 7] := by
  refine ⟨fun d h => ?_, by decide +kernel, by decide +kernel⟩
  rw [show sideSlot.codeSet sideSlot.lcd.config.slot = none by decide +kernel] at h
  cases h

/-- No set is chosen from an empty offer (ChoiceFollowsR101). -/
theorem witness_ChoiceFollowsR101_none :
  ∀ k, (k = loaded.lcd.config.slot ∨ k = 1 - loaded.lcd.config.slot) →
    ∀ d, loaded.codeSet k = some d → d.number ∉ ([] : List Nat) :=
  fun _ _ _ _ => List.not_mem_nil

/-- The route of a call that no rule covers (RouteFollowsR139). -/
theorem witness_RouteFollowsR139_none :
  ∀ q ∈ loaded.rtr.table, ¬ (q.mask.testBit (3 : LineNo).val = true ∧ ∃ rest, [(0x42 : Byte)] = q.tagPrefix ++ rest) := by
  rw [show loaded.rtr.table = [] by decide +kernel]
  exact fun q h => absurd h List.not_mem_nil

end Sys2Proof.Tests
end

section
/-!
PROOFS. What every step keeps (O6, O7, O10). `Keeps s t` says of an operation from `s` to `t` that it keeps the queue of
commands, the page memory's canonical form, the ranges, the readers' limits and the places of the reply and notice queues.
It is a preorder, and each operation of the model has one lemma, in the order of the model's files, that takes
`Keeps s₀ s` past it: the proof of an operation is the chain of the operations it is made of.
-/

namespace Sys2Proof.Machine

-- The lemmas are elaborated one by one, as in the tests: many at once ask for more threads than the check's limits allow.
set_option Elab.async false

/-! ## The step invariants -/

/-- The fields that the laws of `Keeps` read. -/
def State.ruled (s : State) :=
  ((s.pending, s.pmm.mem, s.pmm.pages), (s.scn.gain, s.scn.config.target, s.scn.bg),
    (s.callCounter, s.dsp.counter, s.dsp.time, s.prt.counter, s.prt.headWidth),
    (s.chg.counter, s.chg.clock.now, s.chg.bands), (s.bli.period, s.bli.replies, s.bli.notices))

/-- What every operation of the part keeps on its way from `s` to `t`: the queue of commands, the page memory's canonical
form, the ranges, the readers' limits and the places of the reply and notice queues. A preorder, so that the proof of an
operation follows the operation's own composition. -/
structure Keeps (s t : State) : Prop where
  pending : t.pending = s.pending
  memory : Memory.wf s.pmm.mem → Memory.wf t.pmm.mem
  ranges : s.inRange → t.inRange
  readers : s.readersWithinLimits → t.readersWithinLimits
  queues : s.queuesBounded → t.queuesBounded

/-- A page record's readers within the limits of their kinds (R10). -/
def PageRec.withinLimits (g : PageRec) : Prop := g.transmissions ≤ 4 ∧ g.prints ≤ 1 ∧ g.fetches ≤ 1

/-- The scan unit's part of the ranges: gains (R31), target (R27) and background (R37). -/
def Scn.inRange (u : Scn) : Prop :=
  (∀ g ∈ u.gain, 64 ≤ g ∧ g ≤ 1023) ∧ 64 ≤ u.config.target ∧ u.config.target ≤ 250 ∧ ∀ b ∈ u.bg, b ≤ 65280

theorem wrap16_le (n : Nat) : wrap16 n ≤ 65535 := by
  unfold wrap16; split <;> omega

theorem clampNat_bounds (x : Nat) {lo hi : Nat} (h : lo ≤ hi) : lo ≤ clampNat x lo hi ∧ clampNat x lo hi ≤ hi := by
  unfold clampNat
  split
  · omega
  · split <;> omega

namespace Keeps

variable {s₀ s t : State}

theorem refl (s : State) : Keeps s s := ⟨rfl, id, id, id, id⟩

theorem trans (h : Keeps s₀ s) (k : Keeps s t) : Keeps s₀ t :=
  ⟨k.pending.trans h.pending, k.memory ∘ h.memory, k.ranges ∘ h.ranges, k.readers ∘ h.readers, k.queues ∘ h.queues⟩

/-- A change of fields that no law reads. -/
theorem quiet (h : Keeps s₀ s) (e : t.ruled = s.ruled := by rfl) : Keeps s₀ t := by
  simp only [State.ruled, Prod.mk.injEq] at e
  obtain ⟨⟨hq, hm, hp⟩, ⟨hg, ht, hb⟩, ⟨h1, h2, h3, h4, h5⟩, ⟨h6, h7, h8⟩, h9, h10, h11⟩ := e
  refine h.trans ⟨hq, ?_, ?_, ?_, ?_⟩
  · rw [hm]; exact id
  · simp only [State.inRange, hg, ht, hb, h1, h2, h3, h4, h5, h6, h7, h8, h9]; exact id
  · simp only [State.readersWithinLimits, hp]; exact id
  · simp only [State.queuesBounded, h10, h11]; exact id

/-- The state of an answer that carries a value beside it. -/
theorem of_fst {α : Type} {x : State × α} {a : α} (h : Keeps s₀ x.1) (e : x = (t, a)) : Keeps s₀ t := by
  rw [e] at h; exact h

theorem foldl {α : Type} {f : State → α → State} (h : Keeps s₀ s) (l : List α)
    (hf : ∀ t a, Keeps s₀ t → Keeps s₀ (f t a)) : Keeps s₀ (l.foldl f s) :=
  List.foldlRecOn l f h fun t ht a _ => hf t a ht

/-! ### The changes the laws speak of -/

theorem setPage {p : Nat} {r : PageRec} (h : Keeps s₀ s)
    (hr : (s.page p).withinLimits → r.withinLimits := by exact id) :
    Keeps s₀ (s.setPage p r) := by
  refine h.trans ⟨rfl, id, id, fun k q => ?_, id⟩
  have page_eq (u : State) (i : Fin 256) : u.pmm.pages[i] = u.page i := by simp [State.page, tget]
  have hk (i : Fin 256) : (s.page i).withinLimits := page_eq s i ▸ k i
  rw [page_eq]
  by_cases hq : p = q
  · subst hq
    rw [page_setPage_self s _ r q.isLt]; exact hr (hk q)
  · rw [page_setPage_ne s _ _ r hq]; exact hk q

theorem setScn {u : Scn} (h : Keeps s₀ s) (hu : s.scn.inRange → u.inRange) : Keeps s₀ { s with scn := u } :=
  h.trans ⟨rfl, id, fun ⟨hg, h1, h2, hb, k⟩ =>
    have ⟨hg, h1, h2, hb⟩ := hu ⟨hg, h1, h2, hb⟩
    ⟨hg, h1, h2, hb, k⟩, id, id⟩

theorem reply {tag code : Nat} {r : ResultCode} {c : Nat} {b : ReplyBody} (h : Keeps s₀ s) :
    Keeps s₀ (s.reply tag code r c b) := by
  by_cases hl : s.bli.replies.length < 8
  · rw [reply_room s tag code r c b hl]
    exact h.trans ⟨rfl, id, id, id, fun k => ⟨by simpa [Config.replyPlaces] using hl, k.2⟩⟩
  · rw [reply_full s tag code r c b hl]
    exact h.quiet

theorem replyOk {tag code c : Nat} {b : ReplyBody} (h : Keeps s₀ s) : Keeps s₀ (s.replyOk tag code c b) := h.reply

theorem raise {b : NoticeBody} {tag : Nat} (h : Keeps s₀ s) : Keeps s₀ (s.raise b tag) := by
  unfold State.raise
  dsimp only
  split
  · rename_i c
    have hl : s.bli.notices.length < 32 := by simpa using (Bool.and_eq_true_iff.1 c).2
    exact h.trans ⟨rfl, id, id, id, fun k => ⟨k.1, by simpa [Config.noticePlaces] using hl⟩⟩
  · exact h.quiet

theorem report {r : Report} (h : Keeps s₀ s) : Keeps s₀ (s.report r) := h.quiet
theorem setDoc {d : Nat} {r : DocRec} (h : Keeps s₀ s) : Keeps s₀ (s.setDoc d r) := h.quiet
theorem raiseUse {k : Nat} (h : Keeps s₀ s) : Keeps s₀ (s.raiseUse k) := h.quiet
theorem lowerUse {k : Nat} (h : Keeps s₀ s) : Keeps s₀ (s.lowerUse k) := h.quiet
theorem updLine {n : LineNo} {f : Line → Line} (h : Keeps s₀ s) : Keeps s₀ (s.updLine n f) := h.quiet
theorem updCtx {n : LineNo} {f : Ctx → Ctx} (h : Keeps s₀ s) : Keeps s₀ (s.updCtx n f) := h.quiet
theorem updSess {n : LineNo} {f : Session → Session} (h : Keeps s₀ s) : Keeps s₀ (s.updSess n f) := h.quiet
theorem updCodec {n : LineNo} {f : Codec → Codec} (h : Keeps s₀ s) : Keeps s₀ (s.updCodec n f) := h.quiet
theorem updLcd {f : Lcd → Lcd} (h : Keeps s₀ s) : Keeps s₀ (s.updLcd f) := h.quiet
theorem updDesk {d : Nat} {f : Desk → Desk} (h : Keeps s₀ s) : Keeps s₀ (s.updDesk d f) := h.quiet
theorem setJob {j : Nat} {r : Option Job} (h : Keeps s₀ s) : Keeps s₀ (s.setJob j r) := h.quiet
theorem setEntry {e : Nat} {r : Option Entry} (h : Keeps s₀ s) : Keeps s₀ (s.setEntry e r) := h.quiet

/-! ### The page memory manager -/

theorem lowCheck (h : Keeps s₀ s) : Keeps s₀ s.lowCheck := by
  unfold State.lowCheck
  split
  · exact (h.quiet).raise
  · exact h

theorem grant {p : Nat} (h : Keeps s₀ s) (e : s.grant p = some t) : Keeps s₀ t := by
  unfold State.grant at e
  split at e
  · split at e
    · cases e
    · cases e
      exact ((h.quiet).setPage).lowCheck
  · cases e

theorem freeChain {p : Nat} (h : Keeps s₀ s) : Keeps s₀ (s.freeChain p) := by
  unfold State.freeChain
  split
  · exact h
  · exact ((h.quiet).setPage).report

/-- The one operation that writes the page memory (R7). -/
theorem append {r : PageRef} {b : Byte} (h : Keeps s₀ s) : Keeps s₀ (s.append r b).1 := by
  unfold State.append
  dsimp only
  split
  · split
    · exact h
    · rename_i u e
      have hu : Keeps s₀ u := by
        split at e
        · exact h.grant e
        · cases e; exact h
      have write : Keeps u { u with pmm := { u.pmm with
          mem := u.pmm.mem.write (segmentAddress ((u.page r.page).last.getD 0) (u.page r.page).byteCount) b } } :=
        ⟨rfl, Memory.write_wf _ _ _, id, id, id⟩
      exact (hu.trans write).setPage
  · exact h

theorem openPage {q : OpenRequest} (h : Keeps s₀ s) : Keeps s₀ (s.openPage q).1 := by
  unfold State.openPage
  dsimp only
  split
  · exact h
  · split
    · exact h
    · split
      · exact h
      · dsimp only
        exact (h.setPage fun _ => by simp [PageRec.withinLimits]).setDoc.raiseUse

theorem reportFinal {p : Nat} (h : Keeps s₀ s) : Keeps s₀ (s.reportFinal p) := by
  unfold State.reportFinal
  split
  exacts [h.report, h]

theorem completePage {r : PageRef} {n bad : Nat} {poor : Bool} (h : Keeps s₀ s) :
    Keeps s₀ (s.completePage r n bad poor) := by
  unfold State.completePage
  dsimp only
  split
  exacts [(h.setPage).reportFinal, h]

theorem damagePage {r : PageRef} {n bad : Nat} (h : Keeps s₀ s) : Keeps s₀ (s.damagePage r n bad) := by
  unfold State.damagePage
  dsimp only
  split
  exacts [(h.setPage).reportFinal, h]

theorem resetDiscard {r : PageRef} (h : Keeps s₀ s) : Keeps s₀ (s.resetDiscard r) := by
  unfold State.resetDiscard
  split
  exacts [h.freeChain.setPage, h]

theorem freeRecord {p : Nat} (h : Keeps s₀ s) : Keeps s₀ (s.freeRecord p) :=
  (h.lowerUse.setPage fun _ => by simp [PageRec.withinLimits]).report

theorem fullDiscard {r : PageRef} (h : Keeps s₀ s) : Keeps s₀ (s.fullDiscard r) := by
  unfold State.fullDiscard
  dsimp only
  split
  · split
    exacts [h.freeChain.setDoc.freeRecord, h.freeChain.freeRecord]
  · exact h

theorem freePage {p : Nat} (h : Keeps s₀ s) : Keeps s₀ (s.freePage p) := h.freeChain.freeRecord

theorem withinLimits_acquired {g : PageRec} {k : ReaderKind} (hk : g.readersOf k < k.limit) (h : g.withinLimits) :
    (g.setReaders k (g.readersOf k + 1)).withinLimits := by
  obtain ⟨h1, h2, h3⟩ := h
  cases k <;> simp only [PageRec.readersOf, ReaderKind.limit] at hk <;>
    refine ⟨?_, ?_, ?_⟩ <;> simp only [PageRec.setReaders, PageRec.readersOf] <;> omega

theorem withinLimits_released {g : PageRec} {k : ReaderKind} (h : g.withinLimits) :
    (g.setReaders k (g.readersOf k - 1)).withinLimits := by
  obtain ⟨h1, h2, h3⟩ := h
  cases k <;> refine ⟨?_, ?_, ?_⟩ <;> simp only [PageRec.setReaders, PageRec.readersOf] <;> omega

theorem acquire {k : ReaderKind} {p : Nat} (h : Keeps s₀ s) : Keeps s₀ (s.acquire k p).1 := by
  unfold State.acquire
  dsimp only
  split
  · rename_i c
    simp only [Bool.and_eq_true, decide_eq_true_eq] at c
    exact h.setPage (withinLimits_acquired c.2)
  · exact h

theorem release {k : ReaderKind} {r : PageRef} (h : Keeps s₀ s) : Keeps s₀ (s.release k r) := by
  unfold State.release
  dsimp only
  split
  · split
    exacts [(h.setPage withinLimits_released).freePage, h.setPage withinLimits_released]
  · exact h

theorem createDoc {o : Origin} {k : Nat} {f : Filler} {tag : Option Text} {hold : Bool} (h : Keeps s₀ s) :
    Keeps s₀ (s.createDoc o k f tag hold).1 := by
  unfold State.createDoc
  split
  exacts [h, h.setDoc]

theorem dropPage {p : Nat} (h : Keeps s₀ s) : Keeps s₀ (s.dropPage p) := by
  unfold State.dropPage
  split
  exacts [h.freePage, h.setPage]

theorem freeDoc {d : Nat} (h : Keeps s₀ s) : Keeps s₀ (s.freeDoc d) := by
  have hp : Keeps s₀ (((s.doc d).pages.foldl State.dropPage s).setDoc d {}) := (h.foldl _ fun _ _ ht => ht.dropPage).setDoc
  unfold State.freeDoc
  dsimp only
  split
  exacts [hp.report, hp]

theorem freeTest {d : Nat} (h : Keeps s₀ s) : Keeps s₀ (s.freeTest d) := by
  unfold State.freeTest
  split
  exacts [h.freeDoc, h]

theorem unbind {d : Nat} (h : Keeps s₀ s) : Keeps s₀ (s.unbind d) := h.setDoc

theorem closeDoc {d : Nat} (h : Keeps s₀ s) : Keeps s₀ (s.closeDoc d) := by
  unfold State.closeDoc
  dsimp only
  split
  · split
    · exact h.setDoc.freeDoc
    · split
      exacts [h.setDoc.report, h.setDoc]
  · exact h

theorem raiseSendHold {d : Nat} (h : Keeps s₀ s) : Keeps s₀ (s.raiseSendHold d) := h.setDoc
theorem lowerSendHold {d : Nat} (h : Keeps s₀ s) : Keeps s₀ (s.lowerSendHold d) := h.setDoc.freeTest
theorem raisePrintHold {d : Nat} (h : Keeps s₀ s) : Keeps s₀ (s.raisePrintHold d) := h.setDoc
theorem lowerPrintHold {d : Nat} (h : Keeps s₀ s) : Keeps s₀ (s.lowerPrintHold d) := h.setDoc.freeTest

/-! ### The codecs and the line coder -/

theorem verifyChar {n : LineNo} {b : Byte} {marked : Bool} (h : Keeps s₀ s) : Keeps s₀ (s.verifyChar n b marked) := by
  unfold State.verifyChar
  split
  exacts [h, h.updCodec]

theorem chooseWork {n : LineNo} {r : PageRef} (h : Keeps s₀ s) : Keeps s₀ (s.chooseWork n r) := h.quiet

theorem takeCoderPage {r : PageRef} {slot : Nat} {c : Coding} {w : Nat} (h : Keeps s₀ s) :
    Keeps s₀ (s.takeCoderPage r slot c w) := h.updLcd

theorem leaveCoderPage (h : Keeps s₀ s) : Keeps s₀ s.leaveCoderPage := h.updLcd
theorem dropCoderPage (h : Keeps s₀ s) : Keeps s₀ s.dropCoderPage := h.leaveCoderPage.updLcd

theorem storeBytes (r : PageRef) (bs : List Byte) (h : Keeps s₀ s) : Keeps s₀ (storeBytes r bs s).1 := by
  induction bs generalizing s with
  | nil => exact h
  | cons b bs ih =>
    unfold Machine.storeBytes
    split <;> rename_i e
    exacts [ih (h.append.of_fst e), h.append.of_fst e, h.append.of_fst e]

theorem storeLine {j : CoderPage} {l : HeldLine} (h : Keeps s₀ s) : Keeps s₀ (s.storeLine j l).1 := by
  have hb := storeBytes j.ref l.bytes h
  unfold State.storeLine
  split <;> rename_i e <;> dsimp only
  exacts [(hb.of_fst e).updLcd, (hb.of_fst e).updLcd]

theorem codeLine {l : PixelLine} (h : Keeps s₀ s) : Keeps s₀ (s.codeLine l).1 := by
  unfold State.codeLine
  split
  · exact h
  · split
    exacts [h, h.storeLine]

theorem tryHeld (h : Keeps s₀ s) : Keeps s₀ s.tryHeld.1 := by
  unfold State.tryHeld
  split
  exacts [h.storeLine, h]

theorem padPage (h : Keeps s₀ s) : Keeps s₀ s.padPage.1 := by
  unfold State.padPage
  split
  · exact h
  · split
    exacts [h, h.storeLine]

theorem completeCoderPage (h : Keeps s₀ s) : Keeps s₀ s.completeCoderPage := by
  unfold State.completeCoderPage
  split
  exacts [h, h.completePage.leaveCoderPage]

theorem discardCoderPage (h : Keeps s₀ s) : Keeps s₀ s.discardCoderPage := by
  unfold State.discardCoderPage
  split
  exacts [h, h.fullDiscard.dropCoderPage]

/-! ### The charge unit -/

theorem markClock {n : LineNo} (h : Keeps s₀ s) : Keeps s₀ (s.markClock n) := by
  unfold State.markClock
  split
  exacts [h, h.updCtx]

theorem charge {n : LineNo} {m : Bool} {c : Int} (h : Keeps s₀ s) : Keeps s₀ (s.charge n m c).1 := by
  unfold State.charge
  dsimp only
  split
  exacts [h.quiet, h.quiet]

theorem countCall {k : Nat} {p : Option Nat} {f : Nat → Nat} (h : Keeps s₀ s) : Keeps s₀ (s.countCall k p f) := by
  unfold State.countCall
  dsimp only
  split
  exacts [h.updDesk.updDesk, h.updDesk]

theorem reserve (h : Keeps s₀ s) : Keeps s₀ s.reserve := h.quiet
theorem returnReservation (h : Keeps s₀ s) : Keeps s₀ s.returnReservation := h.quiet

theorem chargeAnswer {n : LineNo} (h : Keeps s₀ s) : Keeps s₀ (s.chargeAnswer n).1 := by
  unfold State.chargeAnswer
  dsimp only
  split
  exacts [h.updCtx.charge.updCtx, h.updCtx]

theorem topUp {n : LineNo} {c : Int} (k : Nat) (h : Keeps s₀ s) : Keeps s₀ (topUp n c k s) := by
  induction k generalizing s with
  | zero => exact h
  | succ k ih => exact ih h.charge.updCtx

theorem chargeRelease {n : LineNo} (h : Keeps s₀ s) : Keeps s₀ (s.chargeRelease n) := by
  unfold State.chargeRelease
  dsimp only
  split
  exacts [topUp _ h.updCtx, h.updCtx]

theorem completeRecord {n : LineNo} (h : Keeps s₀ s) : Keeps s₀ (s.completeRecord n) := by
  have counted : Keeps s { s with chg := { s.chg with
      counter := wrap16 s.chg.counter
      queue := s.chg.queue ++ [s.chargeRecord n]
      reservations := s.chg.reservations - 1 } } :=
    ⟨rfl, id, fun ⟨h1, h2, h3, h4, h5, h6, h7, _, k⟩ => ⟨h1, h2, h3, h4, h5, h6, h7, wrap16_le _, k⟩, id, id⟩
  unfold State.completeRecord
  dsimp only
  split <;> split
  exacts [(h.trans counted).countCall.updDesk.updDesk, (h.trans counted).updDesk.updDesk,
    (h.trans counted).countCall.updDesk, (h.trans counted).updDesk]

/-! ### The dispatcher -/

theorem setDest {j d : Nat} {x : Dest} (h : Keeps s₀ s) : Keeps s₀ (s.setDest j d x) := h.setJob

theorem destResult {j d : Nat} {o : Option OutcomeInfo} (h : Keeps s₀ s) : Keeps s₀ (s.destResult j d o) := by
  unfold State.destResult
  split
  exacts [h.raise, h]

theorem completeJob {j : Nat} {lower : Bool} (h : Keeps s₀ s) : Keeps s₀ (s.completeJob j lower) := by
  unfold State.completeJob
  dsimp only
  split
  · exact h
  · split
    · split
      exacts [h.setJob.lowerSendHold.raise.quiet, h.setJob.raise.quiet]
    · exact h

theorem takeOutcome {j d : Nat} {o : CallOutcome} {info : OutcomeInfo} (h : Keeps s₀ s) :
    Keeps s₀ (s.takeOutcome j d o info) := by
  unfold State.takeOutcome
  dsimp only
  split
  · split
    exacts [h.setDest.destResult.report.completeJob, h.setDest.destResult.completeJob]
  · exact h

theorem failWaiting {j : Nat} {r : LastReason} (h : Keeps s₀ s) : Keeps s₀ (s.failWaiting j r) := by
  refine h.foldl _ fun t d ht => ?_
  split
  · split
    exacts [ht.setDest.destResult, ht]
  · exact ht

theorem jobDocClosed {doc count : Nat} (h : Keeps s₀ s) : Keeps s₀ (s.jobDocClosed doc count) := by
  unfold State.jobDocClosed
  split
  · exact h
  · split
    exacts [h.foldl _ fun _ _ ht => ht.failWaiting.completeJob, h.report]

theorem jobDocFreed {doc : Nat} (h : Keeps s₀ s) : Keeps s₀ (s.jobDocFreed doc) :=
  h.foldl _ fun _ _ ht => ht.failWaiting.completeJob

theorem jobFundsChanged {k : Nat} (h : Keeps s₀ s) : Keeps s₀ (s.jobFundsChanged k) := by
  refine h.foldl _ fun t j ht => ht.foldl _ fun u d hu => ?_
  dsimp only
  split
  · split
    exacts [hu.setDest.report, hu]
  · exact hu

theorem refuseAtDispatch {c : Candidate} {g : DestState} {r : LastReason} (h : Keeps s₀ s) :
    Keeps s₀ (s.refuseAtDispatch c g r) := by
  unfold State.refuseAtDispatch
  split
  exacts [h.setDest.destResult.completeJob, h]

/-! ### The pump links -/

theorem sendChars {n : LineNo} {cs : List PumpChar} (h : Keeps s₀ s) : Keeps s₀ (s.sendChars n cs) := h.updLine
theorem sendFrame {n : LineNo} {f : Frame} (h : Keeps s₀ s) : Keeps s₀ (s.sendFrame n f) := h.sendChars
theorem startPhase {n : LineNo} {k : Nat} {d : PhaseDir} (h : Keeps s₀ s) : Keeps s₀ (s.startPhase n k d) :=
  h.sendChars.updLine

theorem stopPhase {n : LineNo} (h : Keeps s₀ s) : Keeps s₀ (s.stopPhase n) := by
  unfold State.stopPhase
  split
  exacts [h, h.sendChars.updLine]

theorem startReply {n : LineNo} (h : Keeps s₀ s) : Keeps s₀ (s.startReply n) := h.updLine
theorem stopReply {n : LineNo} (h : Keeps s₀ s) : Keeps s₀ (s.stopReply n) := h.updLine
theorem sendRequest {n : LineNo} {f : Frame} (h : Keeps s₀ s) : Keeps s₀ (s.sendRequest n f) :=
  h.sendFrame.updSess.startReply
theorem answered {n : LineNo} (h : Keeps s₀ s) : Keeps s₀ (s.answered n) := h.stopReply.updSess
theorem enterStage {n : LineNo} {g : Stage} (h : Keeps s₀ s) : Keeps s₀ (s.enterStage n g) := h.updSess
theorem enterState {n : LineNo} {g : LineState} (h : Keeps s₀ s) : Keeps s₀ (s.enterState n g) := h.updLine
theorem enterWatch {n : LineNo} {g : Stage} (h : Keeps s₀ s) : Keeps s₀ (s.enterWatch n g) :=
  h.enterStage.updSess.startReply
theorem sendStored {n : LineNo} {f : Frame} (h : Keeps s₀ s) : Keeps s₀ (s.sendStored n f) := h.sendFrame.updSess

/-! ### The print unit -/

theorem updEntry {e : Nat} {f : Entry → Entry} (h : Keeps s₀ s) : Keeps s₀ (s.updEntry e f) := h.setEntry

/-- An update of the print unit that leaves its counter and the head width. -/
theorem updPrt {f : Prt → Prt} (h : Keeps s₀ s) (hc : (f s.prt).counter = s.prt.counter := by rfl)
    (hw : (f s.prt).headWidth = s.prt.headWidth := by rfl) : Keeps s₀ (s.updPrt f) :=
  h.quiet (by simp only [State.ruled, State.updPrt, hc, hw])

theorem createEntry {d : Nat} {o : EntrySource} {c p : Nat} (h : Keeps s₀ s) : Keeps s₀ (s.createEntry d o c p).1 := by
  have counted (u : State) (e : Nat) : Keeps u (u.updPrt fun p =>
      { p with order := p.order ++ [e], counter := wrap16 p.counter }) :=
    ⟨rfl, id, fun ⟨h1, h2, h3, h4, h5, h6, _, k⟩ => ⟨h1, h2, h3, h4, h5, h6, wrap16_le _, k⟩, id, id⟩
  unfold State.createEntry
  split
  · exact h
  · dsimp only
    split
    exacts [(h.setEntry.trans (counted _ _)).raisePrintHold.report, (h.setEntry.trans (counted _ _)).raisePrintHold]

theorem removeEntry {e : Nat} (h : Keeps s₀ s) : Keeps s₀ (s.removeEntry e) := h.setEntry.updPrt

theorem finishEntry {e : Nat} (h : Keeps s₀ s) : Keeps s₀ (s.finishEntry e) := by
  unfold State.finishEntry
  split
  exacts [h, h.lowerPrintHold.raise.removeEntry]

theorem endCopy {e : Nat} {g : EntryState} (h : Keeps s₀ s) : Keeps s₀ (s.endCopy e g).1 := by
  unfold State.endCopy
  split
  · exact h
  · split
    exacts [h.setEntry, h.finishEntry]

theorem startPage {e : Nat} (h : Keeps s₀ s) : Keeps s₀ (s.startPage e) := by
  unfold State.startPage
  split
  · exact h
  · split
    · exact h.updEntry.updPrt
    · split <;> rename_i e
      · exact (h.acquire.of_fst e).updEntry.updPrt
      · dsimp only
        split
        exacts [(h.acquire.of_fst e).updEntry.updPrt.release.report, (h.acquire.of_fst e).updEntry.updPrt]

theorem arbiterChoice (h : Keeps s₀ s) : Keeps s₀ s.arbiterChoice := by
  unfold State.arbiterChoice
  split
  · split
    exacts [h.startPage, h]
  · exact h

theorem restEngine {notice : Bool} (h : Keeps s₀ s) : Keeps s₀ (s.restEngine notice) := by
  unfold State.restEngine
  dsimp only
  split
  · exact h.updPrt.updPrt.report
  · split
    exacts [h.updPrt.updPrt.raise, h.updPrt.updPrt]

theorem settleBoundary {e : Nat} (h : Keeps s₀ s) : Keeps s₀ (s.settleBoundary e) := by
  unfold State.settleBoundary
  split
  · exact h.restEngine
  · split
    · exact h.setEntry.restEngine
    · split
      · exact h.setEntry.restEngine
      · split
        exacts [h.setEntry.restEngine, h.startPage]

theorem pageBoundary (h : Keeps s₀ s) : Keeps s₀ s.pageBoundary := by
  unfold State.pageBoundary
  split
  · exact h
  · split
    · exact h.restEngine
    · dsimp only
      split
      · split <;> rename_i e
        exacts [(h.setEntry.updPrt.endCopy.of_fst e).settleBoundary, (h.setEntry.updPrt.endCopy.of_fst e).restEngine]
      · exact h.setEntry.updPrt.settleBoundary

theorem printPageFinal {d i : Nat} (h : Keeps s₀ s) : Keeps s₀ (s.printPageFinal d i) := by
  refine h.foldl _ fun t e ht => ?_
  split
  · split
    exacts [ht.setEntry.report, ht]
  · exact ht

theorem printDocClosed {d n : Nat} (h : Keeps s₀ s) : Keeps s₀ (s.printDocClosed d n) := by
  refine h.foldl _ fun t e ht => ?_
  split
  · split
    · dsimp only
      split
      · split <;> rename_i e
        exacts [(ht.setEntry.endCopy.of_fst e).report, ht.setEntry.endCopy.of_fst e]
      · exact ht.setEntry
    · exact ht
  · exact ht

theorem printDocFreed {d : Nat} (h : Keeps s₀ s) : Keeps s₀ (s.printDocFreed d) := by
  refine h.foldl _ fun t e ht => ?_
  split
  · split
    exacts [ht.removeEntry, ht]
  · exact ht

theorem dropReader (h : Keeps s₀ s) : Keeps s₀ s.dropReader := by
  unfold State.dropReader
  split
  · split
    exacts [h.release, h]
  · exact h

theorem abandonPage (h : Keeps s₀ s) : Keeps s₀ s.abandonPage := by
  unfold State.abandonPage
  split
  exacts [h.dropReader.updEntry.updPrt.raise, h]

theorem paperChange {level : Bool} (h : Keeps s₀ s) : Keeps s₀ (s.paperChange level) := by
  have hp : Keeps s₀ (s.updPrt fun p => { p with paper := level }) := h.updPrt
  unfold State.paperChange
  dsimp only
  split
  · split
    exacts [hp, hp.updPrt.raise]
  · split
    exacts [hp.updPrt.report, hp]
  · split
    · exact hp
    · split
      exacts [hp.abandonPage, hp]

theorem decodePrintLine (h : Keeps s₀ s) : Keeps s₀ s.decodePrintLine := by
  unfold State.decodePrintLine
  split
  · split
    · dsimp only
      split
      exacts [h.updPrt.release.updEntry, h.updPrt]
    · exact h
  · exact h

theorem takePrintLine (h : Keeps s₀ s) : Keeps s₀ s.takePrintLine := by
  unfold State.takePrintLine
  split
  · dsimp only
    split
    exacts [h.updPrt.updPrt, h.updPrt]
  · exact h

theorem cutFinished (h : Keeps s₀ s) : Keeps s₀ s.cutFinished := by
  unfold State.cutFinished
  split
  · dsimp only
    split
    exacts [h.updPrt.pageBoundary, h.updPrt.restEngine]
  · exact h

theorem cancelEntry {e : Nat} {r : Entry} (h : Keeps s₀ s) : Keeps s₀ (s.cancelEntry e r) := by
  unfold State.cancelEntry
  dsimp only
  split
  exacts [h.dropReader.updPrt.removeEntry.lowerPrintHold, h.removeEntry.lowerPrintHold]

/-! ### The reception router -/

theorem setReception {n : LineNo} {r : Option Reception} (h : Keeps s₀ s) : Keeps s₀ (s.setReception n r) := h.quiet

theorem routeEntry {n : LineNo} {d : Nat} {tag : Text} {i : Option Nat} {r : RouteRule} (h : Keeps s₀ s) :
    Keeps s₀ (s.routeEntry n d tag i r).1 := by
  unfold State.routeEntry
  split
  · exact h
  · split <;> rename_i e
    exacts [h.createEntry.of_fst e, (h.createEntry.of_fst e).setDoc.raise]

theorem routeRequest {n : LineNo} {call : Nat} {tag : Text} (h : Keeps s₀ s) :
    Keeps s₀ (s.routeRequest n call tag).1 := by
  unfold State.routeRequest
  split
  · exact h
  · dsimp only
    split
    · exact h
    · split <;> rename_i e
      exacts [h.createDoc.of_fst e, (h.createDoc.of_fst e).routeEntry.setReception]

theorem closeReceived {d : Nat} (h : Keeps s₀ s) : Keeps s₀ (s.closeReceived d).1 := h.unbind.closeDoc

theorem disposition {r : Reception} {c : Captured} (h : Keeps s₀ s) : Keeps s₀ (s.disposition r c).1 := by
  unfold State.disposition
  split
  · exact h
  · split
    · exact h
    · split
      exacts [h, h.quiet]

theorem routerCallEnd {n : LineNo} {r : EndReason} {k : Nat} {sent : Option Nat} {c : Captured} (h : Keeps s₀ s) :
    Keeps s₀ (s.routerCallEnd n r k sent c) := by
  unfold State.routerCallEnd
  split
  · exact h
  · dsimp only
    split <;> split
    exacts [h.report.disposition.raise.setReception, h.disposition.raise.setReception, h.report.setReception,
      h.setReception]

/-! ### Calls -/

theorem enterIdle {n : LineNo} (h : Keeps s₀ s) : Keeps s₀ (s.enterIdle n) := h.updLine.report
theorem leaveService {n : LineNo} {c : LineCause} (h : Keeps s₀ s) : Keeps s₀ (s.leaveService n c) := h.updLine.raise

theorem takeCallId (h : Keeps s₀ s) : Keeps s₀ s.takeCallId.1 :=
  h.trans ⟨rfl, id, fun ⟨h1, h2, h3, h4, _, k⟩ => ⟨h1, h2, h3, h4, wrap16_le _, k⟩, id, id⟩

theorem beginSession {n : LineNo} {r : Role} (h : Keeps s₀ s) : Keeps s₀ (s.beginSession n r) := h.enterState.updCtx
theorem beginCaller {n : LineNo} (h : Keeps s₀ s) : Keeps s₀ (s.beginCaller n) := h.beginSession.updSess.startReply
theorem beginCallee {n : LineNo} (h : Keeps s₀ s) : Keeps s₀ (s.beginCallee n) := h.beginSession.updSess.sendRequest

theorem enterAnswering {n : LineNo} {r : RingRecord} (h : Keeps s₀ s) : Keeps s₀ (s.enterAnswering n r) := by
  unfold State.enterAnswering
  exact h.reserve.takeCallId.updLine

theorem afterBurst {n : LineNo} {r : RingRecord} (h : Keeps s₀ s) : Keeps s₀ (s.afterBurst n r) := by
  unfold State.afterBurst
  dsimp only
  split
  · exact h.updLine
  · split
    exacts [h.updLine.enterAnswering, h.updLine.updLine]

theorem burst {n : LineNo} (h : Keeps s₀ s) : Keeps s₀ (s.burst n) := by
  unfold State.burst
  dsimp only
  split
  exacts [h.enterState.afterBurst, h.afterBurst, h]

theorem abandonRinging {n : LineNo} (h : Keeps s₀ s) : Keeps s₀ (s.abandonRinging n) := by
  unfold State.abandonRinging
  split
  exacts [h.updLine.raise.enterIdle, h]

theorem seize {n : LineNo} {j d tag k : Nat} {p : Pass} (h : Keeps s₀ s) : Keeps s₀ (s.seize n j d tag k p) :=
  h.takeCallId.updLine.markClock

theorem awaitAnswer {n : LineNo} (h : Keeps s₀ s) : Keeps s₀ (s.awaitAnswer n) := h.updLine

theorem dialNext {n : LineNo} (h : Keeps s₀ s) : Keeps s₀ (s.dialNext n) := by
  unfold State.dialNext
  split
  · exact h.awaitAnswer
  · dsimp only
    split
    · exact h.updLine.updLine
    · split
      exacts [h.updLine.updLine, h.updLine.sendChars.updLine]

theorem enterDialing {n : LineNo} (h : Keeps s₀ s) : Keeps s₀ (s.enterDialing n) := h.updLine.dialNext

theorem endPhase {n : LineNo} (h : Keeps s₀ s) : Keeps s₀ (s.endPhase n) := by
  unfold State.endPhase
  dsimp only
  split
  · split
    exacts [h.stopPhase.updCodec, h.stopPhase]
  · exact h.stopPhase

theorem damageReceived {n : LineNo} {r : PageRef} (h : Keeps s₀ s) : Keeps s₀ (s.damageReceived n r) := h.damagePage

theorem settleReceived {n : LineNo} (h : Keeps s₀ s) : Keeps s₀ (s.settleReceived n) := by
  unfold State.settleReceived
  split
  · exact h
  · split
    · split
      exacts [h.damageReceived, h.fullDiscard]
    · exact h

theorem dropTransmission {n : LineNo} (h : Keeps s₀ s) : Keeps s₀ (s.dropTransmission n) := by
  unfold State.dropTransmission
  split
  exacts [h.release.updSess, h]

theorem handOutcome {n : LineNo} {o : CallOutcome} (h : Keeps s₀ s) : Keeps s₀ (s.handOutcome n o) := by
  unfold State.handOutcome
  split
  exacts [h.takeOutcome, h]

theorem endReception {n : LineNo} {r : EndReason} (h : Keeps s₀ s) : Keeps s₀ (s.endReception n r) := by
  unfold State.endReception
  split
  exacts [h, h.closeReceived.routerCallEnd]

theorem releaseCall {n : LineNo} {r : EndReason} (h : Keeps s₀ s) : Keeps s₀ (s.releaseCall n r) := by
  unfold State.releaseCall
  split
  · exact h.updCtx.markClock.endPhase.updLine.settleReceived.dropTransmission.updCodec.endReception.handOutcome.chargeRelease
  · exact h

theorem chargeCall {n : LineNo} {m : Bool} {c : Int} (h : Keeps s₀ s) : Keeps s₀ (s.chargeCall n m c) := by
  unfold State.chargeCall
  split <;> rename_i e
  exacts [(h.charge.of_fst e).releaseCall, h.charge.of_fst e]

theorem loopFault {n : LineNo} (h : Keeps s₀ s) : Keeps s₀ (s.loopFault n) := by
  unfold State.loopFault
  dsimp only
  split <;> split
  exacts [h.countCall.returnReservation.updLine.leaveService.takeOutcome,
    h.returnReservation.updLine.leaveService.takeOutcome, h.countCall.returnReservation.updLine.leaveService,
    h.returnReservation.updLine.leaveService]

theorem checkLoop {n : LineNo} {current : Bool} (h : Keeps s₀ s) : Keeps s₀ (s.checkLoop n current) := by
  unfold State.checkLoop
  dsimp only
  split
  · split
    · split
      · split
        exacts [h.updLine.updLine.enterDialing, h.updLine.updLine]
      · exact h.updLine.loopFault
    · split
      exacts [h.updLine.updCtx.markClock.beginCallee, h.updLine.loopFault]
    · exact h.updLine
  · exact h

theorem farEndAnswers {n : LineNo} (h : Keeps s₀ s) : Keeps s₀ (s.farEndAnswers n) := by
  have ha := (h.updLine (n := n) (f := fun l => { l with answerWait := none })).updCtx (n := n)
    (f := fun x => { x with answer := some s.now })
  unfold State.farEndAnswers
  dsimp only
  split <;> rename_i e
  exacts [(ha.markClock.chargeAnswer.of_fst e).releaseCall, (ha.markClock.chargeAnswer.of_fst e).beginCaller]

theorem guardEnds {n : LineNo} (h : Keeps s₀ s) : Keeps s₀ (s.guardEnds n) := by
  unfold State.guardEnds
  dsimp only
  split
  exacts [h.completeRecord.updLine.enterIdle, h.completeRecord.updLine.leaveService]

/-! ### The evaluation -/

theorem bindDest {n : LineNo} {c : Candidate} {r : Job} {x : Dest} {p : Pass} (h : Keeps s₀ s) :
    Keeps s₀ (s.bindDest n c r x p) := h.reserve.countCall.seize.setDest

theorem dispatch {n : LineNo} {c : Candidate} (h : Keeps s₀ s) : Keeps s₀ (s.dispatch n c) := by
  unfold State.dispatch
  split
  · split
    exacts [h.refuseAtDispatch, h.refuseAtDispatch, h.refuseAtDispatch, h.bindDest]
  · exact h

theorem evaluateSteps (k : Nat) (h : Keeps s₀ s) : Keeps s₀ (evaluateSteps k s) := by
  induction k generalizing s with
  | zero => exact h
  | succ k ih =>
    unfold Machine.evaluateSteps
    split
    · split
      exacts [ih h.dispatch, h]
    · exact h

theorem evaluate (h : Keeps s₀ s) : Keeps s₀ s.evaluate := evaluateSteps 513 h

end Keeps

/-! ### The scan unit's ranges -/

theorem workingGain_bounds (target white dark : Nat) :
    64 ≤ workingGain target white dark ∧ workingGain target white dark ≤ 1023 := by
  unfold workingGain
  split
  · exact clampNat_bounds _ (by decide)
  · decide

theorem conclude_inRange (u : Scn) (dark white : List Nat) (h : u.inRange) : (u.conclude dark white).1.inRange := by
  unfold Scn.conclude
  dsimp only
  split
  · refine ⟨fun g hg => ?_, h.2⟩
    obtain ⟨x, _, rfl⟩ := List.mem_map.1 hg
    exact workingGain_bounds _ _ _
  · exact h

theorem trackBackground_le {beta b v : Nat} (hb : b ≤ 65280) (hv : v ≤ 255) : trackBackground beta b v ≤ 65280 := by
  have hpos : (1 : Int) ≤ 2 ^ beta := one_le_pow₀ (by decide)
  have step_le : ((v * 256 : Int) - b) / 2 ^ beta ≤ max 0 ((v * 256 : Int) - b) := by
    rcases le_total 0 ((v * 256 : Int) - b) with hd | hd
    · exact (Int.ediv_le_self _ hd).trans (le_max_right _ _)
    · exact (Int.ediv_nonpos_of_nonpos_of_neg hd hpos).trans (le_max_left _ _)
  unfold trackBackground
  omega

theorem trackLine_le (beta : Nat) (bs vs : List Nat) (ps : PixelLine) (hb : ∀ b ∈ bs, b ≤ 65280)
    (hv : ∀ v ∈ vs, v ≤ 255) : ∀ b ∈ trackLine beta bs vs ps, b ≤ 65280 := by
  induction bs generalizing vs ps with
  | nil => simp [trackLine]
  | cons b bs ih =>
    match vs, ps with
    | [], _ => simpa [trackLine] using hb
    | _ :: _, [] => simpa [trackLine] using hb
    | v :: vs, p :: ps =>
      rw [List.forall_mem_cons] at hb hv
      rw [trackLine, List.forall_mem_cons]
      refine ⟨?_, ih vs ps hb.2 hv.2⟩
      split
      exacts [hb.1, trackBackground_le hb.1 hv.1]

theorem correct_le (u : Scn) (samples : List Byte) : ∀ v ∈ u.correct samples, v ≤ 255 := by
  intro v hv
  obtain ⟨x, _, rfl⟩ := List.mem_map.1 hv
  exact min_le_left _ _

theorem process_bg_le (u : Scn) (samples : List Byte) (h : ∀ b ∈ u.bg, b ≤ 65280) :
    ∀ b ∈ (u.process samples).2, b ≤ 65280 :=
  trackLine_le _ _ _ _ h (correct_le u samples)

theorem reseeded_inRange (u : Scn) (h : u.inRange) :
    Scn.inRange { u with bg := List.replicate Config.columns (u.config.target * 256) } := by
  obtain ⟨hg, hlo, hhi, _⟩ := h
  refine ⟨hg, hlo, hhi, fun b hb => ?_⟩
  have := List.eq_of_mem_replicate hb
  omega

namespace Keeps

variable {s₀ s t : State}

/-! ### The scan unit -/

theorem updScn {f : Scn → Scn} (h : Keeps s₀ s) (hf : s.scn.inRange → (f s.scn).inRange := by exact id) :
    Keeps s₀ (s.updScn f) := h.setScn hf

theorem updScan {f : ScanSession → ScanSession} (h : Keeps s₀ s) : Keeps s₀ (s.updScan f) := h.updScn

theorem beginPass {c : Calibration} {lamp : Bool} (h : Keeps s₀ s) : Keeps s₀ (s.beginPass c lamp) := h.updScn
theorem beginCalibration (h : Keeps s₀ s) : Keeps s₀ s.beginCalibration := h.updScn.beginPass

theorem pauseScan {q : ScanRequest} {g : ScanState} (h : Keeps s₀ s) : Keeps s₀ (s.pauseScan q g) := h.quiet
theorem requestLine (h : Keeps s₀ s) : Keeps s₀ s.requestLine := h.updScn
theorem enterScanning (h : Keeps s₀ s) : Keeps s₀ s.enterScanning := h.updScan.updScn.requestLine

theorem openScanPage {x : ScanSession} (h : Keeps s₀ s) : Keeps s₀ (s.openScanPage x).1 := by
  unfold State.openScanPage
  split <;> rename_i e
  · exact h.openPage.of_fst e
  · dsimp only
    exact (h.openPage.of_fst e).takeCoderPage.updScan.updScn (reseeded_inRange _)

theorem runFeed (h : Keeps s₀ s) : Keeps s₀ s.runFeed := by
  unfold State.runFeed
  dsimp only
  split
  exacts [h.updScan.updScn.enterScanning, h.updScan.updScn]

theorem feed (h : Keeps s₀ s) : Keeps s₀ s.feed := by
  unfold State.feed
  split
  · exact h
  · split <;> rename_i e
    exacts [(h.openScanPage.of_fst e).runFeed, (h.openScanPage.of_fst e).updScan.pauseScan]

theorem waitPaper (h : Keeps s₀ s) : Keeps s₀ s.waitPaper := by
  unfold State.waitPaper
  dsimp only
  split
  exacts [h.updScan.updScn.feed, h.updScan.updScn]

theorem takeCalLine {samples : List Byte} (h : Keeps s₀ s) : Keeps s₀ (s.takeCalLine samples) := by
  unfold State.takeCalLine
  split
  · split
    · dsimp only
      split
      · split
        exacts [h.updScn, h.beginPass]
      · split
        · exact h.updScn
        · split
          exacts [(h.setScn (conclude_inRange _ _ _)).raise.waitPaper, (h.setScn (conclude_inRange _ _ _)).raise.updScn]
    · exact h
  · exact h

theorem endScan {r : ScanReason} {close : Bool} (h : Keeps s₀ s) : Keeps s₀ (s.endScan r close) := by
  have withdrawn : Keeps s₀ { s with pmm := { s.pmm with pendingScan := none } } := h.quiet
  unfold State.endScan
  split
  · exact h
  · dsimp only
    split
    exacts [withdrawn.unbind.closeDoc.leaveCoderPage.updLcd.updScn.raise, withdrawn.unbind.leaveCoderPage.updLcd.updScn.raise]

theorem sheetEnded (h : Keeps s₀ s) : Keeps s₀ s.sheetEnded := by
  unfold State.sheetEnded
  split
  · exact h.endScan
  · split
    exacts [h.endScan, h.feed]

theorem pageEnded {e : PageEnd} (h : Keeps s₀ s) : Keeps s₀ (s.pageEnded e) := by
  unfold State.pageEnded
  split
  · exact h.sheetEnded
  · split
    · exact h.sheetEnded
    · split
      · exact h.endScan
      · split
        · exact h
        · split <;> rename_i e
          exacts [(h.openScanPage.of_fst e).enterScanning, (h.openScanPage.of_fst e).updScan.pauseScan]

theorem scanPageDone {e : PageEnd} (h : Keeps s₀ s) : Keeps s₀ (s.scanPageDone e) :=
  h.completeCoderPage.updScan.pageEnded

theorem finishScanPage {e : PageEnd} (h : Keeps s₀ s) : Keeps s₀ (s.finishScanPage e) := by
  unfold State.finishScanPage
  split <;> rename_i e
  exacts [(h.padPage.of_fst e).scanPageDone, (h.padPage.of_fst e).updScan.pauseScan]

theorem afterScanLine (h : Keeps s₀ s) : Keeps s₀ s.afterScanLine := by
  unfold State.afterScanLine
  split
  · exact h
  · split
    · exact h.finishScanPage
    · split
      exacts [h.requestLine, h.finishScanPage]

theorem takeScanLine {samples : List Byte} (h : Keeps s₀ s) : Keeps s₀ (s.takeScanLine samples) := by
  unfold State.takeScanLine
  split
  · rename_i x n _ _ _
    have tracked : Keeps s₀ (s.updScn fun u =>
        { u with
          bg := (s.scn.process (samples.take n)).2, lineRequest := none
          motorSteps := u.motorSteps + x.density.motorSteps }) :=
      h.updScn fun ⟨hg, h1, h2, hb⟩ => ⟨hg, h1, h2, process_bg_le _ _ hb⟩
    split
    · dsimp only
      split <;> rename_i e
      exacts [(tracked.updScan.codeLine.of_fst e).afterScanLine, (tracked.updScan.codeLine.of_fst e).pauseScan]
    · exact h
  · exact h

theorem resumeGrant (h : Keeps s₀ s) : Keeps s₀ s.resumeGrant := by
  have resumed : Keeps s₀ ((s.updScan fun x => { x with memWait := none, resume := none }).updScn fun u =>
      { u with state := .scanning, motor := .perLine }) := h.updScan.updScn
  unfold State.resumeGrant
  dsimp only
  split <;> rename_i e
  · exact (resumed.tryHeld.of_fst e).pauseScan
  · split
    exacts [(resumed.tryHeld.of_fst e).scanPageDone, (resumed.tryHeld.of_fst e).afterScanLine]

theorem retryScan (h : Keeps s₀ s) : Keeps s₀ s.retryScan := by
  have withdrawn : Keeps s₀ { s with pmm := { s.pmm with pendingScan := none } } := h.quiet
  unfold State.retryScan
  split
  · split
    exacts [withdrawn.resumeGrant, h]
  · split
    · exact h
    · split <;> rename_i e
      · exact h
      · dsimp only
        split
        exacts [(withdrawn.openScanPage.of_fst e).updScan.enterScanning, (withdrawn.openScanPage.of_fst e).updScan.runFeed]
  · exact h

theorem discardScanPage (h : Keeps s₀ s) : Keeps s₀ s.discardScanPage := by
  have withdrawn : Keeps s₀ { s with pmm := { s.pmm with pendingScan := none } } := h.quiet
  exact withdrawn.discardCoderPage

/-! ### Sessions -/

theorem closeWith {n : LineNo} {c : CloseCause} (h : Keeps s₀ s) : Keeps s₀ (s.closeWith n c) :=
  h.enterState.updSess.sendRequest

theorem announce {n : LineNo} (h : Keeps s₀ s) : Keeps s₀ (s.announce n) :=
  h.sendFrame.startPhase.enterStage.startReply

theorem takeReader {n : LineNo} {m a : Nat} (h : Keeps s₀ s) : Keeps s₀ (s.takeReader n m a) := by
  unfold State.takeReader
  split
  · split
    exacts [h.acquire.updSess, h.updSess]
  · exact h

theorem beginPage {n : LineNo} {m a : Nat} (h : Keeps s₀ s) : Keeps s₀ (s.beginPage n m a) := by
  unfold State.beginPage
  dsimp only
  split
  exacts [h.takeReader.updCtx.chooseWork.announce, h.takeReader.updCtx.announce]

theorem lowerStep {n : LineNo} (h : Keeps s₀ s) : Keeps s₀ (s.lowerStep n) := h.updSess

theorem callerTrainFailed {n : LineNo} (h : Keeps s₀ s) : Keeps s₀ (s.callerTrainFailed n) := by
  unfold State.callerTrainFailed
  dsimp only
  split
  exacts [h.updSess.releaseCall, h.updSess.endPhase.lowerStep.announce]

theorem sendTail {n : LineNo} (h : Keeps s₀ s) : Keeps s₀ (s.sendTail n) := h.endPhase.updSess.sendRequest

theorem sendProgress {n : LineNo} (h : Keeps s₀ s) : Keeps s₀ (s.sendProgress n) := by
  unfold State.sendProgress
  dsimp only
  split
  · split
    · split
      · split
        exacts [h.sendChars.updCodec.updLine, h]
      · exact h.sendTail
    · exact h
  · exact h

theorem takeOffer {n : LineNo} {f : OfferFields} (h : Keeps s₀ s) : Keeps s₀ (s.takeOffer n f) := by
  unfold State.takeOffer
  dsimp only
  split
  · exact h.answered.updSess.closeWith
  · split
    · exact h.answered.updSess.closeWith
    · split
      exacts [h.answered.updSess.closeWith, h.answered.updSess.updCtx.updSess.updCodec.sendRequest]

theorem takeAccept {n : LineNo} (h : Keeps s₀ s) : Keeps s₀ (s.takeAccept n) := by
  unfold State.takeAccept
  dsimp only
  split
  exacts [h.answered.closeWith, h.answered.enterState.beginPage]

theorem takeDecline {n : LineNo} {r : DeclineReason} (h : Keeps s₀ s) : Keeps s₀ (s.takeDecline n r) :=
  h.answered.endPhase.dropTransmission.updCodec.closeWith

theorem takePageAck {n : LineNo} {v : Verdict} (h : Keeps s₀ s) : Keeps s₀ (s.takePageAck n v) := by
  have kept : Keeps s₀ ((((s.answered n).updCtx n fun x => { x with confirmed := x.confirmed + 1 }).dropTransmission
      n).updCodec n Codec.idle) := h.answered.updCtx.dropTransmission.updCodec
  unfold State.takePageAck
  dsimp only
  split
  · split
    exacts [h.answered.lowerStep.beginPage, h.answered.releaseCall]
  all_goals
    split
    · exact kept.closeWith
    · split
      exacts [kept.closeWith, kept.beginPage]

theorem takeEndAck {n : LineNo} (h : Keeps s₀ s) : Keeps s₀ (s.takeEndAck n) := h.answered.releaseCall

theorem declineChoose {n : LineNo} {r : DeclineReason} (h : Keeps s₀ s) : Keeps s₀ (s.declineChoose n r) :=
  h.sendStored.updSess.enterWatch

theorem acceptChoose {n : LineNo} {f : ChooseFields} (h : Keeps s₀ s) : Keeps s₀ (s.acceptChoose n f) := by
  have bound : Keeps s₀ (match s.slotOf f.code with
      | some k => s.updCodec n fun _ => Codec.bound k
      | none => s) := by
    split
    exacts [h.updCodec, h]
  unfold State.acceptChoose
  dsimp only
  split <;> rename_i e
  exacts [(bound.updCtx.updSess.routeRequest.of_fst e).updCodec.updSess.declineChoose,
    (bound.updCtx.updSess.routeRequest.of_fst e).countCall.updCtx.sendStored.enterState.enterWatch]

theorem firstChoose {n : LineNo} {f : ChooseFields} (h : Keeps s₀ s) : Keeps s₀ (s.firstChoose n f) := by
  unfold State.firstChoose
  dsimp only
  split
  · exact h.answered.updSess.updCtx
  · split
    · exact h.answered.updSess.updCtx.declineChoose
    · split
      exacts [h.answered.updSess.updCtx.acceptChoose, h.answered.updSess.updCtx.declineChoose]

theorem rewatch {n : LineNo} (h : Keeps s₀ s) : Keeps s₀ (s.rewatch n) := by
  unfold State.rewatch
  split
  exacts [h.updSess.startReply, h]

theorem repeatStored {n : LineNo} {f : Frame} (h : Keeps s₀ s) : Keeps s₀ (s.repeatStored n f) := h.sendFrame.rewatch

theorem takeChoose {n : LineNo} {f : ChooseFields} (h : Keeps s₀ s) : Keeps s₀ (s.takeChoose n f) := by
  unfold State.takeChoose
  split
  exacts [h.firstChoose, h.repeatStored, h.repeatStored, h]

theorem beginAttempt {n : LineNo} {m a st : Nat} (h : Keeps s₀ s) : Keeps s₀ (s.beginAttempt n m a st) :=
  h.updCtx.updSess.updCodec.startPhase.startReply

theorem declineHead {n : LineNo} (h : Keeps s₀ s) : Keeps s₀ (s.declineHead n) := h.updSess.sendStored.enterWatch

theorem newPage {n : LineNo} {m st : Nat} (h : Keeps s₀ s) : Keeps s₀ (s.newPage n m st) := by
  unfold State.newPage
  split
  · exact h.declineHead
  · split
    · exact h
    · dsimp only
      split <;> rename_i e
      exacts [(h.openPage.of_fst e).updSess.beginAttempt, (h.openPage.of_fst e).declineHead, h.openPage.of_fst e]

theorem takePageHead {n : LineNo} {m a st : Nat} (h : Keeps s₀ s) : Keeps s₀ (s.takePageHead n m a st) := by
  unfold State.takePageHead
  dsimp only
  split
  · split
    · split
      · split
        exacts [h.resetDiscard.beginAttempt, h.beginAttempt]
      · exact h.beginAttempt
    · split
      · exact h.beginAttempt
      · split
        exacts [h.newPage, h]
  · exact h

theorem settleVerdict {r : PageRef} {v : Verdict} {n bad : Nat} (h : Keeps s₀ s) :
    Keeps s₀ (s.settleVerdict r v n bad) := by
  cases v
  exacts [h.completePage, h.resetDiscard, h.completePage]

theorem judge {n : LineNo} {l b : Nat} {c : BitVec 16} (h : Keeps s₀ s) : Keeps s₀ (s.judge n l b c) := by
  unfold State.judge
  split
  · exact h
  · dsimp only
    split
    exacts [h.settleVerdict.updCodec.sendStored.enterWatch, h.settleVerdict.updSess.updCodec.sendStored.enterWatch]

theorem takePageTail {n : LineNo} {l b : Nat} {c : BitVec 16} (h : Keeps s₀ s) : Keeps s₀ (s.takePageTail n l b c) := by
  unfold State.takePageTail
  dsimp only
  split
  · exact h.judge
  · split
    · split
      exacts [h, h.repeatStored]
    · exact h
  · exact h

theorem takeEnd {n : LineNo} {p : Nat} (h : Keeps s₀ s) : Keeps s₀ (s.takeEnd n p) := by
  have ended : Keeps s₀ (((((s.answered n).sendFrame n .endAck).enterState n .closing).updSess n fun t =>
      { t with stage := .linger, endPages := some p }).startReply n) :=
    h.answered.sendFrame.enterState.updSess.startReply
  unfold State.takeEnd
  split
  exacts [ended, ended, ended, ended, h.sendFrame, h]

theorem takeFrame {n : LineNo} {f : Frame} (h : Keeps s₀ s) : Keeps s₀ (s.takeFrame n f) := by
  unfold State.takeFrame
  dsimp only
  split
  · split
    exacts [h.takeOffer, h]
  · split
    exacts [h.takeAccept, h]
  · split
    exacts [h.takeDecline, h.takeDecline, h.takeDecline, h.takeDecline, h]
  · split
    · split
      exacts [h.takePageAck, h]
    · exact h
  · split
    exacts [h.takeEndAck, h]
  exacts [h.takeChoose, h.takePageHead, h.takePageTail, h.takeEnd, h]

theorem openFrame {n : LineNo} (h : Keeps s₀ s) : Keeps s₀ (s.openFrame n) := by
  unfold State.openFrame
  split
  · dsimp only
    split
    exacts [h.endPhase.enterWatch.updLine, h.endPhase.updLine, h.updLine]
  · exact h

theorem frameArrives {n : LineNo} {f : Frame} (h : Keeps s₀ s) : Keeps s₀ (s.frameArrives n f) := by
  unfold State.frameArrives
  split
  exacts [h.takeFrame, h]

theorem deliver {n : LineNo} {f : Frame} (h : Keeps s₀ s) : Keeps s₀ (s.deliver n f) := by
  unfold State.deliver
  dsimp only
  split
  exacts [h.openFrame.updLine.frameArrives, h.updLine.frameArrives]

theorem closeFrame {n : LineNo} (h : Keeps s₀ s) : Keeps s₀ (s.closeFrame n) := by
  unfold State.closeFrame
  split
  · exact h
  · dsimp only
    split
    · exact h.updLine
    · split
      exacts [h.updLine.frameArrives, h.updLine]

theorem receiveByte {n : LineNo} {b : Byte} {marked : Bool} (h : Keeps s₀ s) : Keeps s₀ (s.receiveByte n b marked) := by
  unfold State.receiveByte
  dsimp only
  split
  · exact h.verifyChar
  · split <;> rename_i e
    exacts [(h.append.of_fst e).updSess.damageReceived.verifyChar, (h.append.of_fst e).verifyChar]

theorem takeData {n : LineNo} {b : Byte} {marked : Bool} (h : Keeps s₀ s) : Keeps s₀ (s.takeData n b marked) := by
  unfold State.takeData
  dsimp only
  split
  · split
    exacts [h.updLine, h.updLine]
  · split
    exacts [h.receiveByte, h]

theorem phaseReady {n : LineNo} (h : Keeps s₀ s) : Keeps s₀ (s.phaseReady n) := by
  unfold State.phaseReady
  split
  · dsimp only
    split
    exacts [h.updLine.stopReply.enterStage.sendProgress, h.updLine.stopReply.enterStage]
  · exact h

theorem trainingFailed {n : LineNo} (h : Keeps s₀ s) : Keeps s₀ (s.trainingFailed n) := by
  unfold State.trainingFailed
  split
  exacts [h.callerTrainFailed, h.endPhase.enterWatch]

theorem phaseFails {n : LineNo} (h : Keeps s₀ s) : Keeps s₀ (s.phaseFails n) := by
  unfold State.phaseFails
  split
  exacts [h.trainingFailed, h]

theorem trainingExpires {n : LineNo} (h : Keeps s₀ s) : Keeps s₀ (s.trainingExpires n) := h.trainingFailed.updLine

theorem loseCarrier {n : LineNo} (h : Keeps s₀ s) : Keeps s₀ (s.loseCarrier n) := by
  unfold State.loseCarrier
  split
  exacts [h.releaseCall, h]

theorem requestExpires {n : LineNo} {r : EndReason} (h : Keeps s₀ s) : Keeps s₀ (s.requestExpires n r) := by
  unfold State.requestExpires
  split
  · exact h
  · split
    exacts [h.sendFrame.updSess.startReply, h.releaseCall]

theorem watchExpires {n : LineNo} (h : Keeps s₀ s) : Keeps s₀ (s.watchExpires n) := by
  unfold State.watchExpires
  dsimp only
  split
  exacts [h.releaseCall, h.updSess.startReply]

theorem replyExpires {n : LineNo} (h : Keeps s₀ s) : Keeps s₀ (s.replyExpires n) := by
  unfold State.replyExpires
  split
  · dsimp only
    split
    exacts [h.stopReply.watchExpires, h.stopReply.watchExpires, h.stopReply.watchExpires, h.stopReply.watchExpires,
      h.stopReply.requestExpires, h.stopReply.requestExpires, h.stopReply.requestExpires, h.stopReply.requestExpires,
      h.stopReply.trainingExpires, h.stopReply.releaseCall, h.stopReply, h.stopReply]
  · exact h

end Keeps

theorem Stamp.tick_inRange (t : Stamp) (hd : t.day ≤ 6) : t.tick.day ≤ 6 ∧ t.tick.time < Config.dsPerDay := by
  unfold Stamp.tick
  split
  · exact ⟨hd, by assumption⟩
  · refine ⟨?_, (by decide : 0 < Config.dsPerDay)⟩
    dsimp only
    split <;> omega

namespace Keeps

variable {s₀ s t : State}

/-! ### The end of an event -/

theorem handle {r : Report} (h : Keeps s₀ s) : Keeps s₀ (s.handle r) := by
  cases r with
  | docFreed d send print =>
    unfold State.handle
    dsimp only
    split <;> split
    exacts [h.jobDocFreed.printDocFreed, h.printDocFreed, h.jobDocFreed, h]
  | pageFinal d i => exact h.printPageFinal
  | docClosed d n => exact h.jobDocClosed.printDocClosed
  | memoryFreed => exact h.retryScan
  | evaluate => exact h.evaluate
  | fundsChanged k => exact h.jobFundsChanged
  | arbiter => exact h.arbiterChoice
  | boundary => exact h.pageBoundary

theorem setReports {rs : List Report} (h : Keeps s₀ s) : Keeps s₀ { s with reports := rs } := h.quiet

theorem drain (k : Nat) (h : Keeps s₀ s) : Keeps s₀ (drain k s) := by
  induction k generalizing s with
  | zero => exact h
  | succ k ih =>
    unfold Machine.drain
    split
    exacts [h, ih h.setReports.handle]

/-- An update of the board link interface that leaves its reply and notice queues and the report period. -/
theorem updBli {f : Bli → Bli} (h : Keeps s₀ s) (hp : (f s.bli).period = s.bli.period := by rfl)
    (hr : (f s.bli).replies = s.bli.replies := by rfl) (hn : (f s.bli).notices = s.bli.notices := by rfl) :
    Keeps s₀ (s.updBli f) :=
  h.quiet (by simp only [State.ruled, State.updBli, hp, hr, hn])

theorem select (h : Keeps s₀ s) : Keeps s₀ s.select := by
  unfold State.select
  split
  · exact h
  · split
    · rename_i e
      exact h.trans ⟨rfl, id, id, id, fun ⟨hr, hn⟩ => ⟨by rw [e] at hr; exact Nat.le_of_succ_le hr, hn⟩⟩
    · split
      · exact h.quiet
      · split
        · exact h.quiet
        · split
          · rename_i e
            exact h.trans ⟨rfl, id, id, id, fun ⟨hr, hn⟩ => ⟨hr, by rw [e] at hn; exact Nat.le_of_succ_le hn⟩⟩
          · unfold State.selectFetch
            split
            · split
              exacts [h.quiet, h]
            · exact h

theorem finish (h : Keeps s₀ s) : Keeps s₀ s.finish := (drain drainBound h).select.setReports

/-! ### The board link -/

theorem fetchSent (h : Keeps s₀ s) : Keeps s₀ s.fetchSent := by
  unfold State.fetchSent
  split
  · split
    · have ended : Keeps s₀ { s with pmm := { s.pmm with fetch := none } } := h.quiet
      exact ended.release
    · exact h
  · exact h

theorem blockSent (h : Keeps s₀ s) : Keeps s₀ s.blockSent := by
  have cleared : Keeps s₀ (s.updBli fun b => { b with sending := none }) := h.updBli
  unfold State.blockSent
  dsimp only
  split
  exacts [cleared.quiet, cleared.fetchSent, cleared]

theorem setMask {tag m : Nat} (h : Keeps s₀ s) : Keeps s₀ (s.setMask tag m) := by
  unfold State.setMask
  split
  exacts [h.reply, h.updBli.reply]

/-- An update of the board link interface that replaces the report period by one in its range (R189). -/
theorem setPeriod {f : Bli → Bli} {p : Nat} (h : Keeps s₀ s) (hp : (f s.bli).period = clampNat p 1 255 := by rfl)
    (hr : (f s.bli).replies = s.bli.replies := by rfl) (hn : (f s.bli).notices = s.bli.notices := by rfl) :
    Keeps s₀ (s.updBli f) := by
  refine h.trans ⟨rfl, id, fun k => ?_, id, fun k => by simpa only [State.queuesBounded, State.updBli, hr, hn] using k⟩
  obtain ⟨h1, h2, h3, h4, h5, h6, h7, h8, h9, h10, h11, h12, h13, h14, -⟩ := k
  exact ⟨h1, h2, h3, h4, h5, h6, h7, h8, h9, h10, h11, h12, h13, h14, hp ▸ clampNat_bounds p (by decide)⟩

theorem setReportMode {tag : Nat} {a : ReportModeArgs} (h : Keeps s₀ s) : Keeps s₀ (s.setReportMode tag a) := by
  unfold State.setReportMode
  dsimp only
  split
  exacts [(h.setPeriod (p := a.period)).replyOk, (h.setPeriod (p := a.period)).replyOk, h.reply]

theorem queryStatus {tag : Nat} (h : Keeps s₀ s) : Keeps s₀ (s.queryStatus tag) := h.updBli.reply

theorem reportExpires (h : Keeps s₀ s) : Keeps s₀ s.reportExpires := by
  unfold State.reportExpires
  split
  exacts [h.updBli, h]

theorem ackStart {tag : Nat} (h : Keeps s₀ s) : Keeps s₀ (s.ackStart tag) := h.updBli.reply

/-! ### The commands of the line coder -/

theorem loadCodeSet {tag : Nat} {a : LoadCodeSetArgs} (h : Keeps s₀ s) : Keeps s₀ (s.loadCodeSet tag a) := by
  unfold State.loadCodeSet
  dsimp only
  split
  · exact h.reply
  · split
    · exact h.reply
    · split
      · exact h.reply
      · split
        exacts [h.reply, h.updLcd.reply]

theorem configCoder {tag : Nat} {a : CoderConfigArgs} (h : Keeps s₀ s) : Keeps s₀ (s.configCoder tag a) := by
  unfold State.configCoder
  split
  exacts [h.reply, h.updLcd.replyOk]

theorem boardDocument {d : Nat} (h : Keeps s₀ s) : Keeps s₀ (s.boardDocument d).1 := by
  unfold State.boardDocument
  split
  · have taken : Keeps s₀ { s with freeIndex := s.freeIndex + 1 } := h.quiet
    exact taken.createDoc
  · exact h.setDoc

theorem openBoardPage {tag d : Nat} {new : Bool} {w : Nat} {g : Density} (h : Keeps s₀ s) :
    Keeps s₀ (s.openBoardPage tag d new w g) := by
  unfold State.openBoardPage
  dsimp only
  split <;> rename_i e
  · exact (h.openPage.of_fst e).takeCoderPage.updLcd.reply
  · split
    exacts [(h.openPage.of_fst e).unbind.setDoc.closeDoc.reply, (h.openPage.of_fst e).unbind.reply]

theorem beginBoardPage {tag : Nat} {a : BoardPageBeginArgs} (h : Keeps s₀ s) : Keeps s₀ (s.beginBoardPage tag a) := by
  unfold State.beginBoardPage
  split
  · exact h.reply
  · split
    · exact h.reply
    · split
      · exact h.reply
      · split
        · exact h.reply
        · split
          · exact h.reply
          · split
            · exact h.reply
            · split <;> rename_i e
              exacts [(h.boardDocument.of_fst e).reply, (h.boardDocument.of_fst e).openBoardPage]

theorem takeLines (ls : List PixelLine) (h : Keeps s₀ s) : Keeps s₀ (takeLines ls s).1 := by
  induction ls generalizing s with
  | nil => exact h
  | cons l ls ih =>
    unfold Machine.takeLines
    split <;> rename_i e
    exacts [h.codeLine.of_fst e, ih (h.codeLine.of_fst e)]

theorem docLines {tag : Nat} {body : List Byte} (h : Keeps s₀ s) : Keeps s₀ (s.docLines tag body) := by
  unfold State.docLines
  dsimp only
  split
  · split
    · exact h.reply
    · split
      · exact h.reply
      · split <;> rename_i e
        · exact (h.tryHeld.of_fst e).reply
        · split <;> rename_i e'
          exacts [((takeLines _ (h.tryHeld.of_fst e)).of_fst e').reply,
            ((takeLines _ (h.tryHeld.of_fst e)).of_fst e').reply]
  · exact h.reply

theorem leaveBoardPage {d : Nat} (h : Keeps s₀ s) : Keeps s₀ (s.leaveBoardPage d) := h.unbind.updLcd

theorem completeBoardPage {tag : Nat} {j : CoderPage} {d : Nat} (h : Keeps s₀ s) :
    Keeps s₀ (s.completeBoardPage tag j d) := by
  unfold State.completeBoardPage
  split <;> rename_i e
  · exact (h.tryHeld.of_fst e).reply
  · split <;> rename_i e'
    exacts [((h.tryHeld.of_fst e).padPage.of_fst e').reply,
      ((h.tryHeld.of_fst e).padPage.of_fst e').completeCoderPage.leaveBoardPage.reply]

theorem endBoardPage {tag : Nat} {abandon : Bool} (h : Keeps s₀ s) : Keeps s₀ (s.endBoardPage tag abandon) := by
  unfold State.endBoardPage
  split
  · split
    · exact h.discardCoderPage.leaveBoardPage.reply
    · split
      exacts [h.reply, h.completeBoardPage]
  · exact h.reply

/-! ### The commands of the dispatcher, the router and the charge unit -/

theorem submitJob {tag : Nat} {a : JobSubmitArgs} (h : Keeps s₀ s) : Keeps s₀ (s.submitJob tag a) := by
  have counted (u : State) (j : Nat) : Keeps u { u with dsp := { u.dsp with
      order := u.dsp.order ++ [j], counter := wrap16 u.dsp.counter } } :=
    ⟨rfl, id, fun ⟨h1, h2, h3, h4, h5, _, k⟩ => ⟨h1, h2, h3, h4, h5, wrap16_le _, k⟩, id, id⟩
  unfold State.submitJob
  split
  · exact h.reply
  · split
    · exact h.reply
    · split
      · exact h.reply
      · split
        exacts [h.reply, (h.setJob.trans (counted _ _)).raiseSendHold.replyOk.report]

theorem cancelDest {j d : Nat} (h : Keeps s₀ s) : Keeps s₀ (s.cancelDest j d) := by
  unfold State.cancelDest
  split
  · split
    · exact h.setDest
    · split
      exacts [h.updCtx, h]
  · exact h

theorem cancelJob {tag j : Nat} (h : Keeps s₀ s) : Keeps s₀ (s.cancelJob tag j) := by
  unfold State.cancelJob
  split
  · exact h.reply
  · split
    · exact h.reply
    · split
      exacts [h.reply, (h.reply.setJob.foldl _ fun _ _ ht => ht.cancelDest).completeJob]

theorem queryJob {tag j : Nat} (h : Keeps s₀ s) : Keeps s₀ (s.queryJob tag j) := by
  unfold State.queryJob
  split
  · exact h.reply
  · split
    · exact h.reply
    · split
      exacts [h.reply, h.reply]

theorem dispatcherTick (h : Keeps s₀ s) :
    Keeps s₀ { s with dsp := { s.dsp with time := min (s.dsp.time + 1) Config.maxDispatcherTime } } :=
  h.trans ⟨rfl, id, fun ⟨h1, h2, h3, h4, h5, h6, h7, h8, _, k⟩ =>
    ⟨h1, h2, h3, h4, h5, h6, h7, h8, min_le_right _ _, k⟩, id, id⟩

theorem dueExpires {j d : Nat} (h : Keeps s₀ s) : Keeps s₀ (s.dueExpires j d) := by
  unfold State.dueExpires
  split
  · split
    exacts [h.setDest.report, h]
  · exact h

theorem loadRoutes {tag : Nat} {a : LoadRoutesArgs} (h : Keeps s₀ s) : Keeps s₀ (s.loadRoutes tag a) := by
  unfold State.loadRoutes
  split
  · exact h.reply
  · have loaded (rs : List RouteRule) : Keeps s₀ { s with rtr := { s.rtr with table := rs } } := h.quiet
    exact (loaded _).replyOk

theorem setDesk {tag : Nat} {a : DeskSetArgs} (h : Keeps s₀ s) : Keeps s₀ (s.setDesk tag a) := by
  unfold State.setDesk
  split
  · exact h.reply
  · dsimp only
    split
    · exact h.reply
    · split
      exacts [h.reply, h.updDesk.replyOk.report]

theorem creditDesk {tag : Nat} {a : DeskCreditArgs} (h : Keeps s₀ s) : Keeps s₀ (s.creditDesk tag a) := by
  unfold State.creditDesk
  dsimp only
  split
  exacts [h.reply, h.updDesk.reply.report]

theorem closePeriods {tag : Nat} {a : DeskPeriodCloseArgs} (h : Keeps s₀ s) : Keeps s₀ (s.closePeriods tag a) := by
  unfold State.closePeriods
  split
  · exact h.reply
  · have closed (ds : List Nat) (b : Option Int) : Keeps s₀ (ds.foldl (fun s d => s.updDesk d (·.closePeriod b)) s) :=
      h.foldl _ fun _ _ ht => ht.updDesk
    dsimp only
    split
    exacts [(closed _ _).replyOk, (closed _ _).replyOk.foldl _ fun _ _ ht => ht.report]

theorem loadDialPlan {tag : Nat} {a : LoadDialPlanArgs} (h : Keeps s₀ s) : Keeps s₀ (s.loadDialPlan tag a) := by
  have loaded (rs : List DialRule) : Keeps s₀ { s with chg := { s.chg with plan := rs } } := h.quiet
  unfold State.loadDialPlan
  split
  · exact h.reply
  · split
    exacts [h.reply, (loaded _).reply]

theorem loadTariffs {tag : Nat} {a : LoadTariffsArgs} (h : Keeps s₀ s) : Keeps s₀ (s.loadTariffs tag a) := by
  have loaded (v : Vector (Option Tariff) 16) : Keeps s₀ { s with chg := { s.chg with tariffs := v } } := h.quiet
  unfold State.loadTariffs
  split
  · exact h.reply
  · split
    exacts [h.reply, (loaded _).replyOk]

theorem loadBands {tag : Nat} {bs : List Nat} (h : Keeps s₀ s) : Keeps s₀ (s.loadBands tag bs) := by
  unfold State.loadBands
  split
  · exact h.reply
  · rename_i c
    obtain ⟨hl, hb⟩ : bs.length = 168 ∧ ∀ b ∈ bs, b ≤ 3 := by simpa [not_or] using c
    have loaded : Keeps s { s with chg := { s.chg with bands := bs } } :=
      ⟨rfl, id, fun ⟨h1, h2, h3, h4, h5, h6, h7, h8, h9, h10, h11, _, _, k⟩ =>
        ⟨h1, h2, h3, h4, h5, h6, h7, h8, h9, h10, h11, .inr hl, hb, k⟩, id, id⟩
    exact (h.trans loaded).reply

theorem setNow {c : Clock} (h : Keeps s₀ s)
    (hc : s.chg.clock.now.day ≤ 6 → c.now.day ≤ 6 ∧ c.now.time < Config.dsPerDay) :
    Keeps s₀ { s with chg := { s.chg with clock := c } } :=
  h.trans ⟨rfl, id, fun ⟨h1, h2, h3, h4, h5, h6, h7, h8, h9, hd, _, k⟩ =>
    ⟨h1, h2, h3, h4, h5, h6, h7, h8, h9, (hc hd).1, (hc hd).2, k⟩, id, id⟩

theorem setClock {tag : Nat} {a : SetClockArgs} (h : Keeps s₀ s) : Keeps s₀ (s.setClock tag a) := by
  unfold State.setClock
  split
  · exact h.reply
  · rename_i c
    obtain ⟨hd, ht⟩ := not_or.1 c
    exact (h.setNow fun _ => ⟨not_lt.1 hd, not_le.1 ht⟩).reply

theorem tick (h : Keeps s₀ s) : Keeps s₀ s.tick := (h.setNow (Stamp.tick_inRange s.chg.clock.now)).quiet

theorem boundaryOf {n : LineNo} (h : Keeps s₀ s) : Keeps s₀ (s.boundaryOf n) := by
  unfold State.boundaryOf
  dsimp only
  split
  · split
    · exact h
    · split
      exacts [h.charge.updCtx, h.updCtx.releaseCall]
  · exact h

/-! ### The document commands -/

theorem holdDoc {tag d : Nat} (h : Keeps s₀ s) : Keeps s₀ (s.holdDoc tag d) := by
  unfold State.holdDoc
  split
  exacts [h.reply, h.setDoc.reply]

theorem releaseDoc {tag d : Nat} (h : Keeps s₀ s) : Keeps s₀ (s.releaseDoc tag d) := by
  unfold State.releaseDoc
  split
  exacts [h.reply, h.setDoc.freeTest.reply]

theorem closeByBoard {tag d : Nat} (h : Keeps s₀ s) : Keeps s₀ (s.closeByBoard tag d) := by
  unfold State.closeByBoard
  split
  · exact h.reply
  · split
    exacts [h.closeDoc.reply, h.reply]

theorem fetchPage {tag : Nat} {a : DocFetchArgs} (h : Keeps s₀ s) : Keeps s₀ (s.fetchPage tag a) := by
  have begun (u : State) (f : Fetch) (k : Keeps s₀ u) : Keeps s₀ { u with pmm := { u.pmm with fetch := some f } } :=
    k.quiet
  unfold State.fetchPage
  split
  · exact h.reply
  · split
    · exact h.reply
    · split
      · exact h.reply
      · split
        · exact h.reply
        · split
          · exact h.reply
          · split <;> rename_i e
            exacts [(h.acquire.of_fst e).reply, (begun _ _ (h.acquire.of_fst e)).reply]

theorem queryDoc {tag d : Nat} (h : Keeps s₀ s) : Keeps s₀ (s.queryDoc tag d) := by
  unfold State.queryDoc
  split
  · exact h.reply
  · split
    exacts [h.reply, h.reply]

/-! ### The commands and events of the line channels -/

theorem configLine {tag : Nat} {a : LineConfigArgs} (h : Keeps s₀ s) : Keeps s₀ (s.configLine tag a) := by
  unfold State.configLine
  split
  · exact h.reply
  · split
    · exact h.reply
    · split
      · exact h.reply
      · dsimp only
        split
        exacts [h.updLine.replyOk.report, h.updLine.replyOk]

theorem enableLine {n : LineNo} (h : Keeps s₀ s) : Keeps s₀ (s.enableLine n) := by
  unfold State.enableLine
  dsimp only
  split
  exacts [h.updLine.enterIdle.raise, h.updLine]

theorem disableLine {n : LineNo} (h : Keeps s₀ s) : Keeps s₀ (s.disableLine n) := by
  unfold State.disableLine
  dsimp only
  split
  exacts [h.updLine.leaveService, h.updLine.leaveService, h.updLine]

theorem controlLine {tag : Nat} {a : LineControlArgs} (h : Keeps s₀ s) : Keeps s₀ (s.controlLine tag a) := by
  unfold State.controlLine
  split
  exacts [h.enableLine.reply, h.disableLine.reply, h.reply]

theorem configStation {tag : Nat} {a : StationConfigArgs} (h : Keeps s₀ s) : Keeps s₀ (s.configStation tag a) := by
  have loaded (st : Station) : Keeps s₀ { s with station := st } := h.quiet
  unfold State.configStation
  split
  exacts [h.reply, (loaded _).replyOk]

theorem meterPulse {n : LineNo} (h : Keeps s₀ s) : Keeps s₀ (s.meterPulse n) := by
  unfold State.meterPulse
  dsimp only
  split
  · split
    · split
      exacts [h.updLine.updCtx.chargeCall, h.updLine.updCtx]
    · exact h.updLine
  · exact h

theorem dialToneHeard {n : LineNo} (h : Keeps s₀ s) : Keeps s₀ (s.dialToneHeard n) := by
  unfold State.dialToneHeard
  dsimp only
  split
  · split
    exacts [h.enterDialing, h.updLine]
  · exact h.updLine.dialNext
  · exact h

theorem busyToneHeard {n : LineNo} (h : Keeps s₀ s) : Keeps s₀ (s.busyToneHeard n) := by
  unfold State.busyToneHeard
  split
  exacts [h.releaseCall, h.releaseCall, h]

theorem characterSent {n : LineNo} (h : Keeps s₀ s) : Keeps s₀ (s.characterSent n) := by
  unfold State.characterSent
  dsimp only
  split
  · exact h
  · split
    exacts [h.updLine.dialNext, h.updLine.sendProgress]

theorem paceEnds {n : LineNo} (h : Keeps s₀ s) : Keeps s₀ (s.paceEnds n) := by
  unfold State.paceEnds
  split
  exacts [h.updLine.sendProgress, h]

/-! ### The print unit's commands -/

theorem printDoc {tag : Nat} {a : PrintDocArgs} (h : Keeps s₀ s) : Keeps s₀ (s.printDoc tag a) := by
  unfold State.printDoc
  split
  · exact h.reply
  · split
    · exact h.reply
    · split
      · exact h.reply
      · dsimp only
        split <;> rename_i e
        exacts [(h.createEntry.of_fst e).reply, (h.createEntry.of_fst e).replyOk]

theorem printCancel {tag e : Nat} (h : Keeps s₀ s) : Keeps s₀ (s.printCancel tag e) := by
  unfold State.printCancel
  split
  · exact h.reply
  · split
    exacts [h.reply, h.cancelEntry.reply]

theorem configPrint {tag w : Nat} (h : Keeps s₀ s) : Keeps s₀ (s.configPrint tag w) := by
  unfold State.configPrint
  split
  · rename_i hw
    have loaded : Keeps s (s.updPrt fun p => { p with headWidth := w }) :=
      ⟨rfl, id, fun ⟨h1, h2, h3, h4, h5, h6, h7, h8, h9, h10, h11, h12, h13, _, k⟩ =>
        ⟨h1, h2, h3, h4, h5, h6, h7, h8, h9, h10, h11, h12, h13, hw, k⟩, id, id⟩
    exact (h.trans loaded).reply
  · exact h.reply

/-! ### The scan unit's commands and events -/

theorem configScan {tag : Nat} {a : ScanConfigArgs} (h : Keeps s₀ s) : Keeps s₀ (s.configScan tag a) := by
  have target := clampNat_bounds a.target (lo := 64) (hi := 250) (by decide)
  unfold State.configScan
  split
  · exact h.reply
  · split
    · exact h.reply
    · exact (h.updScn fun ⟨hg, _, _, hb⟩ => ⟨hg, target.1, target.2, hb⟩).replyOk

theorem calibrate {tag : Nat} (h : Keeps s₀ s) : Keeps s₀ (s.calibrate tag) := by
  unfold State.calibrate
  split
  · exact h.reply
  · split
    exacts [h.reply, h.reply.beginCalibration]

theorem scanDocument {a : ScanStartArgs} (h : Keeps s₀ s) : Keeps s₀ (s.scanDocument a).1 := by
  unfold State.scanDocument
  split
  exacts [h.createDoc, h.setDoc]

theorem startSession {autoCal : Bool} (h : Keeps s₀ s) : Keeps s₀ (s.startSession autoCal) := by
  unfold State.startSession
  split
  · split
    exacts [h.raise.waitPaper, h.beginCalibration]
  · exact h.waitPaper

theorem openSession {tag : Nat} {a : ScanStartArgs} {d : Nat} (h : Keeps s₀ s) : Keeps s₀ (s.openSession tag a d) :=
  h.updScn.updLcd.startSession.replyOk

theorem beginScan {tag : Nat} {a : ScanStartArgs} (h : Keeps s₀ s) : Keeps s₀ (s.beginScan tag a) := by
  unfold State.beginScan
  split <;> rename_i e
  · exact (h.scanDocument.of_fst e).reply
  · split
    · split <;> rename_i e'
      exacts [((h.scanDocument.of_fst e).createEntry.of_fst e').openSession,
        ((h.scanDocument.of_fst e).createEntry.of_fst e').unbind.closeDoc.reply]
    · exact (h.scanDocument.of_fst e).openSession

theorem startScan {tag : Nat} {a : ScanStartArgs} (h : Keeps s₀ s) : Keeps s₀ (s.startScan tag a) := by
  unfold State.startScan
  split
  exacts [h.reply, h.beginScan]

theorem stopScan {tag : Nat} (h : Keeps s₀ s) : Keeps s₀ (s.stopScan tag) := by
  unfold State.stopScan
  split
  exacts [h.reply, h.reply, h.raise.endScan.reply, h.discardScanPage.endScan.reply]

theorem jam (h : Keeps s₀ s) : Keeps s₀ s.jam := by
  unfold State.jam
  split
  · split
    exacts [h.discardScanPage.endScan, h]
  · exact h

theorem memoryWaitEnds (h : Keeps s₀ s) : Keeps s₀ s.memoryWaitEnds := by
  unfold State.memoryWaitEnds
  split
  · split
    exacts [h.discardScanPage.endScan, h]
  · exact h

end Keeps

/-! ### The laws at reset -/

theorem blank_readersWithinLimits {s : State} (h : s.pmm.pages = Vector.replicate 256 {}) : s.readersWithinLimits := by
  intro p
  simp [h]

theorem reset_inRange : State.reset.inRange := by
  refine ⟨fun g hg => ?_, by decide, by decide, fun b hb => ?_, by decide, by decide, by decide, by decide, by decide,
    by decide, by decide, .inl rfl, List.forall_mem_nil _, by decide, by decide, by decide⟩
  · rw [List.eq_of_mem_replicate hg]; decide
  · rw [List.eq_of_mem_replicate hb]; decide

theorem reset_line (n : LineNo) : State.reset.line n = {} := Vector.getElem_replicate _

theorem reset_desk (i : Fin 16) : State.reset.chg.desks[i] = {} := Vector.getElem_replicate _

theorem reset_placesReserved : State.reset.placesReserved := by
  refine ⟨by decide, by decide, fun n => ?_⟩
  rw [reset_line]
  exact ⟨nofun, nofun⟩

theorem reset_ledgersBalanced : State.reset.ledgersBalanced := by
  intro i
  rw [reset_desk]
  exact ⟨rfl, rfl⟩

theorem reset_marginsHeld : State.reset.marginsHeld := by
  refine ⟨fun i => ?_, fun n => ?_⟩
  · rw [reset_desk]
    exact ⟨⟨by decide, by decide, by decide⟩, nofun⟩
  · rw [reset_line]
    exact fun x hx => nomatch hx

/-- Settles O6: each law holds of the blank records the reset state is made of. -/
theorem lawsHoldAtReset : Obligations.LawsHoldAtReset :=
  ⟨reset_memory_wf, ⟨by decide, by decide⟩, reset_ledgersBalanced, reset_inRange, blank_readersWithinLimits rfl,
    reset_placesReserved, reset_marginsHeld⟩

namespace Keeps

variable {s₀ s t : State}

/-! ### The resets -/

theorem hardBlocks (h : Keeps s₀ s) : Keeps s₀ s.hardBlocks :=
  h.trans ⟨rfl, id, fun _ => reset_inRange, fun _ => blank_readersWithinLimits rfl, fun _ => ⟨Nat.zero_le _, Nat.zero_le _⟩⟩

theorem softRelease {n : LineNo} (h : Keeps s₀ s) : Keeps s₀ (s.softRelease n) := by
  unfold State.softRelease
  split
  exacts [h.updCtx.markClock.stopPhase.chargeRelease.completeRecord, h]

theorem softBlocks (h : Keeps s₀ s) : Keeps s₀ s.softBlocks := by
  have released : Keeps s₀ (allLines.foldl State.softRelease s) := h.foldl _ fun _ _ ht => ht.softRelease
  unfold State.softBlocks
  generalize allLines.foldl State.softRelease s = u at released
  refine released.trans ⟨rfl, id, fun k => ?_, fun _ => blank_readersWithinLimits rfl,
    fun _ => ⟨Nat.zero_le _, Nat.zero_le _⟩⟩
  obtain ⟨h1, h2, h3, h4, h5, _, _, h8, _, k⟩ := k
  exact ⟨h1, h2, h3, h4, h5, Nat.zero_le _, Nat.zero_le _, h8, Nat.zero_le _, k⟩

theorem softReset {tag : Nat} (h : Keeps s₀ s) : Keeps s₀ (s.softReset tag) := by
  refine (h.softBlocks.foldl _ fun t n ht => ?_).raise
  unfold State.softLineState
  split
  exacts [ht, ht.raise]

/-! ### Commands and events -/

theorem heed {f : State → State} (e : s.heed f = .next t) (hf : ∀ u, Keeps s u → Keeps s (f u)) : Keeps s t := by
  cases e
  split
  exacts [refl s, (hf _ (refl s).setReports).finish]

theorem command {f : State → State} (e : s.command f = .next t) (hf : ∀ u, Keeps s u → Keeps s (f u)) : Keeps s t :=
  heed e fun _ hu => hf _ (hu.updBli (f := fun b => { b with rx := {} }))

theorem commandArgs {α : Type} {tag code : Nat} {a : Args α} {f : α → State → State}
    (e : s.commandArgs tag code a f = .next t) (hf : ∀ x u, Keeps s u → Keeps s (f x u)) : Keeps s t := by
  refine command e fun u hu => ?_
  cases a
  exacts [hf _ u hu, hu.reply]

theorem pin {set f : State → State} (e : s.pin set f = .next t) (hs : ∀ u, Keeps s u → Keeps s (set u))
    (hf : ∀ u, Keeps s u → Keeps s (f u)) : Keeps s t := by
  cases e
  split
  exacts [hs s (refl s), (hf _ (hs _ (refl s).setReports)).finish]

end Keeps

/-- Every command keeps the laws: one operation for each row of the table. -/
theorem exec_keeps {c : Instr} {s t : State} (e : exec c s = .next t) : Keeps s t := by
  cases c with
  | hardReset cause =>
    have ht : (s.hardReset cause).finish = t := Host.Outcome.next.inj e
    exact ht ▸ (Keeps.refl s).hardBlocks.raise.finish
  | softReset tag a => rw [exec_softReset] at e; exact Keeps.commandArgs e fun _ _ h => h.softReset
  | badBlock tag => rw [exec_badBlock] at e; exact Keeps.command e fun _ h => h.reply
  | blockLengthDiscard type tag hi lo => rw [exec_blockLengthDiscard] at e; exact Keeps.heed e fun _ h => h.updBli
  | unknownCommand tag code => rw [exec_unknownCommand] at e; exact Keeps.command e fun _ h => h.reply
  | blockSent => rw [exec_blockSent] at e; exact Keeps.heed e fun _ h => h.blockSent
  | reportTimerExpiry => rw [exec_reportTimerExpiry] at e; exact Keeps.heed e fun _ h => h.reportExpires
  | docHold tag a => rw [exec_docHold] at e; exact Keeps.commandArgs e fun _ _ h => h.holdDoc
  | docRelease tag a => rw [exec_docRelease] at e; exact Keeps.commandArgs e fun _ _ h => h.releaseDoc
  | docClose tag a => rw [exec_docClose] at e; exact Keeps.commandArgs e fun _ _ h => h.closeByBoard
  | docFetch tag a => rw [exec_docFetch] at e; exact Keeps.commandArgs e fun _ _ h => h.fetchPage
  | docQuery tag a => rw [exec_docQuery] at e; exact Keeps.commandArgs e fun _ _ h => h.queryDoc
  | calibrate tag a => rw [exec_calibrate] at e; exact Keeps.commandArgs e fun _ _ h => h.calibrate
  | scanStart tag a => rw [exec_scanStart] at e; exact Keeps.commandArgs e fun _ _ h => h.startScan
  | scanStop tag a => rw [exec_scanStop] at e; exact Keeps.commandArgs e fun _ _ h => h.stopScan
  | scanConfig tag a => rw [exec_scanConfig] at e; exact Keeps.commandArgs e fun _ _ h => h.configScan
  | loadCodeSet tag a => rw [exec_loadCodeSet] at e; exact Keeps.commandArgs e fun _ _ h => h.loadCodeSet
  | boardPageBegin tag a => rw [exec_boardPageBegin] at e; exact Keeps.commandArgs e fun _ _ h => h.beginBoardPage
  | boardPageEnd tag a => rw [exec_boardPageEnd] at e; exact Keeps.commandArgs e fun _ _ h => h.endBoardPage
  | coderConfig tag a => rw [exec_coderConfig] at e; exact Keeps.commandArgs e fun _ _ h => h.configCoder
  | docLines tag body => rw [exec_docLines] at e; exact Keeps.command e fun _ h => h.docLines
  | lineConfig tag a => rw [exec_lineConfig] at e; exact Keeps.commandArgs e fun _ _ h => h.configLine
  | lineControl tag a => rw [exec_lineControl] at e; exact Keeps.commandArgs e fun _ _ h => h.controlLine
  | stationConfig tag a => rw [exec_stationConfig] at e; exact Keeps.commandArgs e fun _ _ h => h.configStation
  | jobSubmit tag a => rw [exec_jobSubmit] at e; exact Keeps.commandArgs e fun _ _ h => h.submitJob
  | jobCancel tag a => rw [exec_jobCancel] at e; exact Keeps.commandArgs e fun _ _ h => h.cancelJob
  | jobQuery tag a => rw [exec_jobQuery] at e; exact Keeps.commandArgs e fun _ _ h => h.queryJob
  | loadRoutes tag a => rw [exec_loadRoutes] at e; exact Keeps.commandArgs e fun _ _ h => h.loadRoutes
  | printDoc tag a => rw [exec_printDoc] at e; exact Keeps.commandArgs e fun _ _ h => h.printDoc
  | printCancel tag a => rw [exec_printCancel] at e; exact Keeps.commandArgs e fun _ _ h => h.printCancel
  | printConfig tag a => rw [exec_printConfig] at e; exact Keeps.commandArgs e fun _ _ h => h.configPrint
  | deskSet tag a => rw [exec_deskSet] at e; exact Keeps.commandArgs e fun _ _ h => h.setDesk
  | deskCredit tag a => rw [exec_deskCredit] at e; exact Keeps.commandArgs e fun _ _ h => h.creditDesk
  | deskPeriodClose tag a => rw [exec_deskPeriodClose] at e; exact Keeps.commandArgs e fun _ _ h => h.closePeriods
  | loadDialPlan tag a => rw [exec_loadDialPlan] at e; exact Keeps.commandArgs e fun _ _ h => h.loadDialPlan
  | loadTariffs tag a => rw [exec_loadTariffs] at e; exact Keeps.commandArgs e fun _ _ h => h.loadTariffs
  | loadBands tag a => rw [exec_loadBands] at e; exact Keeps.commandArgs e fun _ _ h => h.loadBands
  | setClock tag a => rw [exec_setClock] at e; exact Keeps.commandArgs e fun _ _ h => h.setClock
  | noticeMask tag a => rw [exec_noticeMask] at e; exact Keeps.commandArgs e fun _ _ h => h.setMask
  | reportMode tag a => rw [exec_reportMode] at e; exact Keeps.commandArgs e fun _ _ h => h.setReportMode
  | statusQuery tag a => rw [exec_statusQuery] at e; exact Keeps.commandArgs e fun _ _ h => h.queryStatus
  | startAck tag a => rw [exec_startAck] at e; exact Keeps.commandArgs e fun _ _ h => h.ackStart
  | clockTick => rw [exec_clockTick] at e; exact Keeps.heed e fun _ h => h.tick
  | dispatcherTimeTick => rw [exec_dispatcherTimeTick] at e; exact Keeps.heed e fun _ h => h.dispatcherTick
  | trayPaperSensorActive level =>
    rw [exec_trayPaperSensorActive] at e
    refine Keeps.pin e (fun _ h => h.updScn) fun _ h => ?_
    split
    · split
      exacts [h.feed, h]
    · exact h
  | edgeSensorActive level =>
    rw [exec_edgeSensorActive] at e
    refine Keeps.pin e (fun _ h => h.updScn) fun _ h => ?_
    split
    · split
      · split
        exacts [h.enterScanning, h.feed]
      · exact h
    · exact h
  | calLineTaken samples => rw [exec_calLineTaken] at e; exact Keeps.heed e fun _ h => h.takeCalLine
  | scanLineTaken samples => rw [exec_scanLineTaken] at e; exact Keeps.heed e fun _ h => h.takeScanLine
  | jamTimerExpiry => rw [exec_jamTimerExpiry] at e; exact Keeps.heed e fun _ h => h.jam
  | memoryWaitExpiry => rw [exec_memoryWaitExpiry] at e; exact Keeps.heed e fun _ h => h.memoryWaitEnds
  | ringInputChange n level => rw [exec_ringInputChange] at e; exact Keeps.pin e (fun _ h => h.updLine) fun _ h => h.updLine
  | ringBurstQualified n => rw [exec_ringBurstQualified] at e; exact Keeps.heed e fun _ h => by split; exacts [h.burst, h]
  | ringGapExpiry n => rw [exec_ringGapExpiry] at e; exact Keeps.heed e fun _ h => by split; exacts [h.abandonRinging, h]
  | loopCheck n current => rw [exec_loopCheck] at e; exact Keeps.heed e fun _ h => h.checkLoop
  | meterInputChange n level => rw [exec_meterInputChange] at e; exact Keeps.pin e (fun _ h => h.updLine) fun _ h => h.updLine
  | meterPulseQualified n => rw [exec_meterPulseQualified] at e; exact Keeps.heed e fun _ h => h.meterPulse
  | dialTone n => rw [exec_dialTone] at e; exact Keeps.heed e fun _ h => h.dialToneHeard
  | busyTone n => rw [exec_busyTone] at e; exact Keeps.heed e fun _ h => h.busyToneHeard
  | farAnswer n => rw [exec_farAnswer] at e; exact Keeps.heed e fun _ h => by split; exacts [h.farEndAnswers, h]
  | dialToneWaitExpiry n => rw [exec_dialToneWaitExpiry] at e; exact Keeps.heed e fun _ h => by split; exacts [h.releaseCall, h]
  | pauseExpiry n => rw [exec_pauseExpiry] at e; exact Keeps.heed e fun _ h => by split; exacts [h.updLine.dialNext, h]
  | answerWaitExpiry n => rw [exec_answerWaitExpiry] at e; exact Keeps.heed e fun _ h => by split; exacts [h.releaseCall, h]
  | pumpCharacterSent n => rw [exec_pumpCharacterSent] at e; exact Keeps.heed e fun _ h => h.characterSent
  | dataCharacterReceived n b marked => rw [exec_dataCharacterReceived] at e; exact Keeps.heed e fun _ h => h.takeData
  | dataReady n => rw [exec_dataReady] at e; exact Keeps.heed e fun _ h => h.phaseReady
  | trainFail n => rw [exec_trainFail] at e; exact Keeps.heed e fun _ h => h.phaseFails
  | carrierLost n => rw [exec_carrierLost] at e; exact Keeps.heed e fun _ h => h.loseCarrier
  | frameBegin n => rw [exec_frameBegin] at e; exact Keeps.heed e fun _ h => h.openFrame
  | offer n f => rw [exec_offer] at e; exact Keeps.heed e fun _ h => h.deliver
  | choose n f => rw [exec_choose] at e; exact Keeps.heed e fun _ h => h.deliver
  | accept n => rw [exec_accept] at e; exact Keeps.heed e fun _ h => h.deliver
  | decline n r => rw [exec_decline] at e; exact Keeps.heed e fun _ h => h.deliver
  | pageHead n m a st => rw [exec_pageHead] at e; exact Keeps.heed e fun _ h => h.deliver
  | pageTail n l b c => rw [exec_pageTail] at e; exact Keeps.heed e fun _ h => h.deliver
  | pageAck n m v b => rw [exec_pageAck] at e; exact Keeps.heed e fun _ h => h.deliver
  | endFrame n p => rw [exec_endFrame] at e; exact Keeps.heed e fun _ h => h.deliver
  | endAck n => rw [exec_endAck] at e; exact Keeps.heed e fun _ h => h.deliver
  | frameReplyExpiry n => rw [exec_frameReplyExpiry] at e; exact Keeps.heed e fun _ h => h.replyExpires
  | releaseGuardExpiry n => rw [exec_releaseGuardExpiry] at e; exact Keeps.heed e fun _ h => by split; exacts [h.guardEnds, h]
  | dueTimerExpiry j d => rw [exec_dueTimerExpiry] at e; exact Keeps.heed e fun _ h => h.dueExpires
  | stepBoundary n => rw [exec_stepBoundary] at e; exact Keeps.heed e fun _ h => h.boundaryOf
  | paperPresentChange level => rw [exec_paperPresentChange] at e; exact Keeps.pin e (fun _ h => h.updPrt) fun _ h => h.paperChange
  | engineReady level => rw [exec_engineReady] at e; exact Keeps.pin e (fun _ h => h.updPrt) fun _ h => h
  | lineTaken => rw [exec_lineTaken] at e; exact Keeps.heed e fun _ h => h.takePrintLine
  | printLineDecoded => rw [exec_printLineDecoded] at e; exact Keeps.heed e fun _ h => h.decodePrintLine
  | cutDone => rw [exec_cutDone] at e; exact Keeps.heed e fun _ h => h.cutFinished
  | resetPinAsserted => rw [exec_resetPinAsserted] at e; cases e; exact (Keeps.refl s).quiet
  | frameEnd n => rw [exec_frameEnd] at e; exact Keeps.heed e fun _ h => h.closeFrame
  | paceIntervalExpiry n => rw [exec_paceIntervalExpiry] at e; exact Keeps.heed e fun _ h => h.paceEnds

/-- A step takes one command from the queue and keeps the laws from there. -/
theorem step_keeps {s t : State} (e : step s = .next t) : Keeps { s with pending := s.pending.drop 1 } t := by
  unfold step at e
  split at e
  · rename_i hp
    cases e
    exact (Keeps.refl _).quiet (by simp [State.ruled, hp])
  · rename_i c rest hp
    simpa [hp] using exec_keeps e

/-- Settles O7: only an append writes the page memory, and it keeps the canonical form. -/
theorem stepKeepsMemoryForm : Obligations.StepKeepsMemoryForm :=
  fun _ _ h e => (step_keeps e).memory h

/-- Settles O10: every operation keeps each field's range and each page's readers within their limits. -/
theorem stepKeepsRanges : Obligations.StepKeepsRanges :=
  ⟨fun _ _ h e => (step_keeps e).ranges h, fun _ _ h e => (step_keeps e).readers h⟩

end Sys2Proof.Machine
end

section
/-!
PROOFS. The document commands (O21 to O24). `State.heeded` is the state a command of the board controller acts on; each
command then has an equation per outcome, and one lemma says what its answer leaves unchanged. A document is freed page by
page: `PagesDropped s t ps` says what dropping the pages `ps` one after another does from `s` to `t`.
-/

namespace Sys2Proof.Machine

set_option Elab.async false

/-! ## Commands that answer -/

/-- The state a command of the board controller acts on: no report is owed and the parser is in HUNT (R183). -/
def State.heeded (s : State) : State := { s with reports := [], bli := { s.bli with rx := {} } }

section Answers

variable {α : Type} {s u : State} {tag code : Nat} {x : α} {f : α → State → State} {r : ResultCode} {c : Nat} {b : ReplyBody}

theorem commandArgs_next (h : s.inReset = false) (hf : f x s.heeded = u.heeded.reply tag code r c b) :
    s.commandArgs tag code (.fields x) f = .next (u.heeded.reply tag code r c b).finish := by
  rw [← hf]
  exact commandArgs_fields s tag code x f h

theorem heeded_reply_onlyAnswered (u : State) (tag code : Nat) (r : ResultCode) (c : Nat) (b : ReplyBody) :
    OnlyAnswered u (u.heeded.reply tag code r c b).finish (u.replyNow tag code r c b) :=
  reply_onlyAnswered u.heeded tag code r c b rfl rfl

/-- A command that leaves the state `u` but for its reply is answered, and from `u` nothing else changes. -/
theorem commandArgs_onlyAnswered (h : s.inReset = false) (hf : f x s.heeded = u.heeded.reply tag code r c b) :
    ∃ t, s.commandArgs tag code (.fields x) f = .next t ∧ OnlyAnswered u t (u.replyNow tag code r c b) :=
  ⟨_, commandArgs_next h hf, heeded_reply_onlyAnswered u tag code r c b⟩

end Answers

/-! ## The document field (section 1.6) -/

theorem docRefusal_badField {s : State} {d : Nat} (h : 64 ≤ d) : s.docRefusal d = some .badField := if_pos h

theorem docRefusal_notFound {s : State} {d : Nat} (h : d < 64) (hf : (s.doc d).state = .free) :
    s.docRefusal d = some .notFound := by
  simp [State.docRefusal, State.docInUse, hf, Nat.not_le.2 h]

theorem docRefusal_none {s : State} {d : Nat} (h : d < 64) (hf : (s.doc d).state ≠ .free) : s.docRefusal d = none := by
  simp [State.docRefusal, State.docInUse, hf, Nat.not_le.2 h]

section Refused

variable {s : State} {d : Nat} {r : ResultCode} (tag : Nat)

theorem holdDoc_refused (h : s.docRefusal d = some r) : s.holdDoc tag d = s.reply tag 1 r := by
  simp [State.holdDoc, h]

theorem releaseDoc_refused (h : s.docRefusal d = some r) : s.releaseDoc tag d = s.reply tag 2 r := by
  simp [State.releaseDoc, h]

theorem closeByBoard_refused (h : s.docRefusal d = some r) : s.closeByBoard tag d = s.reply tag 3 r := by
  simp [State.closeByBoard, h]

theorem queryDoc_refused (hd : d ≠ 255) (h : s.docRefusal d = some r) : s.queryDoc tag d = s.reply tag 5 r := by
  simp [State.queryDoc, hd, h]

theorem fetchPage_badField {i : Nat} (h : 64 ≤ d) :
    s.fetchPage tag { document := d, index := i } = s.reply tag 4 .badField := if_pos (.inl h)

/-- Past the check of its fields DOC_FETCH judges the document as the other commands do. -/
theorem fetchPage_refused {i : Nat} (h1 : 1 ≤ i) (h2 : i ≤ 64) (h : s.docRefusal d = some r) :
    s.fetchPage tag { document := d, index := i } = s.reply tag 4 r := by
  unfold State.docRefusal at h
  split at h
  · cases h
    exact fetchPage_badField tag ‹_›
  · split at h
    · cases h
    · cases h
      have hi : ¬(64 ≤ d ∨ i < 1 ∨ 64 < i) := by simp only [Config.docs] at *; omega
      simp_all [State.fetchPage]

end Refused

theorem documentFieldsAreChecked_claim : Claims.DocumentFieldsAreChecked := by
  intro s tag d r h hd
  have refused : s.heeded.docRefusal d = some r := by
    rcases hd with ⟨hd, -, rfl⟩ | ⟨hd, hf, rfl⟩
    exacts [docRefusal_badField hd, docRefusal_notFound hd hf]
  have hall : d ≠ 255 := by omega
  rw [exec_docHold, exec_docRelease, exec_docClose, exec_docQuery]
  refine ⟨commandArgs_onlyAnswered h (holdDoc_refused tag refused),
    commandArgs_onlyAnswered h (releaseDoc_refused tag refused),
    commandArgs_onlyAnswered h (closeByBoard_refused tag refused),
    commandArgs_onlyAnswered h (queryDoc_refused tag hall refused), fun i h1 h2 => ?_⟩
  rw [exec_docFetch]
  exact commandArgs_onlyAnswered h (fetchPage_refused tag h1 h2 refused)

theorem allDocumentsIsNoDocument_claim : Claims.AllDocumentsIsNoDocument := by
  intro s tag i h
  have refused : s.heeded.docRefusal 255 = some .badField := docRefusal_badField (by decide)
  rw [exec_docHold, exec_docRelease, exec_docClose, exec_docFetch]
  exact ⟨commandArgs_onlyAnswered h (holdDoc_refused tag refused),
    commandArgs_onlyAnswered h (releaseDoc_refused tag refused),
    commandArgs_onlyAnswered h (closeByBoard_refused tag refused),
    commandArgs_onlyAnswered h (fetchPage_badField tag (by decide))⟩

/-- Settles O21: the five commands share `State.docRefusal`. -/
theorem documentFieldsAreChecked : Obligations.DocumentFieldsAreChecked :=
  ⟨documentFieldsAreChecked_claim, allDocumentsIsNoDocument_claim⟩

/-! ## Holds and closing (R14 to R16, R20, R21) -/

theorem freeTest_of_not_freeable {s : State} {d : Nat} (h : s.freeable d = false) : s.freeTest d = s := by
  simp [State.freeTest, h]

theorem not_freeable_of_opened {s : State} {d : Nat} (h : (s.doc d).state = .opened) : s.freeable d = false := by
  simp [State.freeable, h]

/-- A document that is not RECEIVED and that something holds is not freed (R16). -/
theorem not_freeable_of_held {s : State} {d : Nat} (ho : (s.doc d).origin ≠ .received)
    (hh : (s.doc d).boardHold = true ∨ 0 < (s.doc d).sendHold ∨ 0 < (s.doc d).printHold) : s.freeable d = false := by
  rw [Bool.eq_false_iff]
  intro hf
  obtain ⟨-, hb, hs, hp⟩ := (freeable_of_holds s d (.inl ho)).1 hf
  simp [hb, hs, hp] at hh

theorem holdDoc_inUse {s : State} {d : Nat} (tag : Nat) (h : s.docRefusal d = none) :
    s.holdDoc tag d = (s.setDoc d { s.doc d with boardHold := true }).reply tag 1 .ok := by
  simp [State.holdDoc, h]

theorem releaseDoc_inUse {s : State} {d : Nat} (tag : Nat) (h : s.docRefusal d = none) :
    s.releaseDoc tag d = ((s.setDoc d { s.doc d with boardHold := false }).freeTest d).reply tag 2 .ok := by
  simp [State.releaseDoc, h]

theorem closeByBoard_unfilled {s : State} {d : Nat} (tag : Nat) (h : s.docRefusal d = none)
    (ho : (s.doc d).state = .opened) (hf : (s.doc d).filler = .none) :
    s.closeByBoard tag d = (s.closeDoc d).reply tag 3 .ok := by
  simp [State.closeByBoard, h, ho, hf]

theorem closeByBoard_state {s : State} {d : Nat} (tag : Nat) (h : s.docRefusal d = none)
    (hf : (s.doc d).state = .closed ∨ (s.doc d).filler ≠ .none) : s.closeByBoard tag d = s.reply tag 3 .state := by
  rcases hf with hf | hf <;> simp [State.closeByBoard, h, hf]

/-- A close that frees the document (R15, R16). -/
theorem closeDoc_freed {s : State} {d : Nat} (ho : (s.doc d).state = .opened)
    (hf : (s.setDoc d { s.doc d with state := .closed }).freeable d = true) :
    s.closeDoc d = (s.setDoc d { s.doc d with state := .closed }).freeDoc d := by
  unfold State.closeDoc
  rw [if_pos (beq_iff_eq.2 ho), if_pos hf]

/-- A close that leaves the document in place without a send or a print hold is reported to nobody (R15). -/
theorem closeDoc_unreported {s : State} {d : Nat} (ho : (s.doc d).state = .opened)
    (hf : (s.setDoc d { s.doc d with state := .closed }).freeable d = false) (hs : (s.doc d).sendHold = 0)
    (hp : (s.doc d).printHold = 0) : s.closeDoc d = s.setDoc d { s.doc d with state := .closed } := by
  unfold State.closeDoc
  rw [if_pos (beq_iff_eq.2 ho), if_neg (Bool.eq_false_iff.1 hf), if_neg (by omega)]

theorem boardHoldIsSetAndCleared : Claims.BoardHoldIsSetAndCleared := by
  intro s tag d h hd hu
  have accepted : s.heeded.docRefusal d = none := docRefusal_none hd hu
  refine ⟨?_, fun hk => ?_⟩
  · rw [exec_docHold]
    exact commandArgs_onlyAnswered (u := s.setDoc d { s.doc d with boardHold := true }) h (holdDoc_inUse tag accepted)
  · have stays : (s.heeded.setDoc d { s.doc d with boardHold := false }).freeable d = false := by
      rcases hk with ho | ⟨ho, hh⟩
      · apply not_freeable_of_opened
        rwa [doc_setDoc_self _ d _ hd]
      · apply not_freeable_of_held <;> rw [doc_setDoc_self _ d _ hd]
        exacts [ho, .inr hh]
    rw [exec_docRelease]
    refine commandArgs_onlyAnswered (u := s.setDoc d { s.doc d with boardHold := false }) h ?_
    exact (releaseDoc_inUse tag accepted).trans (congrArg (·.reply tag 2 .ok) (freeTest_of_not_freeable stays))

theorem docCloseClosesOrRefuses : Claims.DocCloseClosesOrRefuses := by
  intro s tag d h hd hu
  have accepted : s.heeded.docRefusal d = none := docRefusal_none hd hu
  rw [exec_docClose]
  refine ⟨fun ho hf hr hb hs hp => ?_, fun hk => commandArgs_onlyAnswered h (closeByBoard_state tag accepted hk)⟩
  have stays : (s.heeded.setDoc d { s.doc d with state := .closed }).freeable d = false := by
    apply not_freeable_of_held <;> rw [doc_setDoc_self _ d _ hd]
    exacts [hr, .inl hb]
  refine commandArgs_onlyAnswered (u := s.setDoc d { s.doc d with state := .closed }) h ?_
  exact (closeByBoard_unfilled tag accepted ho hf).trans
    (congrArg (·.reply tag 3 .ok) (closeDoc_unreported (s := s.heeded) ho stays hs hp))

/-- Settles O22: DOC_HOLD, DOC_RELEASE and DOC_CLOSE on a document that the free test leaves in place. -/
theorem boardHoldsAndCloses : Obligations.BoardHoldsAndCloses :=
  ⟨boardHoldIsSetAndCleared, docCloseClosesOrRefuses⟩

/-! ## DOC_FETCH (R22) -/

theorem page_of_out {s : State} {p : Nat} (h : ¬p < 256) : s.page p = {} := dif_neg h

theorem acquire_fetch {s : State} {p : Nat} (hr : (s.page p).state.readable = true)
    (hd : (s.page p).document.isSome = true) (hf : (s.page p).fetches = 0) :
    s.acquire .fetch p = (s.setPage p { s.page p with fetches := 1 }, some { page := p, gen := s.pmm.generation }) := by
  simp [State.acquire, hr, hd, PageRec.readersOf, ReaderKind.limit, PageRec.setReaders, hf]

/-- The replies go before every other source but the block being sent (R187): with one queued the page memory manager
hands over nothing. -/
theorem select_pmm {s : State} (h : s.bli.replies ≠ []) : s.select.pmm = s.pmm := by
  unfold State.select
  split
  · rfl
  · split
    · rfl
    · contradiction

theorem reply_replies_ne_nil (s : State) (tag code : Nat) (r : ResultCode) (c : Nat) (b : ReplyBody) :
    (s.reply tag code r c b).bli.replies ≠ [] := by
  by_cases hl : s.bli.replies.length < 8
  · rw [reply_room s tag code r c b hl]
    exact List.append_ne_nil_of_right_ne_nil _ (List.cons_ne_nil _ _)
  · rw [reply_full s tag code r c b hl]
    intro (hn : s.bli.replies = [])
    simp [hn] at hl

theorem reply_finish_pmm {s : State} {tag code : Nat} {r : ResultCode} {c : Nat} {b : ReplyBody} (h : s.reports = []) :
    (s.reply tag code r c b).finish.pmm = s.pmm := by
  rw [finish_of_quiet _ (by simp [h])]
  exact (select_pmm (reply_replies_ne_nil s tag code r c b)).trans (reply_pmm s tag code r c b)

/-- The fetch of page `p` that a DOC_FETCH with its tag begins (R22). -/
def State.newFetch (s : State) (tag p : Nat) : Fetch :=
  { tag := tag, page := { page := p, gen := s.pmm.generation },
    blocks := max 1 (((s.page p).byteCount + 4095) / 4096), next := 0 }

/-- The state once page `p` has its fetch reader and its fetch runs (R22). -/
def State.fetching (s : State) (tag p : Nat) : State :=
  let u := s.setPage p { s.page p with fetches := 1 }
  { u with pmm := { u.pmm with fetch := some (s.newFetch tag p) } }

section Fetch

variable {s : State} {d i p : Nat} (tag : Nat) (hd : d < 64) (hu : (s.doc d).state ≠ .free) (h1 : 1 ≤ i) (h2 : i ≤ 64)
  (hp : (s.doc d).pages[i - 1]? = some p) (hr : (s.page p).state.readable = true)
include hd hu h1 h2 hp hr

theorem fetchPage_busy (hf : s.pmm.fetch ≠ none) :
    s.fetchPage tag { document := d, index := i } = s.reply tag 4 .busy := by
  have docs : ¬Config.docs ≤ d := not_le.2 hd
  have low : ¬i = 0 := by omega
  have high : ¬64 < i := not_lt.2 h2
  simp [State.fetchPage, State.docInUse, State.docPage, docs, low, high, hu, hp, hr, Option.isSome_iff_ne_none.2 hf]

theorem fetchPage_begins (hf : s.pmm.fetch = none) (hdoc : (s.page p).document.isSome = true)
    (hn : (s.page p).fetches = 0) (h256 : p < 256) :
    s.fetchPage tag { document := d, index := i } = (s.fetching tag p).reply tag 4 .ok 0
      (.fetch (s.page p).byteCount (s.page p).lineCount (s.page p).state (s.page p).check) := by
  have docs : ¬Config.docs ≤ d := not_le.2 hd
  have low : ¬i = 0 := by omega
  have high : ¬64 < i := not_lt.2 h2
  simp [State.fetchPage, State.docInUse, State.docPage, docs, low, high, hu, hp, hr, hf, acquire_fetch hr hdoc hn, h256,
    State.fetching, State.newFetch, fetchBlocks, ceilDiv]

end Fetch

/-- Settles O24: the fetch reader is acquired, and the reply queued keeps the selector from the fetch's blocks. -/
theorem docFetchStartsOneFetch : Obligations.DocFetchStartsOneFetch := by
  intro s tag d i p h hd hu h1 h2 hp hs
  have hr : (s.page p).state.readable = true := by rcases hs with hs | hs <;> simp [hs, PageState.readable]
  have h256 : p < 256 := by
    by_contra hout
    simp [page_of_out hout, PageState.readable] at hr
  rw [exec_docFetch]
  refine ⟨fun hf hdoc hn => ?_, fun hf =>
    commandArgs_onlyAnswered h (fetchPage_busy (s := s.heeded) tag hd hu h1 h2 hp hr hf)⟩
  have begun : s.heeded.fetchPage tag { document := d, index := i } = (s.fetching tag p).heeded.reply tag 4 .ok 0
      (.fetch (s.page p).byteCount (s.page p).lineCount (s.page p).state (s.page p).check) :=
    fetchPage_begins (s := s.heeded) tag hd hu h1 h2 hp hr hf hdoc hn h256
  refine ⟨_, commandArgs_next (u := s.fetching tag p) h begun, ?_, ?_, fun q hq => ?_, fun e => ?_,
    (heeded_reply_onlyAnswered (s.fetching tag p) tag 4 .ok 0 _).1⟩
  · rw [reply_finish_pmm rfl]; rfl
  · rw [State.page, reply_finish_pmm rfl]; exact page_setPage_self s p _ h256
  · rw [State.page, reply_finish_pmm rfl]; exact page_setPage_ne s p q _ hq.symm
  · rw [State.doc, reply_finish_pmm rfl]; rfl

theorem tset_tset {α : Type} {n : Nat} (v : Vector α n) (i : Nat) (x y : α) : tset (tset v i x) i y = tset v i y := by
  unfold tset
  split
  · exact Vector.set_set ..
  · rfl

/-! ## Freeing a document (R4, R11, R16 to R19) -/

/-- Whether MEMORY_LOW is armed once the segments `c` have joined the tail of the free list (R4, R19). -/
def Pmm.armedBy (m : Pmm) (c : List Nat) : Bool :=
  m.memLowArmed || (c != [] && decide (192 ≤ (m.freeList ++ c).length))

/-- The page memory manager once a page of slot `k` and chain `c` has become FREE (R4, R11, R17, R19). -/
def Pmm.pageFreed (m : Pmm) (p k : Nat) (c : List Nat) : Pmm :=
  { m with
    pages := tset m.pages p {}, freeList := m.freeList ++ c, memLowArmed := m.armedBy c
    slotUse := tset m.slotUse k (tget m.slotUse k 0 - 1) }

/-- From `s` to `t` the page memory manager may change and reports of freed memory may join those owed, nothing else. -/
structure OnlyFrees (s t : State) : Prop where
  frame : t = { s with pmm := t.pmm, reports := t.reports }
  reports : ∀ r ∈ t.reports, r ∈ s.reports ∨ r = .memoryFreed

theorem freeChain_of_empty {s : State} {p : Nat} (h : s.chain p = []) : s.freeChain p = s := by
  unfold State.freeChain
  split
  · rfl
  · contradiction

theorem freeChain_of_nonempty {s : State} {p : Nat} (h : s.chain p ≠ []) :
    s.freeChain p = ({ s with pmm := { s.pmm with
      freeList := s.pmm.freeList ++ s.chain p, memLowArmed := s.pmm.armedBy (s.chain p) } }.setPage p
        { s.page p with first := none, last := none }).report .memoryFreed := by
  have hne : (s.chain p != []) = true := bne_iff_ne.2 h
  unfold State.freeChain
  split
  · contradiction
  · simp only [Pmm.armedBy, hne, Bool.true_and]
    rfl

theorem freeChain_onlyFrees (s : State) (p : Nat) : OnlyFrees s (s.freeChain p) := by
  by_cases h : s.chain p = []
  · rw [freeChain_of_empty h]
    exact ⟨rfl, fun r => .inl⟩
  · rw [freeChain_of_nonempty h]
    exact ⟨rfl, fun r hr => by simpa [State.report] using hr⟩

theorem freePage_onlyFrees (s : State) (p : Nat) : OnlyFrees s (s.freePage p) := by
  have h := freeChain_onlyFrees s p
  refine ⟨?_, fun r hr => ?_⟩
  · conv_lhs => rw [State.freePage, h.frame]
    rfl
  · rcases List.mem_append.1 hr with hr | hr
    exacts [h.reports r hr, .inr (List.mem_singleton.1 hr)]

theorem freeRecord_pmm (s : State) (p : Nat) : (s.freeRecord p).pmm = { s.pmm with
    pages := tset s.pmm.pages p {}
    slotUse := tset s.pmm.slotUse (s.page p).slot (tget s.pmm.slotUse (s.page p).slot 0 - 1) } := rfl

theorem freeChain_slot (s : State) (p : Nat) : ((s.freeChain p).page p).slot = (s.page p).slot := by
  by_cases h : s.chain p = []
  · rw [freeChain_of_empty h]
  · rw [freeChain_of_nonempty h]
    by_cases hp : p < 256
    · exact (congrArg PageRec.slot (page_setPage_self _ p _ hp)).trans rfl
    · rw [page_of_out hp, page_of_out hp]

theorem freePage_pmm (s : State) (p : Nat) :
    (s.freePage p).pmm = s.pmm.pageFreed p (s.page p).slot (s.chain p) := by
  rw [State.freePage, freeRecord_pmm, freeChain_slot]
  by_cases h : s.chain p = []
  · rw [freeChain_of_empty h, h]
    simp [Pmm.pageFreed, Pmm.armedBy]
  · rw [freeChain_of_nonempty h]
    simp [Pmm.pageFreed, State.setPage, State.report, tset_tset]

theorem OnlyFrees.refl (s : State) : OnlyFrees s s := ⟨rfl, fun _ => .inl⟩

theorem OnlyFrees.trans {s u t : State} (h : OnlyFrees s u) (k : OnlyFrees u t) : OnlyFrees s t where
  frame := by rw [k.frame, h.frame]
  reports r hr := (k.reports r hr).elim (h.reports r) .inr

theorem armedBy_iff (m : Pmm) (c : List Nat) :
    m.armedBy c = true ↔ m.memLowArmed = true ∨ 0 < c.length ∧ 192 ≤ m.freeList.length + c.length := by
  simp [Pmm.armedBy, List.length_pos_iff]

/-- Freeing one chain after another arms MEMORY_LOW as freeing both at once does (R19). -/
theorem armedBy_append {m n : Pmm} {c e : List Nat} (hf : n.freeList = m.freeList ++ c)
    (ha : n.memLowArmed = m.armedBy c) : n.armedBy e = m.armedBy (c ++ e) := by
  rw [Bool.eq_iff_iff, armedBy_iff, armedBy_iff, ha, armedBy_iff, hf, List.length_append, List.length_append, or_assoc]
  exact or_congr_right (by omega)

/-- The pages of a list that no reader keeps from becoming FREE (R16). -/
def State.unread (s : State) (ps : List Nat) : List Nat := ps.filter fun p => (s.page p).readers = 0

/-- From `s` to `t` the pages `ps` have been dropped by their document (R16): their chains have joined the free list in
turn (R4), each has lowered its slot's user count (R17), and MEMORY_LOW is armed by the free count they leave (R19). -/
structure PagesDropped (s t : State) (ps : List Nat) : Prop where
  only : OnlyFrees s t
  pmm : t.pmm = { s.pmm with
    pages := t.pmm.pages, slotUse := t.pmm.slotUse
    freeList := s.pmm.freeList ++ (s.unread ps).flatMap s.chain
    memLowArmed := s.pmm.armedBy ((s.unread ps).flatMap s.chain) }
  slots : ∀ k, tget t.pmm.slotUse k 0 = tget s.pmm.slotUse k 0 - (s.unread ps).countP fun p => (s.page p).slot = k
  free : ∀ p ∈ ps, (s.page p).readers = 0 → t.page p = {}
  kept : ∀ p ∈ ps, (s.page p).readers ≠ 0 → t.page p = { s.page p with document := none }
  other : ∀ p ∉ ps, t.page p = s.page p

theorem tget_lower {n : Nat} (v : Vector Nat n) (j k : Nat) :
    tget (tset v j (tget v j 0 - 1)) k 0 = tget v k 0 - if j = k then 1 else 0 := by
  by_cases h : j = k
  · subst h
    by_cases hj : j < n
    · simp [hj]
    · simp [tget, hj]
  · simp [h]

theorem dropPage_unread {s : State} {p : Nat} (h : (s.page p).readers = 0) : PagesDropped s (s.dropPage p) [p] := by
  have hd : s.dropPage p = s.freePage p := if_pos h
  have hu : s.unread [p] = [p] := by simp [State.unread, h]
  have page_eq (q : Nat) : (s.freePage p).page q = tget (tset s.pmm.pages p {}) q {} := by
    rw [State.page, freePage_pmm]; rfl
  rw [hd]
  refine ⟨freePage_onlyFrees s p, ?_, fun k => ?_, fun q hq _ => ?_, fun q hq hr => ?_, fun q hq => ?_⟩
  · rw [hu, freePage_pmm]
    simp [Pmm.pageFreed]
  · rw [hu, freePage_pmm]
    simpa [Pmm.pageFreed, List.countP_cons] using tget_lower s.pmm.slotUse (s.page p).slot k
  · obtain rfl := List.mem_singleton.1 hq
    by_cases hp : q < 256
    · exact (page_eq q).trans (tget_tset_self _ _ _ _ hp)
    · exact page_of_out hp
  · obtain rfl := List.mem_singleton.1 hq
    exact absurd h hr
  · exact (page_eq q).trans (tget_tset_ne _ _ _ _ _ fun e => hq (by simp [e]))

theorem dropPage_read {s : State} {p : Nat} (h : (s.page p).readers ≠ 0) : PagesDropped s (s.dropPage p) [p] := by
  have hd : s.dropPage p = s.setPage p { s.page p with document := none } := if_neg h
  have hu : s.unread [p] = [] := by simp [State.unread, h]
  have hp : p < 256 := by
    by_contra hout
    exact h (by rw [page_of_out hout]; rfl)
  rw [hd]
  refine ⟨⟨rfl, fun _ => .inl⟩, ?_, fun k => ?_, fun q hq hr => ?_, fun q hq _ => ?_, fun q hq => ?_⟩
  · rw [hu]
    simp [Pmm.armedBy, State.setPage]
  · rw [hu]; rfl
  · obtain rfl := List.mem_singleton.1 hq
    exact absurd hr h
  · obtain rfl := List.mem_singleton.1 hq
    exact page_setPage_self s q _ hp
  · exact page_setPage_ne s p q _ fun e => hq (by simp [e])

namespace PagesDropped

theorem refl (s : State) : PagesDropped s s [] where
  only := .refl s
  pmm := by simp [State.unread, Pmm.armedBy]
  slots _ := rfl
  free _ h := absurd h List.not_mem_nil
  kept _ h := absurd h List.not_mem_nil
  other _ _ := rfl

/-- One page dropped before the others, which are read as they were. -/
theorem cons {s u t : State} {p : Nat} {ps : List Nat} (h : PagesDropped s u [p]) (k : PagesDropped u t ps)
    (hp : p ∉ ps) : PagesDropped s t (p :: ps) := by
  have same {q : Nat} (hq : q ∈ ps) : u.page q = s.page q := h.other q fun e => hp (List.mem_singleton.1 e ▸ hq)
  have unread_eq : u.unread ps = s.unread ps := List.filter_congr fun q hq => by rw [same hq]
  have of_unread {q : Nat} (hq : q ∈ s.unread ps) : q ∈ ps := (List.mem_filter.1 hq).1
  have links : u.pmm.links = s.pmm.links := by rw [h.pmm]
  have chains_eq : (u.unread ps).flatMap u.chain = (s.unread ps).flatMap s.chain := by
    rw [unread_eq]
    refine List.flatMap_congr fun q hq => ?_
    rw [State.chain, State.chain, same (of_unread hq), links]
  have split_unread : s.unread (p :: ps) = s.unread [p] ++ s.unread ps := List.filter_append (l₁ := [p]) ..
  have free_eq : u.pmm.freeList = s.pmm.freeList ++ (s.unread [p]).flatMap s.chain := by rw [h.pmm]
  have armed_eq : u.pmm.memLowArmed = s.pmm.armedBy ((s.unread [p]).flatMap s.chain) := by rw [h.pmm]
  refine ⟨h.only.trans k.only, ?_, fun j => ?_, fun q hq hr => ?_, fun q hq hr => ?_, fun q hq => ?_⟩
  · rw [split_unread, List.flatMap_append, ← armedBy_append free_eq armed_eq, ← List.append_assoc, ← free_eq, ← chains_eq]
    refine k.pmm.trans ?_
    rw [h.pmm]
  · rw [k.slots, h.slots, split_unread, List.countP_append, unread_eq, Nat.sub_sub]
    congr 2
    exact List.countP_congr fun q hq => by rw [same (of_unread hq)]
  · rcases List.mem_cons.1 hq with rfl | hq
    · rw [k.other q hp, h.free q (List.mem_singleton_self q) hr]
    · exact k.free q hq (same hq ▸ hr)
  · rcases List.mem_cons.1 hq with rfl | hq
    · rw [k.other q hp, h.kept q (List.mem_singleton_self q) hr]
    · rw [k.kept q hq (same hq ▸ hr), same hq]
  · rw [List.mem_cons, not_or] at hq
    rw [k.other q hq.2, h.other q (by simpa using hq.1)]

end PagesDropped

theorem foldl_dropPage (s : State) (ps : List Nat) (h : ps.Nodup) : PagesDropped s (ps.foldl State.dropPage s) ps := by
  induction ps generalizing s with
  | nil => exact .refl s
  | cons p ps ih =>
    obtain ⟨hp, hps⟩ := List.nodup_cons.1 h
    have first : PagesDropped s (s.dropPage p) [p] :=
      if hr : (s.page p).readers = 0 then dropPage_unread hr else dropPage_read hr
    exact first.cons (ih _ hps) hp

/-! ## Reports of freed memory (R18) -/

/-- With no scan request pending, reports of freed memory ask nothing of anybody (R18). -/
theorem drain_memoryFreed (k : Nat) {s : State} (hp : s.pmm.pendingScan = none) (hr : ∀ r ∈ s.reports, r = .memoryFreed) :
    drain k s = { s with reports := s.reports.drop k } := by
  induction k generalizing s with
  | zero => rfl
  | succ k ih =>
    match e : s.reports with
    | [] => rw [drain_of_quiet _ s e, List.drop_nil, ← e]
    | r :: rs =>
      rw [e, List.forall_mem_cons] at hr
      obtain ⟨rfl, hr⟩ := hr
      have idle : { s with reports := rs }.handle .memoryFreed = { s with reports := rs } := by
        simp [State.handle, State.retryScan, hp]
      rw [drain, e]
      dsimp only
      rw [idle]
      exact ih hp hr

theorem select_setReports (s : State) (rs : List Report) :
    { s with reports := rs }.select = { s.select with reports := rs } := by
  unfold State.select
  dsimp only
  split
  · rfl
  · split
    · rfl
    · split
      · rfl
      · split
        · rfl
        · split
          · rfl
          · unfold State.selectFetch
            dsimp only
            split
            · split <;> rfl
            · rfl

theorem finish_memoryFreed {s : State} (hp : s.pmm.pendingScan = none) (hr : ∀ r ∈ s.reports, r = .memoryFreed) :
    s.finish = { s with reports := [] }.finish := by
  have clears (rs : List Report) : { { s with reports := rs }.select with reports := [] } = { s.select with reports := [] } :=
    congrArg (fun u : State => { u with reports := [] }) (select_setReports s rs)
  rw [State.finish, drain_memoryFreed _ hp hr, finish_of_quiet { s with reports := [] } rfl]
  exact (clears _).trans (clears []).symm

theorem reply_setReports (s : State) (rs : List Report) (tag code : Nat) (r : ResultCode) (c : Nat) (b : ReplyBody) :
    { s.reply tag code r c b with reports := rs } = { s with reports := rs }.reply tag code r c b := by
  unfold State.reply
  dsimp only
  split <;> rfl

/-- The end of a command that has freed memory while no scan request was pending, and whose link stood as the command
found it: the reply is owed and nothing else changes. -/
theorem reply_finish_memoryFreed {s v : State} {tag code : Nat} {r : ResultCode} {c : Nat} {b : ReplyBody}
    (hb : v.bli = s.heeded.bli) (hp : v.pmm.pendingScan = none) (hr : ∀ r ∈ v.reports, r = .memoryFreed) :
    Answered s (v.reply tag code r c b).finish (s.replyNow tag code r c b) ∧
      (v.reply tag code r c b).finish.pmm = v.pmm ∧ SameButLink v (v.reply tag code r c b).finish := by
  have ended : (v.reply tag code r c b).finish = ({ v with reports := [] }.reply tag code r c b).finish := by
    rw [finish_memoryFreed (by rw [reply_pmm, hp]) (by rwa [reply_reports]), reply_setReports]
  obtain ⟨answered, -, -, same⟩ := reply_onlyAnswered { v with reports := [] } tag code r c b rfl (by rw [hb]; rfl)
  rw [ended]
  refine ⟨?_, reply_finish_pmm rfl, same⟩
  simp only [Answered, State.repliesOwed, State.replyNow, hb] at answered ⊢
  exact answered

theorem freeDoc_unheld {s : State} {d : Nat} (hs : (s.doc d).sendHold = 0) (hp : (s.doc d).printHold = 0) :
    s.freeDoc d = ((s.doc d).pages.foldl State.dropPage s).setDoc d {} := by
  simp [State.freeDoc, hs, hp]

theorem freeable_of_unheld {s : State} {d : Nat} (hc : (s.doc d).state = .closed) (hb : (s.doc d).boardHold = false)
    (hs : (s.doc d).sendHold = 0) (hp : (s.doc d).printHold = 0) : s.freeable d = true := by
  simp [State.freeable, hc, hb, hs, hp]

theorem freeTest_of_freeable {s : State} {d : Nat} (h : s.freeable d = true) : s.freeTest d = s.freeDoc d := if_pos h

/-- A close by the board controller that frees the document (R21). -/
theorem exec_docClose_frees {s : State} {tag d : Nat} (h : s.inReset = false) (hd : d < 64)
    (ho : (s.doc d).state = .opened) (hf : (s.doc d).filler = .none) (hb : (s.doc d).boardHold = false)
    (hs : (s.doc d).sendHold = 0) (hp : (s.doc d).printHold = 0) :
    exec (.docClose tag (.fields d)) s =
      .next (((s.heeded.setDoc d { s.doc d with state := .closed }).freeDoc d).reply tag 3 .ok).finish := by
  have accepted : s.heeded.docRefusal d = none := docRefusal_none hd (by rw [State.doc] at ho; simp [State.heeded, State.doc, ho])
  have frees : (s.heeded.setDoc d { s.heeded.doc d with state := .closed }).freeable d = true := by
    apply freeable_of_unheld <;> rw [doc_setDoc_self _ d _ hd]
    exacts [hb, hs, hp]
  rw [exec_docClose]
  refine (commandArgs_fields s tag 3 d _ h).trans (congrArg (fun u : State => Host.Outcome.next u.finish) ?_)
  exact (closeByBoard_unfilled tag accepted ho hf).trans (congrArg (·.reply tag 3 .ok) (closeDoc_freed (s := s.heeded) ho frees))

/-- A release of the board hold that frees the document (R20). -/
theorem exec_docRelease_frees {s : State} {tag d : Nat} (h : s.inReset = false) (hd : d < 64)
    (hc : (s.doc d).state = .closed) (hs : (s.doc d).sendHold = 0) (hp : (s.doc d).printHold = 0) :
    exec (.docRelease tag (.fields d)) s =
      .next (((s.heeded.setDoc d { s.doc d with boardHold := false }).freeDoc d).reply tag 2 .ok).finish := by
  have accepted : s.heeded.docRefusal d = none := docRefusal_none hd (by rw [State.doc] at hc; simp [State.heeded, State.doc, hc])
  have frees : (s.heeded.setDoc d { s.heeded.doc d with boardHold := false }).freeable d = true := by
    apply freeable_of_unheld <;> rw [doc_setDoc_self _ d _ hd]
    exacts [hc, hs, hp]
  rw [exec_docRelease]
  refine (commandArgs_fields s tag 2 d _ h).trans (congrArg (fun u : State => Host.Outcome.next u.finish) ?_)
  exact (releaseDoc_inUse tag accepted).trans (congrArg (·.reply tag 2 .ok) (freeTest_of_freeable frees))

/-- Settles O23: the document's pages are dropped one after another, and what each frees adds up. -/
theorem unheldDocumentIsFreed : Obligations.UnheldDocumentIsFreed := by
  intro s tag d c code h hd hscan hs hp hnodup hc
  obtain ⟨r, hpages, hsend, hprint, hexec⟩ : ∃ r : DocRec, r.pages = (s.doc d).pages ∧ r.sendHold = 0 ∧ r.printHold = 0 ∧
      exec c s = .next (((s.heeded.setDoc d r).freeDoc d).reply tag code .ok).finish := by
    rcases hc with ⟨rfl, rfl, ho, hf, hb⟩ | ⟨rfl, rfl, hc⟩
    · exact ⟨{ s.doc d with state := .closed }, rfl, hs, hp, exec_docClose_frees h hd ho hf hb hs hp⟩
    · exact ⟨{ s.doc d with boardHold := false }, rfl, hs, hp, exec_docRelease_frees h hd hc hs hp⟩
  have doc_eq := doc_setDoc_self s.heeded d r hd
  have dropped := foldl_dropPage (s.heeded.setDoc d r) (s.doc d).pages hnodup
  have freed : (s.heeded.setDoc d r).freeDoc d =
      ((s.doc d).pages.foldl State.dropPage (s.heeded.setDoc d r)).setDoc d {} := by
    rw [freeDoc_unheld (by rw [doc_eq, hsend]) (by rw [doc_eq, hprint]), doc_eq, hpages]
  generalize (s.doc d).pages.foldl State.dropPage (s.heeded.setDoc d r) = w at dropped freed
  have pmm_eq := dropped.pmm
  have frame := dropped.only.frame
  rw [freed] at hexec
  obtain ⟨answered, pmm, same, -⟩ := reply_finish_memoryFreed (s := s) (v := w.setDoc d {}) (tag := tag) (code := code)
    (r := .ok) (c := 0) (b := .none) (by rw [setDoc_bli, frame]; rfl)
    (by rw [State.setDoc, pmm_eq]; exact hscan)
    (fun r hr => (dropped.only.reports r hr).resolve_left List.not_mem_nil)
  refine ⟨_, hexec, answered, ?_, fun e he => ?_, fun p hp hr => ?_, fun p hp hr => ?_, fun p hp => ?_, ?_, ?_, ?_, ?_, ?_, ?_⟩
  · rw [State.doc, pmm]; exact doc_setDoc_self w d {} hd
  · rw [State.doc, pmm]
    refine (doc_setDoc_ne w d e {} he.symm).trans ?_
    rw [State.doc, pmm_eq]
    exact doc_setDoc_ne s.heeded d e r he.symm
  · rw [State.page, pmm]; exact dropped.free p hp hr
  · rw [State.page, pmm]; exact dropped.kept p hp hr
  · rw [State.page, pmm]; exact dropped.other p hp
  · exact ⟨by rw [pmm, State.setDoc, pmm_eq]; rfl, fun k => by rw [pmm]; exact dropped.slots k,
      by rw [pmm, State.setDoc, pmm_eq]; rfl⟩
  · rw [pmm, State.setDoc, pmm_eq]; rfl
  · exact (congrArg State.lines same).trans (show w.lines = s.lines by rw [frame]; rfl)
  · exact (congrArg State.chg same).trans (show w.chg = s.chg by rw [frame]; rfl)
  · exact (congrArg State.prt same).trans (show w.prt = s.prt by rw [frame]; rfl)
  · exact (congrArg State.dsp same).trans (show w.dsp = s.dsp by rw [frame]; rfl)

end Sys2Proof.Machine
end

section
/-!
PROOFS. The scan unit's configuration, correction, calibration and feeding (O27, O28, O30, O32). Each operation has an
equation per outcome; what an event that owes no report leaves unchanged is said once, in `heed_next` and `pin_next`.
-/

namespace Sys2Proof.Machine

set_option Elab.async false

/-! ## SCAN_CONFIG (R27) -/

theorem passLinesOk_of_mem {n : Nat} (h : n ∈ [4, 8, 16, 32]) : passLinesOk n = true := by
  simpa [passLinesOk, or_assoc] using h

theorem configScan_idle {s : State} {a : ScanConfigArgs} (tag : Nat) (hi : s.scn.state = .idle)
    (hd : passLinesOk a.nDark = true) (hw : passLinesOk a.nWhite = true) (hb : a.band ≤ 1) :
    s.configScan tag a = { s with scn := { s.scn with config := scanConfigOf a } }.reply tag 9
      (okCode (scanConfigClamped a)) (scanConfigClamped a) := by
  rw [State.configScan, if_neg (not_not.2 hi), if_neg (by simp [hd, hw, hb]), replyOk_eq]
  rfl

theorem configScan_busy {s : State} {a : ScanConfigArgs} (tag : Nat) (h : s.scn.state ≠ .idle) :
    s.configScan tag a = s.reply tag 9 .busy := if_pos h

/-- Settles O27: the checks in their order, then the configuration alone is replaced. -/
theorem scanConfigIsLoadedInIdle : Obligations.ScanConfigIsLoadedInIdle := by
  intro s tag a h
  rw [exec_scanConfig]
  refine ⟨fun hi hd hw hb => ?_, fun hi => commandArgs_onlyAnswered h (configScan_busy (s := s.heeded) tag hi)⟩
  obtain ⟨t, ht, answered⟩ := commandArgs_onlyAnswered (f := fun x s => s.configScan tag x)
    (u := { s with scn := { s.scn with config := scanConfigOf a } }) h
    (configScan_idle (s := s.heeded) tag hi (passLinesOk_of_mem hd) (passLinesOk_of_mem hw) hb)
  have config_eq : t.scn.config = scanConfigOf a := by
    obtain ⟨-, -, -, same, -⟩ := answered
    rw [same]
  exact ⟨t, ht, config_eq, config_eq ▸ answered⟩

/-! ## The correction of a sample (R34) -/

theorem lowest_lt {n k : Nat} {p : Nat → Bool} (h : lowest n p = some k) : k < n :=
  List.mem_range.1 (List.mem_of_find?_eq_some h)

theorem corrected_eq_zero {dark gain sample : Nat} (h : sample ≤ dark) : corrected dark gain sample = 0 := by
  simp [corrected, Nat.sub_eq_zero_of_le h]

theorem corrected_uncalibrated {sample : Nat} (h : sample ≤ 255) : corrected 0 256 sample = sample := by
  unfold corrected
  omega

theorem correct_getElem? {u : Scn} {samples : List Byte} {i d g : Nat} {b : Byte} (hd : u.dark[i]? = some d)
    (hg : u.gain[i]? = some g) (hb : samples[i]? = some b) :
    (u.correct samples)[i]? = some (corrected d g b.toNat) := by
  have column : (samples.zip (u.dark.zip u.gain))[i]? = some (b, d, g) :=
    List.getElem?_zip_eq_some.2 ⟨hb, List.getElem?_zip_eq_some.2 ⟨hd, hg⟩⟩
  rw [Scn.correct, List.getElem?_map, column]
  rfl

/-! ## Opening a page (R6, R39, R57) -/

/-- The record of a page just opened (R6). -/
def OpenRequest.record (q : OpenRequest) (index : Nat) : PageRec :=
  { state := .filling, document := some q.document, index := index, source := q.source, slot := q.slot,
    coding := q.coding, width := q.width, density := q.density, uncalibrated := q.uncalibrated }

/-- The state once page `p` has been opened (R6). -/
def State.pageOpened (s : State) (q : OpenRequest) (p : Nat) : State :=
  ((s.setPage p (q.record ((s.doc q.document).pages.length + 1))).setDoc q.document
    { s.doc q.document with pages := (s.doc q.document).pages ++ [p] }).raiseUse q.slot

/-- Where a page open is granted (R6), the page is the lowest FREE one. -/
theorem openPage_ok {s t : State} {q : OpenRequest} {r : PageRef} (h : s.openPage q = (t, .ok r)) :
    s.freePageRecord = some r.page ∧ r.gen = s.pmm.generation ∧ t = s.pageOpened q r.page := by
  unfold State.openPage at h
  dsimp only at h
  split at h
  · cases h
  · split at h
    · cases h
    · split at h
      · cases h
      · rename_i p hp
        cases h
        exact ⟨hp, rfl, rfl⟩

theorem openPage_of_room {s : State} {q : OpenRequest} {p : Nat} (ho : (s.doc q.document).state = .opened)
    (hf : (s.doc q.document).filler = q.filler) (hl : (s.doc q.document).pages.length < 64)
    (hn : ∀ r ∈ (s.doc q.document).pages, (s.page r).state ≠ .filling) (hp : s.freePageRecord = some p) :
    s.openPage q = (s.pageOpened q p, .ok { page := p, gen := s.pmm.generation }) := by
  have room : ¬Config.pagesPerDoc ≤ (s.doc q.document).pages.length := not_le.2 hl
  unfold State.openPage
  dsimp only
  rw [if_neg (by simpa [ho, hf] using hn), if_neg room, hp]
  rfl

/-- What the scan unit's page open names (R39). -/
def ScanSession.openRequest (x : ScanSession) (valid : Bool) : OpenRequest :=
  { filler := .scn, document := x.document, source := .scan, slot := x.slot, coding := x.coding, width := x.width,
    density := x.density, uncalibrated := !valid }

/-- The state once the session's page has been opened: the line coder has it and the background is reseeded (R35, R39,
R57). -/
def State.scanPageOpened (s : State) (x : ScanSession) (r : PageRef) : State :=
  (((s.pageOpened (x.openRequest s.scn.valid) r.page).takeCoderPage r x.slot x.coding x.width).updScan fun x =>
    { x with page := some r, lineCount := 0, ending := none }).updScn fun u =>
      { u with bg := List.replicate 2048 (u.config.target * 256) }

theorem openScanPage_ok {s t : State} {x : ScanSession} (h : s.openScanPage x = (t, true)) :
    ∃ r, s.freePageRecord = some r.page ∧ t = s.scanPageOpened x r := by
  unfold State.openScanPage at h
  split at h
  · cases h
  · rename_i r e
    obtain ⟨hp, -, rfl⟩ := openPage_ok e
    cases h
    exact ⟨r, hp, rfl⟩

theorem openScanPage_of_room {s : State} {x : ScanSession} {p : Nat} (ho : (s.doc x.document).state = .opened)
    (hf : (s.doc x.document).filler = .scn) (hl : (s.doc x.document).pages.length < 64)
    (hn : ∀ r ∈ (s.doc x.document).pages, (s.page r).state ≠ .filling) (hp : s.freePageRecord = some p) :
    s.openScanPage x = (s.scanPageOpened x { page := p, gen := s.pmm.generation }, true) := by
  have opened := openPage_of_room (q := x.openRequest s.scn.valid) ho hf hl hn hp
  unfold State.openScanPage
  split <;> rename_i e <;> cases opened.symm.trans e
  rfl

theorem scanPageOpened_page (s : State) (x : ScanSession) {r : PageRef} (h : r.page < 256) :
    (s.scanPageOpened x r).page r.page =
      (x.openRequest s.scn.valid).record ((s.doc x.document).pages.length + 1) :=
  page_setPage_self s r.page _ h

theorem scanPageOpened_doc (s : State) {x : ScanSession} (r : PageRef) (h : x.document < 64) :
    (s.scanPageOpened x r).doc x.document =
      { s.doc x.document with pages := (s.doc x.document).pages ++ [r.page] } :=
  doc_setDoc_self (s.setPage r.page _) x.document _ h

/-- Settles O32: a page open takes the uncalibrated mark from the scan unit. -/
theorem correctionFollowsR34 : Obligations.CorrectionFollowsR34 := by
  refine ⟨fun dark gain sample => ⟨rfl, min_le_left _ _, corrected_eq_zero⟩, fun sample => corrected_uncalibrated,
    fun u samples i d g b => correct_getElem?, fun s t x h => ?_⟩
  obtain ⟨r, hp, rfl⟩ := openScanPage_ok h
  exact ⟨r, rfl, congrArg PageRec.uncalibrated (scanPageOpened_page s x (lowest_lt hp))⟩

/-! ## Events that owe no report -/

/-- The state an event acts on: no report is owed. -/
def State.quieted (s : State) : State := { s with reports := [] }

section Events

variable {s u : State} {f set : State → State}

theorem heed_next (h : s.inReset = false) (hf : f s.quieted = u) (hu : u.reports = []) :
    ∃ t, s.heed f = .next t ∧ NothingButChoice u t := by
  subst hf
  exact ⟨_, heed_of_heeds s f h, finish_nothingButChoice _ hu⟩

theorem heed_nothingButChoice (h : s.inReset = false) (hf : f s.quieted = u.quieted) :
    ∃ t, s.heed f = .next t ∧ NothingButChoice u t := heed_next (u := u.quieted) h hf rfl

theorem pin_next (h : s.inReset = false) (hf : f (set s.quieted) = u) (hu : u.reports = []) :
    ∃ t, s.pin set f = .next t ∧ NothingButChoice u t := by
  subst hf
  exact ⟨_, pin_of_heeds s set f h, finish_nothingButChoice _ hu⟩

theorem pin_nothingButChoice (h : s.inReset = false) (hf : f (set s.quieted) = u.quieted) :
    ∃ t, s.pin set f = .next t ∧ NothingButChoice u t := pin_next (u := u.quieted) h hf rfl

end Events

theorem reply_setScn (s : State) (u : Scn) (tag code : Nat) (r : ResultCode) (c : Nat) (b : ReplyBody) :
    { s with scn := u }.reply tag code r c b = { s.reply tag code r c b with scn := u } := by
  unfold State.reply
  dsimp only
  split <;> rfl

/-! ## Notices (R187, R188) -/

theorem NoticeKind.index_lt (k : NoticeKind) : k.index < 12 := by cases k <;> decide

theorem flagged_raise (s : State) (b : NoticeBody) (tag : Nat) : (s.raise b tag).flagged b.kind = true := by
  have marked : tget (tset s.bli.summary.kinds b.kind.index true) b.kind.index false = true :=
    tget_tset_self _ _ _ _ b.kind.index_lt
  unfold State.raise State.flagged
  dsimp only
  split <;> exact marked

theorem repliesOwed_raise (s : State) (b : NoticeBody) (tag : Nat) : (s.raise b tag).repliesOwed = s.repliesOwed := by
  unfold State.raise
  dsimp only
  split <;> rfl

/-! ## Calibration (R28 to R33) -/

/-- The scan unit at the beginning of a calibration (R28, R29). -/
def Scn.darkPassBegun (u : Scn) : Scn :=
  { u with
    state := .calibrating, motor := .off, lamp := false, lineRequest := some 2048
    cal := some { pass := .dark, taken := 0, sums := List.replicate 2048 0, dark := [] } }

theorem beginCalibration_eq (s : State) : s.beginCalibration = { s with scn := s.scn.darkPassBegun } := rfl

theorem calibrate_begins {s : State} (tag : Nat) (hi : s.scn.state = .idle) (he : s.scn.edge = false) :
    s.calibrate tag = { s with scn := s.scn.darkPassBegun }.reply tag 6 .ok := by
  simp [State.calibrate, hi, he, beginCalibration_eq, reply_setScn]

theorem calibrate_sheet {s : State} (tag : Nat) (hi : s.scn.state = .idle) (he : s.scn.edge = true) :
    s.calibrate tag = s.reply tag 6 .state := by
  simp [State.calibrate, hi, he]

theorem calibrate_busy {s : State} (tag : Nat) (h : s.scn.state ≠ .idle) : s.calibrate tag = s.reply tag 6 .busy := if_pos h

theorem calibrateBeginsTheDarkPass : Claims.CalibrateBeginsTheDarkPass := by
  intro s tag h
  rw [exec_calibrate]
  refine ⟨fun hi he => ?_, fun hi he => ?_, fun hi => ?_⟩
  · exact commandArgs_onlyAnswered (f := fun _ s => s.calibrate tag) (u := { s with scn := s.scn.darkPassBegun }) h
      (calibrate_begins (s := s.heeded) tag hi he)
  · exact commandArgs_onlyAnswered (f := fun _ s => s.calibrate tag) h (calibrate_sheet (s := s.heeded) tag hi he)
  · exact commandArgs_onlyAnswered (f := fun _ s => s.calibrate tag) h (calibrate_busy (s := s.heeded) tag hi)

/-- A line's samples added to the working sums (R29). -/
def Calibration.summed (c : Calibration) (samples : List Byte) : List Nat :=
  List.zipWith (fun (a : Nat) (b : Byte) => a + b.toNat) c.sums samples

/-- A calibration concluded, with its CAL_RESULT raised (R31 to R33). -/
def State.concluded (s : State) (dark white : List Nat) : State :=
  { s with scn := (s.scn.conclude dark white).1 }.raise
    (.calResult (s.scn.conclude dark white).2.1 (s.scn.conclude dark white).2.2)

section Conclude

variable (u : Scn) (dark white : List Nat)

theorem conclude_session : (u.conclude dark white).1.session = u.session := by
  unfold Scn.conclude; dsimp only; split <;> rfl

theorem conclude_lamp : (u.conclude dark white).1.lamp = false := by
  unfold Scn.conclude; dsimp only; split <;> rfl

theorem conclude_cal : (u.conclude dark white).1.cal = none := by
  unfold Scn.conclude; dsimp only; split <;> rfl

theorem conclude_lineRequest : (u.conclude dark white).1.lineRequest = none := by
  unfold Scn.conclude; dsimp only; split <;> rfl

/-- The tables in force once a calibration is concluded (R31, R32). -/
theorem conclude_tables :
    if ((white.zip dark).countP fun x => weakColumn u.config x.1 x.2) ≤ u.config.weakLimit then
      (u.conclude dark white).1.dark = dark ∧
      (u.conclude dark white).1.gain = (white.zip dark).map (fun x => workingGain u.config.target x.1 x.2) ∧
      (u.conclude dark white).1.valid = true ∧ ∀ g ∈ (u.conclude dark white).1.gain, 64 ≤ g ∧ g ≤ 1023
    else
      (u.conclude dark white).1.dark = u.dark ∧ (u.conclude dark white).1.gain = u.gain ∧
      (u.conclude dark white).1.valid = u.valid := by
  unfold Scn.conclude
  dsimp only
  split
  · refine ⟨rfl, rfl, rfl, fun g hg => ?_⟩
    obtain ⟨x, -, rfl⟩ := List.mem_map.1 hg
    exact workingGain_bounds _ _ _
  · exact ⟨rfl, rfl, rfl⟩

end Conclude

section CalLine

variable {s : State} {c : Calibration} {samples : List Byte} (hs : s.scn.state = .calibrating) (hc : s.scn.cal = some c)
  (hr : s.scn.lineRequest = some 2048) (hl : samples.length = 2048)
include hs hc hr hl

theorem takeCalLine_more
    (h : c.pass = .dark ∧ c.taken + 1 < s.scn.config.nDark ∨ c.pass = .white ∧ c.taken + 1 < s.scn.config.nWhite) :
    s.takeCalLine samples =
      { s with scn := { s.scn with cal := some { c with taken := c.taken + 1, sums := c.summed samples } } } := by
  unfold State.takeCalLine
  rw [hs, hc, hr]
  rcases h with ⟨hp, ht⟩ | ⟨hp, ht⟩ <;> simp [hl, hp, ht, State.updScn, Calibration.summed]

theorem takeCalLine_lastDark (hp : c.pass = .dark) (ht : s.scn.config.nDark ≤ c.taken + 1) :
    s.takeCalLine samples = { s with scn := { s.scn with
      lamp := true
      cal := some { pass := .white, taken := 0, sums := List.replicate 2048 0
                    dark := (c.summed samples).map (· / s.scn.config.nDark) } } } := by
  unfold State.takeCalLine
  simp only [hs, hc, hr, hl, hp, le_refl, if_true, if_neg (Nat.not_lt.2 ht), State.beginPass, State.updScn]
  rfl

/-- The last white line of a calibration outside a session (R30 to R33). -/
theorem takeCalLine_lastWhite (hx : s.scn.session = none) (hp : c.pass = .white)
    (ht : s.scn.config.nWhite ≤ c.taken + 1) :
    s.takeCalLine samples = (s.concluded c.dark ((c.summed samples).map (· / s.scn.config.nWhite))).updScn fun u =>
      { u with state := .idle } := by
  have no_session (white : List Nat) : (s.concluded c.dark white).scn.session.isSome = false := by
    rw [State.concluded, raise_scn]
    exact (congrArg Option.isSome ((conclude_session s.scn c.dark white).trans hx))
  unfold State.takeCalLine
  simp only [hs, hc, hr, hl, hp, le_refl, if_true, if_neg (Nat.not_lt.2 ht)]
  exact if_neg (Bool.eq_false_iff.1 (no_session _))

end CalLine

theorem calibrationLinesAreSummed : Claims.CalibrationLinesAreSummed := by
  intro s c samples h hs hc hr hl _
  rw [exec_calLineTaken]
  exact ⟨fun ht => heed_nothingButChoice h (takeCalLine_more (s := s.quieted) hs hc hr hl ht),
    fun hp ht => heed_nothingButChoice h (takeCalLine_lastDark (s := s.quieted) hs hc hr hl hp ht)⟩

theorem expectedWhite_eq_zero {white dark gain : Nat} (h : white ≤ dark) : expectedWhite white dark gain = 0 :=
  if_neg (Nat.not_lt.2 h)

theorem cast_expectedWhite (white dark gain : Nat) :
    (expectedWhite white dark gain : Int) =
      if (1 : Int) ≤ (white : Int) - dark then (((white : Int) - dark) * gain + 128) / 256 else 0 := by
  unfold expectedWhite
  split
  · rename_i h
    rw [if_pos (by omega)]
    push_cast [h.le]
    rfl
  · rw [if_neg (by omega)]; rfl

theorem weakColumnsFollowR32 : Claims.WeakColumnsFollowR32 := by
  intro c white dark
  refine ⟨?_, fun ht h => ?_⟩
  · dsimp only
    rw [← cast_expectedWhite]
    unfold weakColumn ScanConfig.bandWidth
    exact decide_eq_decide.2 (by omega)
  · unfold weakColumn
    rw [expectedWhite_eq_zero h]
    have band : c.bandWidth < c.target := by unfold ScanConfig.bandWidth; split <;> omega
    simpa using band

theorem calibrationConcludes : Claims.CalibrationConcludes := by
  intro s c samples h hs hx hc hp hr hl ht
  obtain ⟨t, next, replies, summary, -, -, same, -⟩ := heed_next (f := (·.takeCalLine samples)) h
    (takeCalLine_lastWhite (s := s.quieted) hs hc hr hl hx hp ht) (raise_reports _ _ _)
  have scn_eq : t.scn = { (s.scn.conclude c.dark ((c.summed samples).map (· / s.scn.config.nWhite))).1 with
      state := .idle } := by
    rw [same]
    exact congrArg (fun u : Scn => { u with state := .idle }) (raise_scn _ _ _)
  refine ⟨t, next, ?_, ?_, ?_, ?_, ?_, ?_, ?_⟩
  · rw [scn_eq]
  · rw [scn_eq]; exact conclude_lamp _ _ _
  · rw [scn_eq]; exact conclude_cal _ _ _
  · rw [scn_eq]; exact conclude_lineRequest _ _ _
  · rw [State.flagged, summary]; exact flagged_raise _ (.calResult _ _) 0
  · exact replies.trans (repliesOwed_raise _ _ _)
  · rw [scn_eq]; exact conclude_tables _ _ _

/-- Settles O28. -/
theorem calibrationRunsItsPasses : Obligations.CalibrationRunsItsPasses :=
  ⟨calibrateBeginsTheDarkPass, calibrationLinesAreSummed, weakColumnsFollowR32, calibrationConcludes⟩

/-! ## SCAN_START (R38, R39) -/

theorem ofCode_code (d : Density) : Density.ofCode d.code = some d := by cases d <;> rfl

theorem createDoc_scan {s : State} {d : Nat} (desk : Nat) (h : s.freeDocRecord = some d) :
    s.createDoc .scan desk .scn = (s.setDoc d
      { state := .opened, origin := .scan, boardHold := true, filler := .scn, desk := desk, created := s.now }, some d) := by
  simp [State.createDoc, h]

theorem waitPaper_inactive {s : State} (ht : s.scn.tray = false) (he : s.scn.edge = false) :
    s.waitPaper = (s.updScan fun x => { x with feeding := false }).updScn fun u =>
      { u with state := .waitPaper, motor := .off, lamp := false, lineRequest := none } := by
  unfold State.waitPaper
  dsimp only
  rw [if_neg (by simp [State.updScn, State.updScan, ht, he])]

section ScanStart

variable {s : State} (desk w : Nat) (dn : Density)

/-- The fields of a SCAN_START of a new document without automatic calibration and without a copy. -/
def newScan (desk w : Nat) (dn : Density) : ScanStartArgs :=
  { document := 255, desk := desk, width := w, density := dn.code, autoCal := false, copy := false, copyPriority := 0
    copies := 0 }

/-- The session of a SCAN_START of a new document (R39). -/
def State.newSession (s : State) (d desk w : Nat) (dn : Density) : ScanSession :=
  { document := d, desk := desk, copy := false, width := w, density := dn, slot := s.lcd.config.slot
    coding := s.lcd.config.coding }

/-- The state once a SCAN_START of a new document waits for paper (R39, R40). -/
def State.waitingForPaper (s : State) (d desk w : Nat) (dn : Density) : State :=
  { s.setDoc d { state := .opened, origin := .scan, boardHold := true, filler := .scn, desk := desk, created := s.now } with
    lcd := { s.lcd with mode := .scan }
    scn := { s.scn with
      state := .waitPaper, motor := .off, lamp := false, lineRequest := none
      session := some (s.newSession d desk w dn) } }

theorem scanStartRefusal_none (hk : desk < 16) (hw : widthOk w = true) (hi : s.scn.state = .idle)
    (hb : s.lcd.board = none) (hc : (s.codeSet s.lcd.config.slot).isSome = true) (hd : s.freeDocRecord ≠ none)
    (hp : s.freePageRecord ≠ none) : s.scanStartRefusal (newScan desk w dn) = none := by
  have fields : scanStartFieldsOk (newScan desk w dn) = true := by
    simp [scanStartFieldsOk, newScan, docFieldOk, hk, hw, ofCode_code]
  unfold State.scanStartRefusal
  rw [if_neg (by simp [fields])]
  simp [hi, hb, State.loaded, hc, newScan, hd, hp]

theorem openSession_waits {d : Nat} (tag : Nat) (ht : s.scn.tray = false) (he : s.scn.edge = false) :
    s.openSession tag (newScan desk w dn) d =
      { s with
        lcd := { s.lcd with mode := .scan }
        scn := { s.scn with
          state := .waitPaper, motor := .off, lamp := false, lineRequest := none
          session := some (s.newSession d desk w dn) } }.reply tag 7 .ok 0 (.docId d) := by
  unfold State.openSession State.startSession
  simp only [newScan, ofCode_code, Bool.false_eq_true, if_false]
  rw [waitPaper_inactive]
  exacts [rfl, ht, he]

theorem startScan_waits {d : Nat} (tag : Nat) (hk : desk < 16) (hw : widthOk w = true) (hi : s.scn.state = .idle)
    (hb : s.lcd.board = none) (hc : (s.codeSet s.lcd.config.slot).isSome = true) (hd : s.freeDocRecord = some d)
    (hp : s.freePageRecord ≠ none) (ht : s.scn.tray = false) (he : s.scn.edge = false) :
    s.startScan tag (newScan desk w dn) = (s.waitingForPaper d desk w dn).reply tag 7 .ok 0 (.docId d) := by
  have accepted := scanStartRefusal_none (s := s) desk w dn hk hw hi hb hc (by simp [hd]) hp
  have document : s.scanDocument (newScan desk w dn) = s.createDoc .scan desk .scn := rfl
  unfold State.startScan State.beginScan
  rw [accepted, document, createDoc_scan desk hd]
  exact openSession_waits (s := s.setDoc d _) desk w dn tag ht he

end ScanStart

theorem scanStartWaitsForPaper : Claims.ScanStartWaitsForPaper := by
  intro s tag d desk w p dn h hk hw hi hb hc hd hp ht he
  have begun : s.heeded.startScan tag (newScan desk w dn) =
      (s.waitingForPaper d desk w dn).heeded.reply tag 7 .ok 0 (.docId d) :=
    startScan_waits (s := s.heeded) desk w dn tag hk hw hi hb hc hd (Option.ne_none_iff_exists'.2 ⟨p, hp⟩) ht he
  have hd64 : d < 64 := lowest_lt hd
  rw [exec_scanStart]
  obtain ⟨answered, -, -, same, -⟩ := heeded_reply_onlyAnswered (s.waitingForPaper d desk w dn) tag 7 .ok 0 (.docId d)
  refine ⟨_, commandArgs_next (f := fun x s => s.startScan tag x) (u := s.waitingForPaper d desk w dn) h begun, answered,
    ?_, fun e he => ?_, fun q => ?_, ?_, ?_⟩
  · rw [State.doc, reply_finish_pmm rfl]; exact doc_setDoc_self s d _ hd64
  · rw [State.doc, reply_finish_pmm rfl]; exact doc_setDoc_ne s d e _ he.symm
  · rw [State.page, reply_finish_pmm rfl]; rfl
  · rw [same]; rfl
  · rw [same]; rfl

/-! ## The sensors (R35, R39, R40) -/

theorem feed_of_opened {s : State} {x : ScanSession} {r : PageRef} (hx : s.scn.session = some x)
    (ho : s.openScanPage x = (s.scanPageOpened x r, true)) : s.feed = (s.scanPageOpened x r).runFeed := by
  unfold State.feed
  rw [hx]
  dsimp only
  rw [ho]

/-- The session once its next page has been opened (R39). -/
def ScanSession.onPage (x : ScanSession) (r : PageRef) : ScanSession :=
  { x with page := some r, lineCount := 0, ending := none }

theorem scanPageOpened_scn {s : State} {x : ScanSession} (r : PageRef) (hx : s.scn.session = some x) :
    (s.scanPageOpened x r).scn = { s.scn with
      bg := List.replicate 2048 (s.scn.config.target * 256), session := some (x.onPage r) } := by
  have session : s.scn.session.map (ScanSession.onPage · r) = some (x.onPage r) := by rw [hx]; rfl
  rw [← session]
  rfl

/-- The feed runs, the sheet still before the head (R40). -/
theorem runFeed_scn {s : State} {x : ScanSession} (hx : s.scn.session = some x) (he : s.scn.edge = false) :
    s.runFeed = { s with scn := { s.scn with
      state := .waitPaper, motor := .running, lamp := true, lineRequest := none
      session := some { x with feeding := true, jamTimer := some 5, memWait := none, resume := none } } } := by
  unfold State.runFeed
  dsimp only
  rw [if_neg (by simp [State.updScn, State.updScan, he])]
  simp only [State.updScn, State.updScan, hx]
  rfl

/-- The sheet reaches the head and its page is scanned (R40, R41). -/
theorem enterScanning_scn {s : State} {x : ScanSession} (hx : s.scn.session = some x) :
    s.enterScanning = { s with scn := { s.scn with
      state := .scanning, motor := .perLine, lamp := true, lineRequest := some x.width
      session := some { x with jamTimer := none, feeding := false, resume := none } } } := by
  simp only [State.enterScanning, State.requestLine, State.updScn, State.updScan, hx]
  rfl

theorem NothingButChoice.page {s t : State} (h : NothingButChoice s t) (p : Nat) : t.page p = s.page p := by
  obtain ⟨-, -, -, -, same, -⟩ := h
  rw [same]; rfl

theorem NothingButChoice.doc {s t : State} (h : NothingButChoice s t) (d : Nat) : t.doc d = s.doc d := by
  obtain ⟨-, -, -, -, same, -⟩ := h
  rw [same]; rfl

theorem NothingButChoice.scn {s t : State} (h : NothingButChoice s t) : t.scn = s.scn := by
  obtain ⟨-, -, -, -, same, -⟩ := h
  rw [same]

theorem scanPageOpened_quieted (s : State) (x : ScanSession) (r : PageRef) :
    s.quieted.scanPageOpened x r = (s.scanPageOpened x r).quieted := rfl

theorem doc_setScn (s : State) (u : Scn) (d : Nat) : { s with scn := u }.doc d = s.doc d := rfl

theorem sensorsFeedTheSheet : Claims.SensorsFeedTheSheet := by
  refine ⟨fun s x p h hw hx hf he hd ho hfill hl hn hp => ?_, fun s x h hw hx hf => ?_⟩
  · let u := { s with scn := { s.scn with tray := true } }
    let r : PageRef := { page := p, gen := s.pmm.generation }
    have opened := scanPageOpened_scn (s := u) r hx
    have session : (u.scanPageOpened x r).scn.session = some (x.onPage r) := by rw [opened]
    have edge : (u.scanPageOpened x r).scn.edge = false := by rw [opened]; exact he
    have fed : u.quieted.feed = (u.quieted.scanPageOpened x r).runFeed :=
      feed_of_opened (s := u.quieted) hx (openScanPage_of_room (s := u.quieted) ho hfill hl hn hp)
    have hw' : (s.quieted.updScn fun u => { u with tray := true }).scn.state = .waitPaper := hw
    have hx' : (s.quieted.updScn fun u => { u with tray := true }).scn.session = some x := hx
    rw [exec_trayPaperSensorActive]
    refine (pin_nothingButChoice (u := (u.scanPageOpened x r).runFeed) h ?_).imp fun t ⟨next, choice⟩ => ⟨next, ?_⟩
    · simp only [hw', hx', hf, Bool.not_false, Bool.and_self, if_true]
      rw [runFeed_scn session edge]
      exact fed.trans ((congrArg State.runFeed (scanPageOpened_quieted u x r)).trans (runFeed_scn session edge))
    · rw [runFeed_scn session edge] at choice
      have scn := choice.scn
      dsimp only at scn
      rw [opened] at scn
      have doc := scanPageOpened_doc u r hd
      rw [scn]
      refine ⟨rfl, rfl, rfl, rfl, rfl, rfl, ?_, ?_, choice.1⟩
      · exact (choice.page p).trans (scanPageOpened_page u x (r := r) (lowest_lt hp))
      · rw [choice.doc, doc_setScn, doc, doc_setScn]
  · have hw' : (s.quieted.updScn fun u => { u with edge := true }).scn.state = .waitPaper := hw
    have hx' : (s.quieted.updScn fun u => { u with edge := true }).scn.session = some x := hx
    rw [exec_edgeSensorActive]
    refine pin_nothingButChoice h ?_
    simp only [hw', hx', hf, if_true]
    exact enterScanning_scn hx'

/-- Settles O30. -/
theorem sheetsAreFed : Obligations.SheetsAreFed := ⟨scanStartWaitsForPaper, sensorsFeedTheSheet⟩

end Sys2Proof.Machine
end

section
/-!
PROOFS. The end of a scanned page whose document is RECEIVED (O31).
-/

namespace Sys2Proof.Machine

set_option Elab.async false

/-! ## A scanned page's end (R16, R42)

`Claims.ScanPagesEnd` says that a session that ends SCAN_DONE leaves a document with a board hold CLOSED. A document of
origin RECEIVED without a readable page is freed at its close whatever its board hold (R16, second case), and nothing in
the claim says that the session's document is of another origin. -/

/-- A code set whose words are all empty. -/
def emptyWords : CodeSet := { number := 0, mark := [], whiteTerm := [], whiteBulk := [], blackTerm := [], blackBulk := [] }

/-- A session that scans into document 0. -/
def emptySession : ScanSession :=
  { document := 0, desk := 0, copy := false, width := 0, density := .fine, slot := 0, coding := .plain }

/-- The page in progress of `emptySession`. -/
def emptyPage : CoderPage := { ref := { page := 0, gen := 0 }, slot := 0, coding := .plain, width := 0 }

/-- Page 0 is being scanned and its sheet has left the head; the session's document is OPEN, RECEIVED and without a page,
with the board hold set. -/
def receivedDocumentScanned : State :=
  { pmm := { pages := tset (Vector.replicate 256 {}) 0 { state := .filling }
             docs := tset (Vector.replicate 64 {}) 0
               { state := .opened, origin := .received, boardHold := true, filler := .scn } }
    scn := { state := .scanning, session := some emptySession, lineRequest := some 0 }
    lcd := { slots := tset (Vector.replicate 2 none) 0 (some emptyWords), job := some emptyPage } }

/-- The session's end frees the RECEIVED document (R16), the board hold notwithstanding. -/
theorem scanLineTaken_frees_receivedDocument :
    ∃ t, exec (.scanLineTaken []) receivedDocumentScanned = .next t ∧ (t.doc 0).state = .free :=
  ⟨_, rfl, by decide⟩

/-- Refutes O31: its part `ScanPagesEnd` fails where the session's document is RECEIVED and has no readable page. -/
theorem not_scanLineIsProcessedAndCoded : ¬ Obligations.ScanLineIsProcessedAndCoded := by
  rintro ⟨-, -, -, -, pagesEnd⟩
  obtain ⟨-, ends⟩ := pagesEnd receivedDocumentScanned emptySession emptyPage [] 0 rfl rfl rfl rfl rfl rfl rfl rfl rfl
    (by decide) rfl rfl (.inl rfl) rfl
  obtain ⟨scanDone, -⟩ := ends rfl rfl rfl (List.forall_mem_nil _)
  obtain ⟨t, next, -, -, -, -, held, -⟩ := scanDone rfl rfl
  obtain ⟨-, closed, -⟩ := held rfl
  obtain ⟨u, next', freed⟩ := scanLineTaken_frees_receivedDocument
  cases next.symm.trans next'
  exact absurd (closed.symm.trans freed) (by decide)

end Sys2Proof.Machine
end

section
/-!
PROOFS. The end of a scan session (O33). `Beside s t` says of an operation from `s` to `t` that it leaves the scan unit's
side as it was; the reports that a session's end owes are worked off beside it.
-/

namespace Sys2Proof.Machine

set_option Elab.async false

/-! ## What the reports leave alone -/

/-- From `s` to `t` the board link changes by notices raised alone. -/
def RaisesOnly (s t : State) : Prop :=
  t.bli = { s.bli with notices := t.bli.notices, summary := { s.bli.summary with kinds := t.bli.summary.kinds } }

/-- From `s` to `t` the other blocks have gone on and the scan unit's side stands: scan unit, line coder, pending scan
request, the documents without a filler, the replies; notices may have been raised. A preorder, so that the proof of an
operation follows the operation's own composition. -/
structure Beside (s t : State) : Prop where
  scn : t.scn = s.scn
  lcd : t.lcd = s.lcd
  pendingScan : t.pmm.pendingScan = s.pmm.pendingScan
  filler : ∀ d, (s.doc d).filler = .none → (t.doc d).filler = .none
  link : RaisesOnly s t
  flags : ∀ k, s.flagged k = true → t.flagged k = true

/-- The fields that `Beside` reads. -/
def State.scanSide (s : State) := (s.scn, s.lcd, s.pmm.pendingScan, s.pmm.docs, s.bli)

theorem flagged_raise_of_flagged {s : State} {k : NoticeKind} (b : NoticeBody) (tag : Nat) (h : s.flagged k = true) :
    (s.raise b tag).flagged k = true := by
  have marked : tget (tset s.bli.summary.kinds b.kind.index true) k.index false = true := by
    by_cases e : b.kind.index = k.index
    · rw [e]; exact tget_tset_self _ _ _ _ k.index_lt
    · rw [tget_tset_ne _ _ _ _ _ e]; exact h
  unfold State.raise State.flagged
  dsimp only
  split <;> exact marked

theorem RaisesOnly.trans {s u t : State} (h : RaisesOnly s u) (k : RaisesOnly u t) : RaisesOnly s t := by
  rw [RaisesOnly] at h k ⊢
  rw [k, h]

theorem raise_raisesOnly (s : State) (b : NoticeBody) (tag : Nat) : RaisesOnly s (s.raise b tag) := by
  unfold State.raise RaisesOnly
  dsimp only
  split <;> rfl

theorem doc_of_out {s : State} {d : Nat} (h : ¬d < 64) : s.doc d = {} := dif_neg h

namespace Beside

variable {s₀ s t : State}

theorem refl (s : State) : Beside s s := ⟨rfl, rfl, rfl, fun _ => id, rfl, fun _ => id⟩

theorem trans (h : Beside s₀ s) (k : Beside s t) : Beside s₀ t :=
  ⟨k.scn.trans h.scn, k.lcd.trans h.lcd, k.pendingScan.trans h.pendingScan, fun d => k.filler d ∘ h.filler d,
    h.link.trans k.link, fun i => k.flags i ∘ h.flags i⟩

/-- A change of fields that `Beside` does not read. -/
theorem quiet (h : Beside s₀ s) (e : t.scanSide = s.scanSide := by rfl) : Beside s₀ t := by
  simp only [State.scanSide, Prod.mk.injEq] at e
  obtain ⟨hu, hl, hp, hd, hb⟩ := e
  refine h.trans ⟨hu, hl, hp, fun d => ?_, by rw [RaisesOnly, hb], fun k => ?_⟩
  · simp only [State.doc, hd]; exact id
  · simp only [State.flagged, hb]; exact id

/-- The state of an answer that carries a value beside it. -/
theorem of_fst {α : Type} {x : State × α} {a : α} (h : Beside s₀ x.1) (e : x = (t, a)) : Beside s₀ t := by
  rw [e] at h; exact h

theorem foldl {α : Type} {f : State → α → State} (h : Beside s₀ s) (l : List α)
    (hf : ∀ t a, Beside s₀ t → Beside s₀ (f t a)) : Beside s₀ (l.foldl f s) :=
  List.foldlRecOn l f h fun t ht a _ => hf t a ht

theorem setDoc {d : Nat} {r : DocRec} (h : Beside s₀ s)
    (hr : (s.doc d).filler = .none → r.filler = .none := by exact id) : Beside s₀ (s.setDoc d r) := by
  refine h.trans ⟨rfl, rfl, rfl, fun e he => ?_, rfl, fun _ => id⟩
  by_cases hd : d = e
  · subst hd
    by_cases h64 : d < 64
    · rw [doc_setDoc_self s d r h64]; exact hr he
    · rw [doc_of_out h64]
  · rwa [doc_setDoc_ne s d e r hd]

theorem raise {b : NoticeBody} {tag : Nat} (h : Beside s₀ s) : Beside s₀ (s.raise b tag) := by
  refine h.trans ⟨raise_scn s b tag, raise_lcd s b tag, congrArg Pmm.pendingScan (raise_pmm s b tag), fun d hd => ?_,
    raise_raisesOnly s b tag, fun _ => flagged_raise_of_flagged b tag⟩
  rwa [State.doc, raise_pmm]

theorem setPage {p : Nat} {r : PageRec} (h : Beside s₀ s) : Beside s₀ (s.setPage p r) := h.quiet
theorem report {r : Report} (h : Beside s₀ s) : Beside s₀ (s.report r) := h.quiet
theorem updCtx {n : LineNo} {f : Ctx → Ctx} (h : Beside s₀ s) : Beside s₀ (s.updCtx n f) := h.quiet
theorem updDesk {d : Nat} {f : Desk → Desk} (h : Beside s₀ s) : Beside s₀ (s.updDesk d f) := h.quiet
theorem setDest {j d : Nat} {x : Dest} (h : Beside s₀ s) : Beside s₀ (s.setDest j d x) := h.quiet
theorem setJob {j : Nat} {r : Option Job} (h : Beside s₀ s) : Beside s₀ (s.setJob j r) := h.quiet
theorem setDsp {q : Dsp} (h : Beside s₀ s) : Beside s₀ { s with dsp := q } := h.quiet
theorem setEntry {e : Nat} {r : Option Entry} (h : Beside s₀ s) : Beside s₀ (s.setEntry e r) := h.quiet
theorem updEntry {e : Nat} {f : Entry → Entry} (h : Beside s₀ s) : Beside s₀ (s.updEntry e f) := h.quiet
theorem updPrt {f : Prt → Prt} (h : Beside s₀ s) : Beside s₀ (s.updPrt f) := h.quiet

/-! ### The page memory manager -/

theorem freeChain {p : Nat} (h : Beside s₀ s) : Beside s₀ (s.freeChain p) := by
  unfold State.freeChain
  split
  exacts [h, h.quiet]

theorem freeRecord {p : Nat} (h : Beside s₀ s) : Beside s₀ (s.freeRecord p) := h.quiet
theorem freePage {p : Nat} (h : Beside s₀ s) : Beside s₀ (s.freePage p) := h.freeChain.freeRecord

theorem fullDiscard {r : PageRef} (h : Beside s₀ s) : Beside s₀ (s.fullDiscard r) := by
  unfold State.fullDiscard
  dsimp only
  split
  · split
    exacts [h.freeChain.setDoc.freeRecord, h.freeChain.freeRecord]
  · exact h

theorem acquire {k : ReaderKind} {p : Nat} (h : Beside s₀ s) : Beside s₀ (s.acquire k p).1 := by
  unfold State.acquire
  dsimp only
  split
  exacts [h.setPage, h]

theorem release {k : ReaderKind} {r : PageRef} (h : Beside s₀ s) : Beside s₀ (s.release k r) := by
  unfold State.release
  dsimp only
  split
  · split
    exacts [h.setPage.freePage, h.setPage]
  · exact h

theorem dropPage {p : Nat} (h : Beside s₀ s) : Beside s₀ (s.dropPage p) := by
  unfold State.dropPage
  split
  exacts [h.freePage, h.setPage]

theorem freeDoc {d : Nat} (h : Beside s₀ s) : Beside s₀ (s.freeDoc d) := by
  have freed : Beside s₀ (((s.doc d).pages.foldl State.dropPage s).setDoc d {}) :=
    (h.foldl _ fun _ _ ht => ht.dropPage).setDoc fun _ => rfl
  unfold State.freeDoc
  dsimp only
  split
  exacts [freed.report, freed]

theorem freeTest {d : Nat} (h : Beside s₀ s) : Beside s₀ (s.freeTest d) := by
  unfold State.freeTest
  split
  exacts [h.freeDoc, h]

theorem unbind {d : Nat} (h : Beside s₀ s) : Beside s₀ (s.unbind d) := h.setDoc fun _ => rfl

theorem closeDoc {d : Nat} (h : Beside s₀ s) : Beside s₀ (s.closeDoc d) := by
  unfold State.closeDoc
  dsimp only
  split
  · split
    · exact h.setDoc.freeDoc
    · split
      exacts [h.setDoc.report, h.setDoc]
  · exact h

theorem lowerSendHold {d : Nat} (h : Beside s₀ s) : Beside s₀ (s.lowerSendHold d) := h.setDoc.freeTest
theorem lowerPrintHold {d : Nat} (h : Beside s₀ s) : Beside s₀ (s.lowerPrintHold d) := h.setDoc.freeTest

/-! ### The dispatcher -/

theorem destResult {j d : Nat} {o : Option OutcomeInfo} (h : Beside s₀ s) : Beside s₀ (s.destResult j d o) := by
  unfold State.destResult
  split
  exacts [h.raise, h]

theorem completeJob {j : Nat} {lower : Bool} (h : Beside s₀ s) : Beside s₀ (s.completeJob j lower) := by
  unfold State.completeJob
  dsimp only
  split
  · exact h
  · split
    · split
      exacts [h.setJob.lowerSendHold.raise.setJob.setDsp, h.setJob.raise.setJob.setDsp]
    · exact h

theorem failWaiting {j : Nat} {r : LastReason} (h : Beside s₀ s) : Beside s₀ (s.failWaiting j r) := by
  refine h.foldl _ fun t d ht => ?_
  split
  · split
    exacts [ht.setDest.destResult, ht]
  · exact ht

theorem jobDocClosed {doc count : Nat} (h : Beside s₀ s) : Beside s₀ (s.jobDocClosed doc count) := by
  unfold State.jobDocClosed
  split
  · exact h
  · split
    exacts [h.foldl _ fun _ _ ht => ht.failWaiting.completeJob, h.report]

theorem jobDocFreed {doc : Nat} (h : Beside s₀ s) : Beside s₀ (s.jobDocFreed doc) :=
  h.foldl _ fun _ _ ht => ht.failWaiting.completeJob

theorem jobFundsChanged {k : Nat} (h : Beside s₀ s) : Beside s₀ (s.jobFundsChanged k) := by
  refine h.foldl _ fun t j ht => ht.foldl _ fun u d hu => ?_
  dsimp only
  split
  · split
    exacts [hu.setDest.report, hu]
  · exact hu

theorem refuseAtDispatch {c : Candidate} {g : DestState} {r : LastReason} (h : Beside s₀ s) :
    Beside s₀ (s.refuseAtDispatch c g r) := by
  unfold State.refuseAtDispatch
  split
  exacts [h.setDest.destResult.completeJob, h]

theorem countCall {k : Nat} {p : Option Nat} {f : Nat → Nat} (h : Beside s₀ s) : Beside s₀ (s.countCall k p f) := by
  unfold State.countCall
  dsimp only
  split
  exacts [h.updDesk.updDesk, h.updDesk]

theorem markClock {n : LineNo} (h : Beside s₀ s) : Beside s₀ (s.markClock n) := by
  unfold State.markClock
  split
  exacts [h, h.updCtx]

theorem seize {n : LineNo} {j d tag k : Nat} {p : Pass} (h : Beside s₀ s) : Beside s₀ (s.seize n j d tag k p) :=
  markClock h.quiet

theorem bindDest {n : LineNo} {c : Candidate} {r : Job} {x : Dest} {p : Pass} (h : Beside s₀ s) :
    Beside s₀ (s.bindDest n c r x p) := by
  have reserved : Beside s₀ s.reserve := h.quiet
  exact reserved.countCall.seize.setDest

theorem dispatch {n : LineNo} {c : Candidate} (h : Beside s₀ s) : Beside s₀ (s.dispatch n c) := by
  unfold State.dispatch
  split
  · split
    exacts [h.refuseAtDispatch, h.refuseAtDispatch, h.refuseAtDispatch, h.bindDest]
  · exact h

theorem evaluateSteps (k : Nat) (h : Beside s₀ s) : Beside s₀ (evaluateSteps k s) := by
  induction k generalizing s with
  | zero => exact h
  | succ k ih =>
    unfold Machine.evaluateSteps
    split
    · split
      exacts [ih h.dispatch, h]
    · exact h

theorem evaluate (h : Beside s₀ s) : Beside s₀ s.evaluate := evaluateSteps 513 h

/-! ### The print unit -/

theorem finishEntry {e : Nat} (h : Beside s₀ s) : Beside s₀ (s.finishEntry e) := by
  unfold State.finishEntry
  split
  exacts [h, h.lowerPrintHold.raise.setEntry.updPrt]

theorem endCopy {e : Nat} {g : EntryState} (h : Beside s₀ s) : Beside s₀ (s.endCopy e g).1 := by
  unfold State.endCopy
  split
  · exact h
  · split
    exacts [h.setEntry, h.finishEntry]

theorem startPage {e : Nat} (h : Beside s₀ s) : Beside s₀ (s.startPage e) := by
  unfold State.startPage
  split
  · exact h
  · split
    · exact h.updEntry.updPrt
    · split <;> rename_i e
      · exact (h.acquire.of_fst e).updEntry.updPrt
      · dsimp only
        split
        exacts [(h.acquire.of_fst e).updEntry.updPrt.release.report, (h.acquire.of_fst e).updEntry.updPrt]

theorem arbiterChoice (h : Beside s₀ s) : Beside s₀ s.arbiterChoice := by
  unfold State.arbiterChoice
  split
  · split
    exacts [h.startPage, h]
  · exact h

theorem restEngine {notice : Bool} (h : Beside s₀ s) : Beside s₀ (s.restEngine notice) := by
  unfold State.restEngine
  dsimp only
  split
  · exact h.updPrt.updPrt.report
  · split
    exacts [h.updPrt.updPrt.raise, h.updPrt.updPrt]

theorem settleBoundary {e : Nat} (h : Beside s₀ s) : Beside s₀ (s.settleBoundary e) := by
  unfold State.settleBoundary
  split
  · exact h.restEngine
  · split
    · exact h.setEntry.restEngine
    · split
      · exact h.setEntry.restEngine
      · split
        exacts [h.setEntry.restEngine, h.startPage]

theorem pageBoundary (h : Beside s₀ s) : Beside s₀ s.pageBoundary := by
  unfold State.pageBoundary
  split
  · exact h
  · split
    · exact h.restEngine
    · dsimp only
      split
      · split <;> rename_i e
        exacts [(h.setEntry.updPrt.endCopy.of_fst e).settleBoundary, (h.setEntry.updPrt.endCopy.of_fst e).restEngine]
      · exact h.setEntry.updPrt.settleBoundary

theorem printPageFinal {d i : Nat} (h : Beside s₀ s) : Beside s₀ (s.printPageFinal d i) := by
  refine h.foldl _ fun t e ht => ?_
  split
  · split
    exacts [ht.setEntry.report, ht]
  · exact ht

theorem printDocClosed {d n : Nat} (h : Beside s₀ s) : Beside s₀ (s.printDocClosed d n) := by
  refine h.foldl _ fun t e ht => ?_
  split
  · split
    · dsimp only
      split
      · split <;> rename_i e
        exacts [(ht.setEntry.endCopy.of_fst e).report, ht.setEntry.endCopy.of_fst e]
      · exact ht.setEntry
    · exact ht
  · exact ht

theorem printDocFreed {d : Nat} (h : Beside s₀ s) : Beside s₀ (s.printDocFreed d) := by
  refine h.foldl _ fun t e ht => ?_
  split
  · split
    exacts [ht.setEntry.updPrt, ht]
  · exact ht

/-! ### The reports -/

/-- Every report but one of freed memory goes past the scan unit. -/
theorem handle {r : Report} (h : Beside s₀ s) (hr : r ≠ .memoryFreed) : Beside s₀ (s.handle r) := by
  cases r with
  | docFreed d send print =>
    unfold State.handle
    dsimp only
    split <;> split
    exacts [h.jobDocFreed.printDocFreed, h.printDocFreed, h.jobDocFreed, h]
  | pageFinal d i => exact h.printPageFinal
  | docClosed d n => exact h.jobDocClosed.printDocClosed
  | memoryFreed => exact absurd rfl hr
  | evaluate => exact h.evaluate
  | fundsChanged k => exact h.jobFundsChanged
  | arbiter => exact h.arbiterChoice
  | boundary => exact h.pageBoundary

/-- With no scan request pending a report of freed memory asks nothing of the scan unit (R18). -/
theorem drain (k : Nat) (h : Beside s₀ s) (hp : s.pmm.pendingScan = none) : Beside s₀ (drain k s) := by
  induction k generalizing s with
  | zero => exact h
  | succ k ih =>
    unfold Machine.drain
    split
    · exact h
    · rename_i r rs _
      have taken : Beside s { s with reports := rs } := (refl s).quiet
      have handled : Beside s ({ s with reports := rs }.handle r) := by
        by_cases hr : r = .memoryFreed
        · subst hr
          have idle : { s with reports := rs }.handle .memoryFreed = { s with reports := rs } := by
            simp [State.handle, State.retryScan, hp]
          rwa [idle]
        · exact taken.handle hr
      exact ih (h.trans handled) (handled.pendingScan.trans hp)

end Beside

/-! ## The end of a session (R44, R46 to R48) -/

/-- The session that scanned into document `d` is over (R48). -/
structure SessionEnded (t : State) (d : Nat) : Prop where
  idle : t.scn.state = .idle
  session : t.scn.session = none
  motor : t.scn.motor = .off
  lamp : t.scn.lamp = false
  lineRequest : t.scn.lineRequest = none
  pendingScan : t.pmm.pendingScan = none
  mode : t.lcd.mode = .idle
  job : t.lcd.job = none
  filler : (t.doc d).filler = .none
  flagged : t.flagged .scanEnd = true

section Ended

variable {s t : State} {d : Nat}

theorem SessionEnded.beside (h : SessionEnded s d) (k : Beside s t) : SessionEnded t d where
  idle := by rw [k.scn, h.idle]
  session := by rw [k.scn, h.session]
  motor := by rw [k.scn, h.motor]
  lamp := by rw [k.scn, h.lamp]
  lineRequest := by rw [k.scn, h.lineRequest]
  pendingScan := by rw [k.pendingScan, h.pendingScan]
  mode := by rw [k.lcd, h.mode]
  job := by rw [k.lcd, h.job]
  filler := k.filler d h.filler
  flagged := k.flags _ h.flagged

theorem SessionEnded.choice (h : SessionEnded s d) (k : NothingButChoice s t) : SessionEnded t d := by
  have doc := k.doc d
  obtain ⟨-, summary, -, -, same, -⟩ := k
  have flags : t.flagged .scanEnd = s.flagged .scanEnd := by rw [State.flagged, summary]; rfl
  rw [same] at *
  exact ⟨h.idle, h.session, h.motor, h.lamp, h.lineRequest, h.pendingScan, h.mode, h.job, doc ▸ h.filler, flags ▸ h.flagged⟩

/-- The selector's choice follows the reports. -/
theorem finish_choice (s : State) : NothingButChoice (drain drainBound s) s.finish := by
  have chosen := select_nothingButChoice { drain drainBound s with reports := [] } rfl
  rwa [select_setReports] at chosen

theorem SessionEnded.finish (h : SessionEnded s d) : SessionEnded s.finish d :=
  (h.beside ((Beside.refl s).drain drainBound h.pendingScan)).choice (finish_choice s)

theorem flagged_reply (s : State) (tag code : Nat) (r : ResultCode) (c : Nat) (b : ReplyBody) (k : NoticeKind) :
    (s.reply tag code r c b).flagged k = s.flagged k := by
  unfold State.reply
  split <;> rfl

theorem SessionEnded.reply (h : SessionEnded s d) (tag code : Nat) (r : ResultCode) (c : Nat) (b : ReplyBody) :
    SessionEnded (s.reply tag code r c b) d := by
  constructor <;> simp only [State.doc, reply_scn, reply_pmm, reply_lcd, flagged_reply]
  exacts [h.idle, h.session, h.motor, h.lamp, h.lineRequest, h.pendingScan, h.mode, h.job, h.filler, h.flagged]

end Ended

/-- The end of a session, past its scan unit, line coder and notice: the filler unbound and the document closed where the
ending rule says so (R48). -/
def State.documentLeft (s : State) (d : Nat) (close : Bool) : State :=
  let u := { s with pmm := { s.pmm with pendingScan := none } }.unbind d
  if close then u.closeDoc d else u

theorem documentLeft_beside (s : State) (d : Nat) (close : Bool) :
    Beside ({ s with pmm := { s.pmm with pendingScan := none } }.unbind d) (s.documentLeft d close) := by
  unfold State.documentLeft
  dsimp only
  split
  exacts [(Beside.refl _).closeDoc, .refl _]

/-- The scan unit and the line coder at the end of a session (R48). -/
def State.scanIdle (s : State) : State :=
  (s.leaveCoderPage.updLcd fun l => { l with mode := .idle }).updScn fun u =>
    { u with state := .idle, motor := .off, lamp := false, lineRequest := none, session := none, cal := none }

section EndScan

variable {s : State} {x : ScanSession} (r : ScanReason) (close : Bool)

theorem endScan_eq (hx : s.scn.session = some x) : ∃ n, s.endScan r close =
    (s.documentLeft x.document close).scanIdle.raise (.scanEnd r x.document x.completed n) := by
  unfold State.endScan
  rw [hx]
  exact ⟨_, rfl⟩

theorem endScan_ended (hx : s.scn.session = some x) : SessionEnded (s.endScan r close) x.document := by
  obtain ⟨n, e⟩ := endScan_eq r close hx
  have left := documentLeft_beside s x.document close
  have filler : ((s.documentLeft x.document close).doc x.document).filler = .none := by
    apply left.filler
    by_cases hd : x.document < 64
    · rw [State.unbind, doc_setDoc_self _ _ _ hd]
    · rw [doc_of_out hd]
  rw [e]
  exact
    { idle := by rw [raise_scn]; rfl
      session := by rw [raise_scn]; rfl
      motor := by rw [raise_scn]; rfl
      lamp := by rw [raise_scn]; rfl
      lineRequest := by rw [raise_scn]; rfl
      pendingScan := by rw [raise_pmm]; exact left.pendingScan
      mode := by rw [raise_lcd]; rfl
      job := by rw [raise_lcd]; rfl
      filler := by rw [State.doc, raise_pmm]; exact filler
      flagged := flagged_raise _ (.scanEnd ..) 0 }

theorem endScan_raisesOnly (hx : s.scn.session = some x) : RaisesOnly s (s.endScan r close) := by
  obtain ⟨n, e⟩ := endScan_eq r close hx
  rw [e]
  exact RaisesOnly.trans (u := s.documentLeft x.document close) (documentLeft_beside s x.document close).link
    (raise_raisesOnly (s.documentLeft x.document close).scanIdle _ 0)

end EndScan

theorem discardScanPage_scn (s : State) : s.discardScanPage.scn = s.scn := by
  unfold State.discardScanPage State.discardCoderPage
  split
  · rfl
  · exact ((Beside.refl { s with pmm := { s.pmm with pendingScan := none } }).fullDiscard).scn

theorem discardScanPage_raisesOnly (s : State) : RaisesOnly s s.discardScanPage := by
  unfold State.discardScanPage State.discardCoderPage
  split
  · rfl
  · exact ((Beside.refl { s with pmm := { s.pmm with pendingScan := none } }).fullDiscard).link

section Answers

variable {s u t : State} {r : Reply}

theorem Answered.raisesOnly (h : Answered s u r) (k : RaisesOnly u t) : Answered s t r := by
  obtain ⟨owed, lost⟩ := h
  have same : t.repliesOwed = u.repliesOwed := by rw [State.repliesOwed, k]; rfl
  exact ⟨same.trans owed, (congrArg (·.summary.replyLost) k).trans lost⟩

theorem Answered.choice (h : Answered s u r) (k : NothingButChoice u t) : Answered s t r := by
  obtain ⟨owed, lost⟩ := h
  obtain ⟨replies, summary, -⟩ := k
  exact ⟨replies.trans owed, (congrArg Summary.replyLost summary).trans lost⟩

theorem Answered.finish (h : Answered s u r) (hp : u.pmm.pendingScan = none) : Answered s u.finish r :=
  (h.raisesOnly ((Beside.refl u).drain drainBound hp).link).choice (finish_choice u)

/-- A reply behind notices raised by the command (R184). -/
theorem reply_answered (h : RaisesOnly s u) (tag code : Nat) (res : ResultCode) :
    Answered s (u.reply tag code res) (s.replyNow tag code res) := by
  have replies : u.bli.replies = s.bli.replies := by rw [h]
  have owed : u.repliesOwed = s.repliesOwed := by rw [State.repliesOwed, h]; rfl
  have lost : u.bli.summary.replyLost = s.bli.summary.replyLost := by rw [h]
  have now : u.replyNow tag code res = s.replyNow tag code res := by rw [State.replyNow, h]; rfl
  by_cases hl : s.bli.replies.length < 8
  · rw [reply_room u tag code res _ _ (by rwa [replies]), now]
    refine ⟨?_, ?_⟩
    · rw [if_pos hl, ← owed]
      exact (List.append_assoc ..).symm
    · simpa [Nat.not_le.2 hl] using lost
  · rw [reply_full u tag code res _ _ (by rwa [replies])]
    refine ⟨?_, ?_⟩
    · rw [if_neg hl, ← owed]; rfl
    · simp [Nat.not_lt.1 hl]

end Answers

theorem stopScan_state {s : State} (tag : Nat) (hx : s.scn.session = none) : s.stopScan tag = s.reply tag 8 .state := by
  unfold State.stopScan
  rw [hx]

section Stops

variable {s : State} {x : ScanSession} (hx : s.scn.session = some x)
include hx

/-- A session that ends with its page in progress discarded (R44, R46, R47). -/
theorem discarded_ended (r : ScanReason) (close : Bool) : SessionEnded (s.discardScanPage.endScan r close) x.document :=
  endScan_ended r close ((congrArg Scn.session (discardScanPage_scn s)).trans hx)

theorem discarded_raisesOnly (r : ScanReason) (close : Bool) : RaisesOnly s (s.discardScanPage.endScan r close) :=
  (discardScanPage_raisesOnly s).trans
    (endScan_raisesOnly r close ((congrArg Scn.session (discardScanPage_scn s)).trans hx))

theorem jam_ended (hj : x.jamTimer.isSome = true) : SessionEnded s.jam x.document := by
  unfold State.jam
  rw [hx]
  dsimp only
  rw [if_pos hj]
  exact discarded_ended hx .jam false

theorem memoryWaitEnds_ended (hm : x.memWait.isSome = true) : SessionEnded s.memoryWaitEnds x.document := by
  unfold State.memoryWaitEnds
  rw [hx]
  dsimp only
  rw [if_pos hm]
  exact discarded_ended hx .memory false

/-- SCAN_STOP of a running session (R47): a calibration is aborted, or the page in progress discarded. -/
theorem stopScan_stops (tag : Nat) (hi : s.scn.state ≠ .idle) :
    ∃ u, s.stopScan tag = u.reply tag 8 .ok ∧ SessionEnded u x.document ∧ RaisesOnly s u := by
  have raised : (s.raise (.calResult .aborted 0)).scn.session = some x := by rwa [raise_scn]
  unfold State.stopScan
  rw [hx]
  split
  · contradiction
  · contradiction
  · rename_i e _
    cases e
    exact ⟨_, rfl, endScan_ended _ _ raised, (raise_raisesOnly s _ _).trans (endScan_raisesOnly _ _ raised)⟩
  · exact ⟨_, rfl, discarded_ended hx .stopped true, discarded_raisesOnly hx .stopped true⟩

end Stops

/-- Settles O33. -/
theorem sessionsAreEnded : Obligations.SessionsAreEnded := by
  refine ⟨fun s x c h hx hc => ?_, fun s tag h hx => ?_⟩
  · obtain ⟨t, next, ⟨h1, h2, h3, h4, h5, h6, h7, h8, h9, h10⟩, answered⟩ :
        ∃ t, exec c s = .next t ∧ SessionEnded t x.document ∧
          ∀ tag, c = .scanStop tag (.fields ()) → Answered s t (s.replyNow tag 8 .ok) := by
      rcases hc with ⟨rfl, hj⟩ | ⟨rfl, hm⟩ | ⟨tag, rfl, hi⟩
      · exact ⟨_, heed_of_heeds s _ h, (jam_ended (s := s.quieted) hx hj).finish, nofun⟩
      · exact ⟨_, heed_of_heeds s _ h, (memoryWaitEnds_ended (s := s.quieted) hx hm).finish, nofun⟩
      · obtain ⟨u, stopped, ended, raises⟩ := stopScan_stops (s := s.heeded) hx tag hi
        have answered := (reply_answered raises tag 8 .ok).finish (by rw [reply_pmm]; exact ended.pendingScan)
        refine ⟨_, commandArgs_fields s tag 8 () (fun _ s => s.stopScan tag) h, ?_⟩
        refine stopped ▸ ⟨(ended.reply ..).finish, fun tag' e => ?_⟩
        cases e
        exact answered
    exact ⟨t, next, h1, h2, h3, h4, h5, h6, h7, h8, h9, h10, answered⟩
  · rw [exec_scanStop]
    exact commandArgs_onlyAnswered (f := fun _ s => s.stopScan tag) h (stopScan_state (s := s.heeded) tag hx)

end Sys2Proof.Machine
end

section
/-!
PROOFS. The operations that leave the scan unit as it is: one lemma per operation of the other blocks, in the order of the
model's files. None of them writes the scan unit's fields, so each lemma unfolds its own operation and cites those of the
operations it is made of.
-/

namespace Sys2Proof.Machine

set_option Elab.async false

/-! ## What leaves the scan unit alone -/

section ScanUnitStands

variable (s : State) (n : LineNo)

theorem foldl_scn {α : Type} {f : State → α → State} (hf : ∀ s a, (f s a).scn = s.scn) (l : List α) :
    (l.foldl f s).scn = s.scn :=
  List.foldlRecOn (motive := fun t => t.scn = s.scn) l f rfl fun t ht a _ => (hf t a).trans ht

/-! ### The page memory manager -/

@[simp] theorem freeChain_scn (p : Nat) : (s.freeChain p).scn = s.scn := (Beside.refl s).freeChain.scn
@[simp] theorem fullDiscard_scn (r : PageRef) : (s.fullDiscard r).scn = s.scn := (Beside.refl s).fullDiscard.scn
@[simp] theorem acquire_scn (k : ReaderKind) (p : Nat) : (s.acquire k p).1.scn = s.scn := (Beside.refl s).acquire.scn
@[simp] theorem release_scn (k : ReaderKind) (r : PageRef) : (s.release k r).scn = s.scn :=
  (Beside.refl s).release.scn
@[simp] theorem freeTest_scn (d : Nat) : (s.freeTest d).scn = s.scn := (Beside.refl s).freeTest.scn
@[simp] theorem unbind_scn (d : Nat) : (s.unbind d).scn = s.scn := rfl
@[simp] theorem closeDoc_scn (d : Nat) : (s.closeDoc d).scn = s.scn := (Beside.refl s).closeDoc.scn
@[simp] theorem raiseSendHold_scn (d : Nat) : (s.raiseSendHold d).scn = s.scn := rfl
@[simp] theorem raisePrintHold_scn (d : Nat) : (s.raisePrintHold d).scn = s.scn := rfl
@[simp] theorem lowerPrintHold_scn (d : Nat) : (s.lowerPrintHold d).scn = s.scn := (Beside.refl s).lowerPrintHold.scn
@[simp] theorem lowCheck_scn : s.lowCheck.scn = s.scn := by grind [State.lowCheck, raise_scn]
theorem grant_scn {s t : State} {p : Nat} (e : s.grant p = some t) : t.scn = s.scn := by
  grind [State.grant, setPage_scn, lowCheck_scn]

@[simp] theorem append_scn (r : PageRef) (b : Byte) : (s.append r b).1.scn = s.scn := by
  grind [State.append, grant_scn, setPage_scn]
@[simp] theorem openPage_scn (q : OpenRequest) : (s.openPage q).1.scn = s.scn := by
  grind [State.openPage, raiseUse_scn, setDoc_scn, setPage_scn]
@[simp] theorem reportFinal_scn (p : Nat) : (s.reportFinal p).scn = s.scn := by grind [State.reportFinal, report_scn]
@[simp] theorem completePage_scn (r : PageRef) (k bad : Nat) (poor : Bool) :
    (s.completePage r k bad poor).scn = s.scn := by
  grind [State.completePage, reportFinal_scn, setPage_scn]
@[simp] theorem damagePage_scn (r : PageRef) (k bad : Nat) : (s.damagePage r k bad).scn = s.scn := by
  grind [State.damagePage, reportFinal_scn, setPage_scn]
@[simp] theorem resetDiscard_scn (r : PageRef) : (s.resetDiscard r).scn = s.scn := by
  grind [State.resetDiscard, freeChain_scn, setPage_scn]
@[simp] theorem createDoc_scn (o : Origin) (k : Nat) (f : Filler) (tag : Option Text) (hold : Bool) :
    (s.createDoc o k f tag hold).1.scn = s.scn := by unfold State.createDoc; split <;> rfl

/-! ### The codecs and the line coder -/

@[simp] theorem verifyChar_scn (b : Byte) (marked : Bool) : (s.verifyChar n b marked).scn = s.scn := by
  grind [State.verifyChar, updCodec_scn]
@[simp] theorem chooseWork_scn (r : PageRef) : (s.chooseWork n r).scn = s.scn := rfl
@[simp] theorem takeCoderPage_scn (r : PageRef) (k : Nat) (c : Coding) (w : Nat) :
    (s.takeCoderPage r k c w).scn = s.scn := rfl
@[simp] theorem leaveCoderPage_scn : s.leaveCoderPage.scn = s.scn := rfl
@[simp] theorem dropCoderPage_scn : s.dropCoderPage.scn = s.scn := rfl
@[simp] theorem storeBytes_scn (r : PageRef) (bs : List Byte) : (storeBytes r bs s).1.scn = s.scn := by
  induction bs generalizing s with
  | nil => rfl
  | cons b bs ih => grind [storeBytes, append_scn]

@[simp] theorem storeLine_scn (j : CoderPage) (h : HeldLine) : (s.storeLine j h).1.scn = s.scn := by
  grind [State.storeLine, storeBytes_scn, updLcd_scn]
@[simp] theorem codeLine_scn (l : PixelLine) : (s.codeLine l).1.scn = s.scn := by
  grind [State.codeLine, storeLine_scn]
@[simp] theorem tryHeld_scn : (s.tryHeld).1.scn = s.scn := by grind [State.tryHeld, storeLine_scn]
@[simp] theorem padPage_scn : (s.padPage).1.scn = s.scn := by grind [State.padPage, storeLine_scn]
@[simp] theorem completeCoderPage_scn : s.completeCoderPage.scn = s.scn := by
  grind [State.completeCoderPage, completePage_scn, leaveCoderPage_scn]
@[simp] theorem discardCoderPage_scn : s.discardCoderPage.scn = s.scn := by
  grind [State.discardCoderPage, fullDiscard_scn, dropCoderPage_scn]

/-! ### The charge unit -/

@[simp] theorem markClock_scn : (s.markClock n).scn = s.scn := by grind [State.markClock, updCtx_scn]
@[simp] theorem countCall_scn (k : Nat) (p : Option Nat) (f : Nat → Nat) : (s.countCall k p f).scn = s.scn :=
  (Beside.refl s).countCall.scn
@[simp] theorem returnReservation_scn : s.returnReservation.scn = s.scn := rfl
@[simp] theorem charge_scn (m : Bool) (c : Int) : (s.charge n m c).1.scn = s.scn := by
  grind [State.charge, updDesk_scn, updCtx_scn]
@[simp] theorem chargeAnswer_scn : (s.chargeAnswer n).1.scn = s.scn := by
  grind [State.chargeAnswer, updCtx_scn, charge_scn]
@[simp] theorem topUp_scn (c : Int) (k : Nat) : (topUp n c k s).scn = s.scn := by
  induction k generalizing s with
  | zero => rfl
  | succ k ih => rw [topUp, ih, updCtx_scn, charge_scn]

@[simp] theorem chargeRelease_scn : (s.chargeRelease n).scn = s.scn := by
  grind [State.chargeRelease, updCtx_scn, topUp_scn]
@[simp] theorem completeRecord_scn : (s.completeRecord n).scn = s.scn := by
  grind [State.completeRecord, countCall_scn, updDesk_scn]

/-! ### The dispatcher -/

@[simp] theorem setDest_scn (j d : Nat) (x : Dest) : (s.setDest j d x).scn = s.scn := rfl
@[simp] theorem destResult_scn (j d : Nat) (o : Option OutcomeInfo) : (s.destResult j d o).scn = s.scn := by
  grind [State.destResult, raise_scn]
@[simp] theorem completeJob_scn (j : Nat) (lower : Bool) : (s.completeJob j lower).scn = s.scn :=
  (Beside.refl s).completeJob.scn
@[simp] theorem takeOutcome_scn (j d : Nat) (o : CallOutcome) (i : OutcomeInfo) :
    (s.takeOutcome j d o i).scn = s.scn := by
  grind [State.takeOutcome, setDest_scn, destResult_scn, report_scn, completeJob_scn]

/-! ### The pump links -/

@[simp] theorem sendChars_scn (cs : List PumpChar) : (s.sendChars n cs).scn = s.scn := rfl
@[simp] theorem sendFrame_scn (f : Frame) : (s.sendFrame n f).scn = s.scn := rfl
@[simp] theorem startPhase_scn (k : Nat) (d : PhaseDir) : (s.startPhase n k d).scn = s.scn := rfl
@[simp] theorem stopPhase_scn : (s.stopPhase n).scn = s.scn := by grind [State.stopPhase, sendChars_scn, updLine_scn]
@[simp] theorem startReply_scn : (s.startReply n).scn = s.scn := rfl
@[simp] theorem stopReply_scn : (s.stopReply n).scn = s.scn := rfl
@[simp] theorem sendRequest_scn (f : Frame) : (s.sendRequest n f).scn = s.scn := rfl
@[simp] theorem answered_scn : (s.answered n).scn = s.scn := rfl
@[simp] theorem enterStage_scn (g : Stage) : (s.enterStage n g).scn = s.scn := rfl
@[simp] theorem enterState_scn (g : LineState) : (s.enterState n g).scn = s.scn := rfl
@[simp] theorem enterWatch_scn (g : Stage) : (s.enterWatch n g).scn = s.scn := rfl
@[simp] theorem sendStored_scn (f : Frame) : (s.sendStored n f).scn = s.scn := rfl

/-! ### The print unit -/

@[simp] theorem updEntry_scn (e : Nat) (f : Entry → Entry) : (s.updEntry e f).scn = s.scn := rfl
@[simp] theorem removeEntry_scn (e : Nat) : (s.removeEntry e).scn = s.scn := rfl
@[simp] theorem createEntry_scn (d : Nat) (o : EntrySource) (c p : Nat) : (s.createEntry d o c p).1.scn = s.scn := by
  grind [State.createEntry, setEntry_scn, updPrt_scn, raisePrintHold_scn, report_scn]
@[simp] theorem restEngine_scn (notice : Bool) : (s.restEngine notice).scn = s.scn := by
  grind [State.restEngine, updPrt_scn, report_scn, raise_scn]
@[simp] theorem pageBoundary_scn : s.pageBoundary.scn = s.scn := (Beside.refl s).pageBoundary.scn
@[simp] theorem dropReader_scn : s.dropReader.scn = s.scn := by grind [State.dropReader, release_scn]
@[simp] theorem abandonPage_scn : s.abandonPage.scn = s.scn := by
  grind [State.abandonPage, dropReader_scn, updEntry_scn, updPrt_scn, raise_scn]
@[simp] theorem paperChange_scn (level : Bool) : (s.paperChange level).scn = s.scn := by
  grind [State.paperChange, updPrt_scn, raise_scn, report_scn, abandonPage_scn]
@[simp] theorem decodePrintLine_scn : s.decodePrintLine.scn = s.scn := by
  grind [State.decodePrintLine, updPrt_scn, release_scn, updEntry_scn]
@[simp] theorem takePrintLine_scn : s.takePrintLine.scn = s.scn := by grind [State.takePrintLine, updPrt_scn]
@[simp] theorem cutFinished_scn : s.cutFinished.scn = s.scn := by
  grind [State.cutFinished, updPrt_scn, pageBoundary_scn, restEngine_scn]
@[simp] theorem cutShort_scn : s.cutShort.scn = s.scn := rfl
@[simp] theorem cancelEntry_scn (e : Nat) (r : Entry) : (s.cancelEntry e r).scn = s.scn := by
  grind [State.cancelEntry, dropReader_scn, cutShort_scn, removeEntry_scn, lowerPrintHold_scn]

/-! ### The reception router -/

@[simp] theorem routeEntry_scn (d : Nat) (tag : Text) (i : Option Nat) (r : RouteRule) :
    (s.routeEntry n d tag i r).1.scn = s.scn := by
  grind [State.routeEntry, createEntry_scn, setDoc_scn, raise_scn]
@[simp] theorem routeRequest_scn (call : Nat) (tag : Text) : (s.routeRequest n call tag).1.scn = s.scn := by
  grind [State.routeRequest, createDoc_scn, routeEntry_scn, setReception_scn]
@[simp] theorem closeReceived_scn (d : Nat) : (s.closeReceived d).1.scn = s.scn := by
  grind [State.closeReceived, closeDoc_scn, unbind_scn]
@[simp] theorem disposition_scn (r : Reception) (c : Captured) : (s.disposition r c).1.scn = s.scn := by
  grind [State.disposition]
@[simp] theorem routerCallEnd_scn (r : EndReason) (k : Nat) (sent : Option Nat) (c : Captured) :
    (s.routerCallEnd n r k sent c).scn = s.scn := by
  grind [State.routerCallEnd, report_scn, disposition_scn, raise_scn, setReception_scn]

/-! ### Calls -/

@[simp] theorem enterIdle_scn : (s.enterIdle n).scn = s.scn := rfl
@[simp] theorem leaveService_scn (c : LineCause) : (s.leaveService n c).scn = s.scn := by
  grind [State.leaveService, raise_scn, updLine_scn]
@[simp] theorem beginCaller_scn : (s.beginCaller n).scn = s.scn := rfl
@[simp] theorem beginCallee_scn : (s.beginCallee n).scn = s.scn := by
  grind [State.beginCallee, sendRequest_scn, updSess_scn, State.beginSession, updCtx_scn, enterState_scn]
@[simp] theorem enterAnswering_scn (r : RingRecord) : (s.enterAnswering n r).scn = s.scn := rfl
@[simp] theorem afterBurst_scn (r : RingRecord) : (s.afterBurst n r).scn = s.scn := by
  grind [State.afterBurst, updLine_scn, enterAnswering_scn]
@[simp] theorem burst_scn : (s.burst n).scn = s.scn := by grind [State.burst, afterBurst_scn, enterState_scn]
@[simp] theorem abandonRinging_scn : (s.abandonRinging n).scn = s.scn := by
  grind [State.abandonRinging, updLine_scn, raise_scn, enterIdle_scn]
@[simp] theorem awaitAnswer_scn : (s.awaitAnswer n).scn = s.scn := rfl
@[simp] theorem dialNext_scn : (s.dialNext n).scn = s.scn := by
  grind [State.dialNext, updLine_scn, awaitAnswer_scn, sendChars_scn]
@[simp] theorem enterDialing_scn : (s.enterDialing n).scn = s.scn := by
  grind [State.enterDialing, updLine_scn, dialNext_scn]
@[simp] theorem endPhase_scn : (s.endPhase n).scn = s.scn := by grind [State.endPhase, stopPhase_scn, updCodec_scn]
@[simp] theorem damageReceived_scn (r : PageRef) : (s.damageReceived n r).scn = s.scn := by
  grind [State.damageReceived, damagePage_scn]
@[simp] theorem settleReceived_scn : (s.settleReceived n).scn = s.scn := by
  grind [State.settleReceived, damageReceived_scn, fullDiscard_scn]
@[simp] theorem dropTransmission_scn : (s.dropTransmission n).scn = s.scn := by
  grind [State.dropTransmission, release_scn, updSess_scn]
@[simp] theorem handOutcome_scn (o : CallOutcome) : (s.handOutcome n o).scn = s.scn := by
  grind [State.handOutcome, takeOutcome_scn]
@[simp] theorem endReception_scn (r : EndReason) : (s.endReception n r).scn = s.scn := by
  grind [State.endReception, closeReceived_scn, routerCallEnd_scn]
@[simp] theorem releaseCall_scn (r : EndReason) : (s.releaseCall n r).scn = s.scn := by
  grind [State.releaseCall, updCtx_scn, markClock_scn, endPhase_scn, updLine_scn, settleReceived_scn,
    dropTransmission_scn, updCodec_scn, endReception_scn, handOutcome_scn, chargeRelease_scn]
@[simp] theorem chargeCall_scn (m : Bool) (c : Int) : (s.chargeCall n m c).scn = s.scn := by
  grind [State.chargeCall, charge_scn, releaseCall_scn]
@[simp] theorem loopFault_scn : (s.loopFault n).scn = s.scn := by
  grind [State.loopFault, countCall_scn, returnReservation_scn, updLine_scn, leaveService_scn, takeOutcome_scn]
@[simp] theorem checkLoop_scn (current : Bool) : (s.checkLoop n current).scn = s.scn := by
  grind [State.checkLoop, updLine_scn, enterDialing_scn, loopFault_scn, updCtx_scn, markClock_scn, beginCallee_scn]
@[simp] theorem farEndAnswers_scn : (s.farEndAnswers n).scn = s.scn := by
  grind [State.farEndAnswers, updLine_scn, updCtx_scn, markClock_scn, chargeAnswer_scn, releaseCall_scn,
    beginCaller_scn]
@[simp] theorem guardEnds_scn : (s.guardEnds n).scn = s.scn := by
  grind [State.guardEnds, completeRecord_scn, updLine_scn, enterIdle_scn, leaveService_scn]

/-! ### Sessions -/

@[simp] theorem closeWith_scn (c : CloseCause) : (s.closeWith n c).scn = s.scn := by
  grind [State.closeWith, enterState_scn, updSess_scn, sendRequest_scn]
@[simp] theorem announce_scn : (s.announce n).scn = s.scn := rfl
@[simp] theorem takeReader_scn (m a : Nat) : (s.takeReader n m a).scn = s.scn := by
  grind [State.takeReader, acquire_scn, updSess_scn]
@[simp] theorem beginPage_scn (m a : Nat) : (s.beginPage n m a).scn = s.scn := by
  grind [State.beginPage, takeReader_scn, updCtx_scn, chooseWork_scn, announce_scn]
@[simp] theorem lowerStep_scn : (s.lowerStep n).scn = s.scn := rfl
@[simp] theorem callerTrainFailed_scn : (s.callerTrainFailed n).scn = s.scn := by
  grind [State.callerTrainFailed, updSess_scn, releaseCall_scn, endPhase_scn, lowerStep_scn, announce_scn]
@[simp] theorem sendTail_scn : (s.sendTail n).scn = s.scn := by
  grind [State.sendTail, endPhase_scn, updSess_scn, sendRequest_scn]
@[simp] theorem sendProgress_scn : (s.sendProgress n).scn = s.scn := by
  grind [State.sendProgress, sendChars_scn, updCodec_scn, updLine_scn, sendTail_scn]
@[simp] theorem takeOffer_scn (f : OfferFields) : (s.takeOffer n f).scn = s.scn := by
  grind [State.takeOffer, answered_scn, updSess_scn, closeWith_scn, updCtx_scn, updCodec_scn, sendRequest_scn]
@[simp] theorem takeAccept_scn : (s.takeAccept n).scn = s.scn := by
  grind [State.takeAccept, answered_scn, closeWith_scn, enterState_scn, beginPage_scn]
@[simp] theorem takeDecline_scn (r : DeclineReason) : (s.takeDecline n r).scn = s.scn := by
  grind [State.takeDecline, answered_scn, endPhase_scn, dropTransmission_scn, updCodec_scn, closeWith_scn]
@[simp] theorem takePageAck_scn (v : Verdict) : (s.takePageAck n v).scn = s.scn := by
  cases v <;> grind [State.takePageAck, answered_scn, lowerStep_scn, beginPage_scn, releaseCall_scn, updCtx_scn,
    dropTransmission_scn, updCodec_scn, closeWith_scn]
@[simp] theorem takeEndAck_scn : (s.takeEndAck n).scn = s.scn := by
  grind [State.takeEndAck, answered_scn, releaseCall_scn]
@[simp] theorem declineChoose_scn (r : DeclineReason) : (s.declineChoose n r).scn = s.scn := by
  grind [State.declineChoose, sendStored_scn, updSess_scn, enterWatch_scn]
@[simp] theorem acceptChoose_scn (f : ChooseFields) : (s.acceptChoose n f).scn = s.scn := by
  grind [State.acceptChoose, updCodec_scn, updCtx_scn, updSess_scn, routeRequest_scn, declineChoose_scn,
    countCall_scn, sendStored_scn, enterState_scn, enterWatch_scn]
@[simp] theorem firstChoose_scn (f : ChooseFields) : (s.firstChoose n f).scn = s.scn := by
  grind [State.firstChoose, answered_scn, updSess_scn, updCtx_scn, declineChoose_scn, acceptChoose_scn]
@[simp] theorem rewatch_scn : (s.rewatch n).scn = s.scn := by grind [State.rewatch, updSess_scn, startReply_scn]
@[simp] theorem repeatStored_scn (f : Frame) : (s.repeatStored n f).scn = s.scn := by
  grind [State.repeatStored, sendFrame_scn, rewatch_scn]
@[simp] theorem takeChoose_scn (f : ChooseFields) : (s.takeChoose n f).scn = s.scn := by
  grind [State.takeChoose, firstChoose_scn, repeatStored_scn]
@[simp] theorem beginAttempt_scn (m a k : Nat) : (s.beginAttempt n m a k).scn = s.scn := by
  grind [State.beginAttempt, updCtx_scn, updSess_scn, updCodec_scn, startPhase_scn, startReply_scn]
@[simp] theorem declineHead_scn : (s.declineHead n).scn = s.scn := by
  grind [State.declineHead, updSess_scn, sendStored_scn, enterWatch_scn]
@[simp] theorem newPage_scn (m k : Nat) : (s.newPage n m k).scn = s.scn := by
  grind [State.newPage, declineHead_scn, openPage_scn, updSess_scn, beginAttempt_scn]
@[simp] theorem takePageHead_scn (m a k : Nat) : (s.takePageHead n m a k).scn = s.scn := by
  grind [State.takePageHead, resetDiscard_scn, beginAttempt_scn, newPage_scn]
@[simp] theorem settleVerdict_scn (r : PageRef) (v : Verdict) (k bad : Nat) :
    (s.settleVerdict r v k bad).scn = s.scn := by
  cases v <;> simp [State.settleVerdict]
@[simp] theorem judge_scn (l b : Nat) (c : BitVec 16) : (s.judge n l b c).scn = s.scn := by
  grind [State.judge, settleVerdict_scn, updSess_scn, updCodec_scn, sendStored_scn, enterWatch_scn]
@[simp] theorem takePageTail_scn (l b : Nat) (c : BitVec 16) : (s.takePageTail n l b c).scn = s.scn := by
  grind [State.takePageTail, judge_scn, repeatStored_scn]
@[simp] theorem takeEnd_scn (p : Nat) : (s.takeEnd n p).scn = s.scn := by
  grind [State.takeEnd, answered_scn, sendFrame_scn, enterState_scn, updSess_scn, startReply_scn]
@[simp] theorem takeFrame_scn (f : Frame) : (s.takeFrame n f).scn = s.scn := by
  unfold State.takeFrame
  dsimp only
  split <;> grind [takeOffer_scn, takeAccept_scn, takeDecline_scn, takePageAck_scn, takeEndAck_scn, takeChoose_scn,
    takePageHead_scn, takePageTail_scn, takeEnd_scn]
@[simp] theorem openFrame_scn : (s.openFrame n).scn = s.scn := by
  grind [State.openFrame, endPhase_scn, enterWatch_scn, updLine_scn]
@[simp] theorem frameArrives_scn (f : Frame) : (s.frameArrives n f).scn = s.scn := by
  grind [State.frameArrives, takeFrame_scn]
@[simp] theorem deliver_scn (f : Frame) : (s.deliver n f).scn = s.scn := by
  grind [State.deliver, openFrame_scn, updLine_scn, frameArrives_scn]
@[simp] theorem closeFrame_scn : (s.closeFrame n).scn = s.scn := by
  grind [State.closeFrame, updLine_scn, frameArrives_scn]
@[simp] theorem receiveByte_scn (b : Byte) (marked : Bool) : (s.receiveByte n b marked).scn = s.scn := by
  grind [State.receiveByte, append_scn, updSess_scn, damageReceived_scn, verifyChar_scn]
@[simp] theorem takeData_scn (b : Byte) (marked : Bool) : (s.takeData n b marked).scn = s.scn := by
  grind [State.takeData, updLine_scn, receiveByte_scn]
@[simp] theorem phaseReady_scn : (s.phaseReady n).scn = s.scn := by
  grind [State.phaseReady, updLine_scn, stopReply_scn, enterStage_scn, sendProgress_scn]
@[simp] theorem trainingFailed_scn : (s.trainingFailed n).scn = s.scn := by
  grind [State.trainingFailed, callerTrainFailed_scn, endPhase_scn, enterWatch_scn]
@[simp] theorem phaseFails_scn : (s.phaseFails n).scn = s.scn := by grind [State.phaseFails, trainingFailed_scn]
@[simp] theorem trainingExpires_scn : (s.trainingExpires n).scn = s.scn := by
  grind [State.trainingExpires, trainingFailed_scn, updLine_scn]
@[simp] theorem loseCarrier_scn : (s.loseCarrier n).scn = s.scn := by grind [State.loseCarrier, releaseCall_scn]
@[simp] theorem requestExpires_scn (r : EndReason) : (s.requestExpires n r).scn = s.scn := by
  grind [State.requestExpires, sendFrame_scn, updSess_scn, startReply_scn, releaseCall_scn]
@[simp] theorem watchExpires_scn : (s.watchExpires n).scn = s.scn := by
  grind [State.watchExpires, releaseCall_scn, updSess_scn, startReply_scn]
@[simp] theorem replyExpires_scn : (s.replyExpires n).scn = s.scn := by
  grind [State.replyExpires, stopReply_scn, watchExpires_scn, requestExpires_scn, trainingExpires_scn,
    releaseCall_scn]

/-! ### The board link -/

@[simp] theorem fetchSent_scn : s.fetchSent.scn = s.scn := by grind [State.fetchSent, release_scn]
@[simp] theorem blockSent_scn : s.blockSent.scn = s.scn := by
  unfold State.blockSent
  dsimp only
  split
  exacts [rfl, fetchSent_scn _, rfl]
@[simp] theorem setMask_scn (tag m : Nat) : (s.setMask tag m).scn = s.scn := by
  grind [State.setMask, reply_scn, updBli_scn]
@[simp] theorem setReportMode_scn (tag : Nat) (a : ReportModeArgs) : (s.setReportMode tag a).scn = s.scn := by
  grind [State.setReportMode, reply_scn, updBli_scn, State.replyOk]
@[simp] theorem queryStatus_scn (tag : Nat) : (s.queryStatus tag).scn = s.scn := by
  grind [State.queryStatus, reply_scn, updBli_scn]
@[simp] theorem reportExpires_scn : s.reportExpires.scn = s.scn := by grind [State.reportExpires, updBli_scn]
@[simp] theorem ackStart_scn (tag : Nat) : (s.ackStart tag).scn = s.scn := by
  grind [State.ackStart, reply_scn, updBli_scn]

/-! ### The commands of the line coder -/

@[simp] theorem loadCodeSet_scn (tag : Nat) (a : LoadCodeSetArgs) : (s.loadCodeSet tag a).scn = s.scn := by
  grind [State.loadCodeSet, reply_scn, updLcd_scn]
@[simp] theorem configCoder_scn (tag : Nat) (a : CoderConfigArgs) : (s.configCoder tag a).scn = s.scn := by
  grind [State.configCoder, reply_scn, updLcd_scn, State.replyOk]
@[simp] theorem boardDocument_scn (d : Nat) : (s.boardDocument d).1.scn = s.scn := by
  grind [State.boardDocument, createDoc_scn, setDoc_scn]
@[simp] theorem openBoardPage_scn (tag d : Nat) (new : Bool) (w : Nat) (g : Density) :
    (s.openBoardPage tag d new w g).scn = s.scn := by
  grind [State.openBoardPage, openPage_scn, takeCoderPage_scn, updLcd_scn, unbind_scn, setDoc_scn, closeDoc_scn,
    reply_scn]
@[simp] theorem beginBoardPage_scn (tag : Nat) (a : BoardPageBeginArgs) : (s.beginBoardPage tag a).scn = s.scn := by
  grind [State.beginBoardPage, boardDocument_scn, openBoardPage_scn, reply_scn]
@[simp] theorem takeLines_scn (ls : List PixelLine) : (takeLines ls s).1.scn = s.scn := by
  induction ls generalizing s with
  | nil => rfl
  | cons l ls ih => grind [takeLines, codeLine_scn]

@[simp] theorem docLines_scn (tag : Nat) (body : List Byte) : (s.docLines tag body).scn = s.scn := by
  grind [State.docLines, tryHeld_scn, takeLines_scn, reply_scn]
@[simp] theorem leaveBoardPage_scn (d : Nat) : (s.leaveBoardPage d).scn = s.scn := rfl
@[simp] theorem completeBoardPage_scn (tag : Nat) (j : CoderPage) (d : Nat) :
    (s.completeBoardPage tag j d).scn = s.scn := by
  grind [State.completeBoardPage, tryHeld_scn, padPage_scn, completeCoderPage_scn, leaveBoardPage_scn, reply_scn]
@[simp] theorem endBoardPage_scn (tag : Nat) (abandon : Bool) : (s.endBoardPage tag abandon).scn = s.scn := by
  grind [State.endBoardPage, discardCoderPage_scn, leaveBoardPage_scn, completeBoardPage_scn, reply_scn]

/-! ### The commands of the dispatcher, the router and the charge unit -/

@[simp] theorem submitJob_scn (tag : Nat) (a : JobSubmitArgs) : (s.submitJob tag a).scn = s.scn := by
  grind [State.submitJob, setJob_scn, raiseSendHold_scn, reply_scn, report_scn, State.replyOk]
@[simp] theorem cancelDest_scn (j d : Nat) : (s.cancelDest j d).scn = s.scn := by
  grind [State.cancelDest, setDest_scn, updCtx_scn]
@[simp] theorem cancelJob_scn (tag j : Nat) : (s.cancelJob tag j).scn = s.scn := by
  have cancelled (u : State) (l : List Nat) : (l.foldl (fun s d => s.cancelDest j d) u).scn = u.scn :=
    foldl_scn u (fun u d => cancelDest_scn u j d) l
  grind [State.cancelJob, reply_scn, setJob_scn, completeJob_scn]
@[simp] theorem queryJob_scn (tag j : Nat) : (s.queryJob tag j).scn = s.scn := by grind [State.queryJob, reply_scn]
@[simp] theorem dueExpires_scn (j d : Nat) : (s.dueExpires j d).scn = s.scn := by
  grind [State.dueExpires, setDest_scn, report_scn]
@[simp] theorem loadRoutes_scn (tag : Nat) (a : LoadRoutesArgs) : (s.loadRoutes tag a).scn = s.scn := by
  grind [State.loadRoutes, reply_scn, State.replyOk]
@[simp] theorem setDesk_scn (tag : Nat) (a : DeskSetArgs) : (s.setDesk tag a).scn = s.scn := by
  grind [State.setDesk, updDesk_scn, reply_scn, report_scn, State.replyOk]
@[simp] theorem creditDesk_scn (tag : Nat) (a : DeskCreditArgs) : (s.creditDesk tag a).scn = s.scn := by
  grind [State.creditDesk, updDesk_scn, reply_scn, report_scn]
@[simp] theorem closePeriods_scn (tag : Nat) (a : DeskPeriodCloseArgs) : (s.closePeriods tag a).scn = s.scn := by
  unfold State.closePeriods
  split
  · exact reply_scn ..
  · rename_i ds _
    have closed (b : Option Int) : (ds.foldl (fun s d => s.updDesk d (·.closePeriod b)) s).scn = s.scn :=
      foldl_scn s (fun u d => updDesk_scn u d _) ds
    dsimp only
    split
    · exact (reply_scn ..).trans (closed _)
    · exact (foldl_scn _ (fun u d => report_scn u _) ds).trans ((reply_scn ..).trans (closed _))
@[simp] theorem loadDialPlan_scn (tag : Nat) (a : LoadDialPlanArgs) : (s.loadDialPlan tag a).scn = s.scn := by
  grind [State.loadDialPlan, reply_scn]
@[simp] theorem loadTariffs_scn (tag : Nat) (a : LoadTariffsArgs) : (s.loadTariffs tag a).scn = s.scn := by
  grind [State.loadTariffs, reply_scn, State.replyOk]
@[simp] theorem loadBands_scn (tag : Nat) (bs : List Nat) : (s.loadBands tag bs).scn = s.scn := by
  grind [State.loadBands, reply_scn]
@[simp] theorem setClock_scn (tag : Nat) (a : SetClockArgs) : (s.setClock tag a).scn = s.scn := by
  grind [State.setClock, reply_scn]
@[simp] theorem tick_scn : s.tick.scn = s.scn := rfl
@[simp] theorem boundaryOf_scn : (s.boundaryOf n).scn = s.scn := by
  grind [State.boundaryOf, charge_scn, updCtx_scn, releaseCall_scn]

/-! ### The document commands -/

@[simp] theorem holdDoc_scn (tag d : Nat) : (s.holdDoc tag d).scn = s.scn := by
  grind [State.holdDoc, setDoc_scn, reply_scn]
@[simp] theorem releaseDoc_scn (tag d : Nat) : (s.releaseDoc tag d).scn = s.scn := by
  grind [State.releaseDoc, setDoc_scn, freeTest_scn, reply_scn]
@[simp] theorem closeByBoard_scn (tag d : Nat) : (s.closeByBoard tag d).scn = s.scn := by
  grind [State.closeByBoard, closeDoc_scn, reply_scn]
@[simp] theorem fetchPage_scn (tag : Nat) (a : DocFetchArgs) : (s.fetchPage tag a).scn = s.scn := by
  grind [State.fetchPage, acquire_scn, reply_scn]
@[simp] theorem queryDoc_scn (tag d : Nat) : (s.queryDoc tag d).scn = s.scn := by grind [State.queryDoc, reply_scn]

/-! ### The commands and events of the line channels -/

@[simp] theorem configLine_scn (tag : Nat) (a : LineConfigArgs) : (s.configLine tag a).scn = s.scn := by
  grind [State.configLine, updLine_scn, reply_scn, report_scn, State.replyOk]
@[simp] theorem enableLine_scn : (s.enableLine n).scn = s.scn := by
  grind [State.enableLine, updLine_scn, enterIdle_scn, raise_scn]
@[simp] theorem disableLine_scn : (s.disableLine n).scn = s.scn := by
  grind [State.disableLine, updLine_scn, leaveService_scn]
@[simp] theorem controlLine_scn (tag : Nat) (a : LineControlArgs) : (s.controlLine tag a).scn = s.scn := by
  grind [State.controlLine, enableLine_scn, disableLine_scn, reply_scn]
@[simp] theorem configStation_scn (tag : Nat) (a : StationConfigArgs) : (s.configStation tag a).scn = s.scn := by
  grind [State.configStation, reply_scn, State.replyOk]
@[simp] theorem meterPulse_scn : (s.meterPulse n).scn = s.scn := by
  grind [State.meterPulse, updLine_scn, updCtx_scn, chargeCall_scn]
@[simp] theorem dialToneHeard_scn : (s.dialToneHeard n).scn = s.scn := by
  grind [State.dialToneHeard, enterDialing_scn, updLine_scn, dialNext_scn]
@[simp] theorem busyToneHeard_scn : (s.busyToneHeard n).scn = s.scn := by grind [State.busyToneHeard, releaseCall_scn]
@[simp] theorem characterSent_scn : (s.characterSent n).scn = s.scn := by
  grind [State.characterSent, updLine_scn, dialNext_scn, sendProgress_scn]
@[simp] theorem paceEnds_scn : (s.paceEnds n).scn = s.scn := by grind [State.paceEnds, updLine_scn, sendProgress_scn]

/-! ### The print unit's commands -/

@[simp] theorem printDoc_scn (tag : Nat) (a : PrintDocArgs) : (s.printDoc tag a).scn = s.scn := by
  grind [State.printDoc, createEntry_scn, reply_scn, State.replyOk]
@[simp] theorem printCancel_scn (tag e : Nat) : (s.printCancel tag e).scn = s.scn := by
  grind [State.printCancel, cancelEntry_scn, reply_scn]
@[simp] theorem configPrint_scn (tag w : Nat) : (s.configPrint tag w).scn = s.scn := by
  grind [State.configPrint, updPrt_scn, reply_scn]

/-! ### The soft reset -/

@[simp] theorem softRelease_scn : (s.softRelease n).scn = s.scn := by
  grind [State.softRelease, updCtx_scn, markClock_scn, stopPhase_scn, chargeRelease_scn, completeRecord_scn]
@[simp] theorem softLineState_scn : (s.softLineState n).scn = s.scn := by grind [State.softLineState, raise_scn]

end ScanUnitStands

end Sys2Proof.Machine
end

section
/-!
PROOFS. The law that every gain lies in 64..1023 (O29). The scan unit's own operations leave the gains, a concluded
calibration installs working gains, and a hard reset loads 256.
-/

namespace Sys2Proof.Machine

set_option Elab.async false

/-! ## What keeps the gains -/

section Gains

variable (s : State)

theorem openScanPage_gain (x : ScanSession) : (s.openScanPage x).1.scn.gain = s.scn.gain := by
  have opened := openPage_scn s (x.openRequest s.scn.valid)
  unfold State.openScanPage
  split <;> rename_i u _ e
  all_goals
    have stands : u.scn = s.scn := by rw [← opened]; exact congrArg (·.1.scn) e.symm
    have gain_eq : u.scn.gain = s.scn.gain := congrArg Scn.gain stands
    exact gain_eq

theorem enterScanning_gain : s.enterScanning.scn.gain = s.scn.gain := rfl

theorem pauseScan_gain (q : ScanRequest) (g : ScanState) : (s.pauseScan q g).scn.gain = s.scn.gain := rfl

theorem updScan_gain (f : ScanSession → ScanSession) : (s.updScan f).scn.gain = s.scn.gain := rfl

theorem runFeed_gain : s.runFeed.scn.gain = s.scn.gain := by
  unfold State.runFeed
  dsimp only
  split <;> rfl

theorem feed_gain : s.feed.scn.gain = s.scn.gain := by
  grind [State.feed, openScanPage_gain, runFeed_gain, pauseScan_gain, updScan_gain]

theorem waitPaper_gain : s.waitPaper.scn.gain = s.scn.gain := by
  unfold State.waitPaper
  dsimp only
  split
  exacts [feed_gain _, rfl]

theorem endScan_gain (r : ScanReason) (close : Bool) : (s.endScan r close).scn.gain = s.scn.gain := by
  match hx : s.scn.session with
  | none => rw [State.endScan, hx]
  | some x =>
    obtain ⟨n, e⟩ := endScan_eq r close hx
    have gain_eq : (s.documentLeft x.document close).scn.gain = s.scn.gain :=
      congrArg Scn.gain (documentLeft_beside s x.document close).scn
    rw [e, raise_scn]
    exact gain_eq

theorem sheetEnded_gain : s.sheetEnded.scn.gain = s.scn.gain := by
  grind [State.sheetEnded, endScan_gain, feed_gain]

theorem pageEnded_gain (e : PageEnd) : (s.pageEnded e).scn.gain = s.scn.gain := by
  cases e <;> grind [State.pageEnded, sheetEnded_gain, endScan_gain, openScanPage_gain, enterScanning_gain, pauseScan_gain,
    updScan_gain]

theorem scanPageDone_gain (e : PageEnd) : (s.scanPageDone e).scn.gain = s.scn.gain := by
  rw [State.scanPageDone, pageEnded_gain, updScan_gain, completeCoderPage_scn]

theorem finishScanPage_gain (e : PageEnd) : (s.finishScanPage e).scn.gain = s.scn.gain := by
  grind [State.finishScanPage, padPage_scn, scanPageDone_gain, pauseScan_gain, updScan_gain]

theorem afterScanLine_gain : s.afterScanLine.scn.gain = s.scn.gain := by
  grind [State.afterScanLine, finishScanPage_gain, State.requestLine, State.updScn]

theorem takeScanLine_gain (samples : List Byte) : (s.takeScanLine samples).scn.gain = s.scn.gain := by
  grind [State.takeScanLine, State.updScn, updScan_gain, codeLine_scn, afterScanLine_gain, pauseScan_gain]

theorem resumeGrant_gain : s.resumeGrant.scn.gain = s.scn.gain := by
  grind [State.resumeGrant, State.updScn, updScan_gain, tryHeld_scn, pauseScan_gain, scanPageDone_gain, afterScanLine_gain]

theorem retryScan_gain : s.retryScan.scn.gain = s.scn.gain := by
  grind [State.retryScan, resumeGrant_gain, openScanPage_gain, updScan_gain, enterScanning_gain, runFeed_gain]

theorem configScan_gain (tag : Nat) (a : ScanConfigArgs) : (s.configScan tag a).scn.gain = s.scn.gain := by
  grind [State.configScan, State.replyOk, reply_scn, State.updScn]

theorem calibrate_gain (tag : Nat) : (s.calibrate tag).scn.gain = s.scn.gain := by
  grind [State.calibrate, reply_scn, beginCalibration_eq, Scn.darkPassBegun]

theorem scanDocument_scn (a : ScanStartArgs) : (s.scanDocument a).1.scn = s.scn := by
  grind [State.scanDocument, createDoc_scn, setDoc_scn]

theorem startSession_gain (autoCal : Bool) : (s.startSession autoCal).scn.gain = s.scn.gain := by
  grind [State.startSession, raise_scn, waitPaper_gain, beginCalibration_eq, Scn.darkPassBegun]

theorem openSession_gain (tag : Nat) (a : ScanStartArgs) (d : Nat) : (s.openSession tag a d).scn.gain = s.scn.gain := by
  unfold State.openSession
  dsimp only
  rw [State.replyOk, reply_scn, startSession_gain]
  rfl

theorem beginScan_gain (tag : Nat) (a : ScanStartArgs) : (s.beginScan tag a).scn.gain = s.scn.gain := by
  grind [State.beginScan, scanDocument_scn, createEntry_scn, openSession_gain, unbind_scn, closeDoc_scn, reply_scn]

theorem startScan_gain (tag : Nat) (a : ScanStartArgs) : (s.startScan tag a).scn.gain = s.scn.gain := by
  grind [State.startScan, beginScan_gain, reply_scn]

theorem stopScan_gain (tag : Nat) : (s.stopScan tag).scn.gain = s.scn.gain := by
  grind [State.stopScan, raise_scn, discardScanPage_scn, endScan_gain, reply_scn]

theorem jam_gain : s.jam.scn.gain = s.scn.gain := by
  grind [State.jam, discardScanPage_scn, endScan_gain]

theorem memoryWaitEnds_gain : s.memoryWaitEnds.scn.gain = s.scn.gain := by
  grind [State.memoryWaitEnds, discardScanPage_scn, endScan_gain]

theorem handle_gain (r : Report) : (s.handle r).scn.gain = s.scn.gain := by
  by_cases h : r = .memoryFreed
  · subst h
    exact retryScan_gain s
  · exact congrArg Scn.gain ((Beside.refl s).handle h).scn

theorem drain_gain (k : Nat) : (drain k s).scn.gain = s.scn.gain := by
  induction k generalizing s with
  | zero => rfl
  | succ k ih =>
    unfold drain
    split
    · rfl
    · rw [ih, handle_gain]

theorem finish_gain : s.finish.scn.gain = s.scn.gain := by
  rw [(finish_choice s).scn, drain_gain]

theorem softReset_gain (tag : Nat) : (s.softReset tag).scn.gain = s.scn.gain := by
  have released := foldl_scn s softRelease_scn allLines
  have kept : s.softBlocks.scn.gain = (allLines.foldl State.softRelease s).scn.gain := rfl
  have reset := kept.trans (congrArg Scn.gain released)
  rw [State.softReset, raise_scn, foldl_scn s.softBlocks softLineState_scn allLines, reset]

/-- A calibration concluded leaves its gains, in a session and outside one (R31, R33). -/
theorem afterConcluded_gain (dark white : List Nat) :
    (if (s.concluded dark white).scn.session.isSome then (s.concluded dark white).waitPaper
      else (s.concluded dark white).updScn fun u => { u with state := .idle }).scn.gain =
        (s.scn.conclude dark white).1.gain := by
  have installed : (s.concluded dark white).scn.gain = (s.scn.conclude dark white).1.gain :=
    congrArg Scn.gain (raise_scn ..)
  split
  · rw [waitPaper_gain, installed]
  · exact installed

/-- A calibration line leaves the gains, or concludes the calibration (R31). -/
theorem takeCalLine_gain (samples : List Byte) : (s.takeCalLine samples).scn.gain = s.scn.gain ∨
    ∃ dark white, (s.takeCalLine samples).scn.gain = (s.scn.conclude dark white).1.gain := by
  unfold State.takeCalLine
  split
  · split
    · dsimp only
      split
      · exact .inl (by split <;> rfl)
      · split
        · exact .inl rfl
        · exact .inr ⟨_, _, afterConcluded_gain s _ _⟩
    · exact .inl rfl
  · exact .inl rfl

end Gains

/-- Every gain lies in its range (R31). -/
def Scn.gainsInRange (u : Scn) : Prop := ∀ g ∈ u.gain, 64 ≤ g ∧ g ≤ 1023

theorem conclude_gainsInRange (u : Scn) (dark white : List Nat) (h : u.gainsInRange) :
    (u.conclude dark white).1.gainsInRange := by
  have tables := conclude_tables u dark white
  split at tables
  · exact tables.2.2.2
  · rw [Scn.gainsInRange, tables.2.1]; exact h

/-- From `s` to `t` the gains stay in their range. -/
def GainsKept (s t : State) : Prop := s.scn.gainsInRange → t.scn.gainsInRange

namespace GainsKept

variable {s t : State}

theorem of_gain (h : t.scn.gain = s.scn.gain) : GainsKept s t := by
  rw [GainsKept, Scn.gainsInRange, Scn.gainsInRange, h]
  exact id

section Commands

variable {f : State → State}

theorem heed (e : s.heed f = .next t) (hf : ∀ u, GainsKept u (f u)) : GainsKept s t := by
  cases e
  split
  · exact id
  · exact fun h => of_gain (finish_gain _) (hf { s with reports := [] } h)

theorem pin {set : State → State} (e : s.pin set f = .next t) (hs : ∀ u, (set u).scn.gain = u.scn.gain)
    (hf : ∀ u, (f u).scn.gain = u.scn.gain) : GainsKept s t := by
  cases e
  split
  · exact of_gain (hs s)
  · exact of_gain (by rw [finish_gain, hf, hs])

/-- An event that leaves the gains. -/
theorem heed_gain (e : s.heed f = .next t) (hf : ∀ u, (f u).scn.gain = u.scn.gain) : GainsKept s t :=
  heed e fun u => of_gain (hf u)

/-- An event that leaves the scan unit. -/
theorem heed_scn (e : s.heed f = .next t) (hf : ∀ u, (f u).scn = u.scn) : GainsKept s t :=
  heed_gain e fun u => congrArg Scn.gain (hf u)

theorem command_scn (e : s.command f = .next t) (hf : ∀ u, (f u).scn = u.scn) : GainsKept s t :=
  heed_scn e fun _ => hf _

variable {α : Type} {tag code : Nat} {a : Args α} {g : α → State → State}

theorem args_gain (e : s.commandArgs tag code a g = .next t) (hg : ∀ x u, (g x u).scn.gain = u.scn.gain) :
    GainsKept s t := by
  unfold State.commandArgs State.command at e
  refine heed_gain e fun u => ?_
  cases a
  exacts [hg _ _, congrArg Scn.gain (reply_scn ..)]

theorem args_scn (e : s.commandArgs tag code a g = .next t) (hg : ∀ x u, (g x u).scn = u.scn) : GainsKept s t :=
  args_gain e fun x u => congrArg Scn.gain (hg x u)

end Commands

end GainsKept

/-- Every command keeps the gains in their range (R31): CAL_LINE_TAKEN may install new ones, a hard reset has its own. -/
theorem exec_keepsGains {c : Instr} {s t : State} (e : exec c s = .next t) : GainsKept s t := by
  cases c with
  | hardReset cause =>
    cases e
    intro _ g hg
    rw [finish_gain, State.hardReset, raise_scn] at hg
    rw [List.eq_of_mem_replicate hg]
    decide
  | softReset tag a => rw [exec_softReset] at e; exact .args_gain e fun _ _ => softReset_gain ..
  | badBlock tag => rw [exec_badBlock] at e; exact .command_scn e fun _ => reply_scn ..
  | blockLengthDiscard type tag hi lo => rw [exec_blockLengthDiscard] at e; exact .heed_scn e fun _ => updBli_scn ..
  | unknownCommand tag code => rw [exec_unknownCommand] at e; exact .command_scn e fun _ => reply_scn ..
  | blockSent => rw [exec_blockSent] at e; exact .heed_scn e fun _ => blockSent_scn ..
  | reportTimerExpiry => rw [exec_reportTimerExpiry] at e; exact .heed_scn e fun _ => reportExpires_scn ..
  | docHold tag a => rw [exec_docHold] at e; exact .args_scn e fun _ _ => holdDoc_scn ..
  | docRelease tag a => rw [exec_docRelease] at e; exact .args_scn e fun _ _ => releaseDoc_scn ..
  | docClose tag a => rw [exec_docClose] at e; exact .args_scn e fun _ _ => closeByBoard_scn ..
  | docFetch tag a => rw [exec_docFetch] at e; exact .args_scn e fun _ _ => fetchPage_scn ..
  | docQuery tag a => rw [exec_docQuery] at e; exact .args_scn e fun _ _ => queryDoc_scn ..
  | calibrate tag a => rw [exec_calibrate] at e; exact .args_gain e fun _ _ => calibrate_gain ..
  | scanStart tag a => rw [exec_scanStart] at e; exact .args_gain e fun _ _ => startScan_gain ..
  | scanStop tag a => rw [exec_scanStop] at e; exact .args_gain e fun _ _ => stopScan_gain ..
  | scanConfig tag a => rw [exec_scanConfig] at e; exact .args_gain e fun _ _ => configScan_gain ..
  | loadCodeSet tag a => rw [exec_loadCodeSet] at e; exact .args_scn e fun _ _ => loadCodeSet_scn ..
  | boardPageBegin tag a => rw [exec_boardPageBegin] at e; exact .args_scn e fun _ _ => beginBoardPage_scn ..
  | boardPageEnd tag a => rw [exec_boardPageEnd] at e; exact .args_scn e fun _ _ => endBoardPage_scn ..
  | coderConfig tag a => rw [exec_coderConfig] at e; exact .args_scn e fun _ _ => configCoder_scn ..
  | docLines tag body => rw [exec_docLines] at e; exact .command_scn e fun _ => docLines_scn ..
  | lineConfig tag a => rw [exec_lineConfig] at e; exact .args_scn e fun _ _ => configLine_scn ..
  | lineControl tag a => rw [exec_lineControl] at e; exact .args_scn e fun _ _ => controlLine_scn ..
  | stationConfig tag a => rw [exec_stationConfig] at e; exact .args_scn e fun _ _ => configStation_scn ..
  | jobSubmit tag a => rw [exec_jobSubmit] at e; exact .args_scn e fun _ _ => submitJob_scn ..
  | jobCancel tag a => rw [exec_jobCancel] at e; exact .args_scn e fun _ _ => cancelJob_scn ..
  | jobQuery tag a => rw [exec_jobQuery] at e; exact .args_scn e fun _ _ => queryJob_scn ..
  | loadRoutes tag a => rw [exec_loadRoutes] at e; exact .args_scn e fun _ _ => loadRoutes_scn ..
  | printDoc tag a => rw [exec_printDoc] at e; exact .args_scn e fun _ _ => printDoc_scn ..
  | printCancel tag a => rw [exec_printCancel] at e; exact .args_scn e fun _ _ => printCancel_scn ..
  | printConfig tag a => rw [exec_printConfig] at e; exact .args_scn e fun _ _ => configPrint_scn ..
  | deskSet tag a => rw [exec_deskSet] at e; exact .args_scn e fun _ _ => setDesk_scn ..
  | deskCredit tag a => rw [exec_deskCredit] at e; exact .args_scn e fun _ _ => creditDesk_scn ..
  | deskPeriodClose tag a => rw [exec_deskPeriodClose] at e; exact .args_scn e fun _ _ => closePeriods_scn ..
  | loadDialPlan tag a => rw [exec_loadDialPlan] at e; exact .args_scn e fun _ _ => loadDialPlan_scn ..
  | loadTariffs tag a => rw [exec_loadTariffs] at e; exact .args_scn e fun _ _ => loadTariffs_scn ..
  | loadBands tag a => rw [exec_loadBands] at e; exact .args_scn e fun _ _ => loadBands_scn ..
  | setClock tag a => rw [exec_setClock] at e; exact .args_scn e fun _ _ => setClock_scn ..
  | noticeMask tag a => rw [exec_noticeMask] at e; exact .args_scn e fun _ _ => setMask_scn ..
  | reportMode tag a => rw [exec_reportMode] at e; exact .args_scn e fun _ _ => setReportMode_scn ..
  | statusQuery tag a => rw [exec_statusQuery] at e; exact .args_scn e fun _ _ => queryStatus_scn ..
  | startAck tag a => rw [exec_startAck] at e; exact .args_scn e fun _ _ => ackStart_scn ..
  | clockTick => rw [exec_clockTick] at e; exact .heed_scn e fun _ => tick_scn ..
  | dispatcherTimeTick => rw [exec_dispatcherTimeTick] at e; exact .heed_scn e fun _ => rfl
  | trayPaperSensorActive level =>
    rw [exec_trayPaperSensorActive] at e
    refine .pin e (fun _ => rfl) fun u => ?_
    split
    · split
      exacts [feed_gain u, rfl]
    · rfl
  | edgeSensorActive level =>
    rw [exec_edgeSensorActive] at e
    refine .pin e (fun _ => rfl) fun u => ?_
    split
    · split
      · split
        exacts [rfl, feed_gain u]
      · rfl
    · rfl
  | calLineTaken samples =>
    rw [exec_calLineTaken] at e
    refine .heed e fun u h => ?_
    rcases takeCalLine_gain u samples with same | ⟨dark, white, concluded⟩
    · exact GainsKept.of_gain same h
    · rw [Scn.gainsInRange, concluded]
      exact conclude_gainsInRange u.scn dark white h
  | scanLineTaken samples => rw [exec_scanLineTaken] at e; exact .heed_gain e fun _ => takeScanLine_gain ..
  | jamTimerExpiry => rw [exec_jamTimerExpiry] at e; exact .heed_gain e fun _ => jam_gain ..
  | memoryWaitExpiry => rw [exec_memoryWaitExpiry] at e; exact .heed_gain e fun _ => memoryWaitEnds_gain ..
  | ringInputChange n level => rw [exec_ringInputChange] at e; exact .pin e (fun _ => rfl) fun _ => rfl
  | ringBurstQualified n => rw [exec_ringBurstQualified] at e; exact .heed_scn e fun _ => by split; exacts [burst_scn .., rfl]
  | ringGapExpiry n => rw [exec_ringGapExpiry] at e; exact .heed_scn e fun _ => by split; exacts [abandonRinging_scn .., rfl]
  | loopCheck n current => rw [exec_loopCheck] at e; exact .heed_scn e fun _ => checkLoop_scn ..
  | meterInputChange n level => rw [exec_meterInputChange] at e; exact .pin e (fun _ => rfl) fun _ => rfl
  | meterPulseQualified n => rw [exec_meterPulseQualified] at e; exact .heed_scn e fun _ => meterPulse_scn ..
  | dialTone n => rw [exec_dialTone] at e; exact .heed_scn e fun _ => dialToneHeard_scn ..
  | busyTone n => rw [exec_busyTone] at e; exact .heed_scn e fun _ => busyToneHeard_scn ..
  | farAnswer n => rw [exec_farAnswer] at e; exact .heed_scn e fun _ => by split; exacts [farEndAnswers_scn .., rfl]
  | dialToneWaitExpiry n => rw [exec_dialToneWaitExpiry] at e; exact .heed_scn e fun _ => by split; exacts [releaseCall_scn .., rfl]
  | pauseExpiry n => rw [exec_pauseExpiry] at e; exact .heed_scn e fun _ => by split; exacts [(dialNext_scn ..).trans (updLine_scn ..), rfl]
  | answerWaitExpiry n => rw [exec_answerWaitExpiry] at e; exact .heed_scn e fun _ => by split; exacts [releaseCall_scn .., rfl]
  | pumpCharacterSent n => rw [exec_pumpCharacterSent] at e; exact .heed_scn e fun _ => characterSent_scn ..
  | dataCharacterReceived n b marked => rw [exec_dataCharacterReceived] at e; exact .heed_scn e fun _ => takeData_scn ..
  | dataReady n => rw [exec_dataReady] at e; exact .heed_scn e fun _ => phaseReady_scn ..
  | trainFail n => rw [exec_trainFail] at e; exact .heed_scn e fun _ => phaseFails_scn ..
  | carrierLost n => rw [exec_carrierLost] at e; exact .heed_scn e fun _ => loseCarrier_scn ..
  | frameBegin n => rw [exec_frameBegin] at e; exact .heed_scn e fun _ => openFrame_scn ..
  | offer n f => rw [exec_offer] at e; exact .heed_scn e fun _ => deliver_scn ..
  | choose n f => rw [exec_choose] at e; exact .heed_scn e fun _ => deliver_scn ..
  | accept n => rw [exec_accept] at e; exact .heed_scn e fun _ => deliver_scn ..
  | decline n r => rw [exec_decline] at e; exact .heed_scn e fun _ => deliver_scn ..
  | pageHead n m a st => rw [exec_pageHead] at e; exact .heed_scn e fun _ => deliver_scn ..
  | pageTail n l b c => rw [exec_pageTail] at e; exact .heed_scn e fun _ => deliver_scn ..
  | pageAck n m v b => rw [exec_pageAck] at e; exact .heed_scn e fun _ => deliver_scn ..
  | endFrame n p => rw [exec_endFrame] at e; exact .heed_scn e fun _ => deliver_scn ..
  | endAck n => rw [exec_endAck] at e; exact .heed_scn e fun _ => deliver_scn ..
  | frameReplyExpiry n => rw [exec_frameReplyExpiry] at e; exact .heed_scn e fun _ => replyExpires_scn ..
  | releaseGuardExpiry n => rw [exec_releaseGuardExpiry] at e; exact .heed_scn e fun _ => by split; exacts [guardEnds_scn .., rfl]
  | dueTimerExpiry j d => rw [exec_dueTimerExpiry] at e; exact .heed_scn e fun _ => dueExpires_scn ..
  | stepBoundary n => rw [exec_stepBoundary] at e; exact .heed_scn e fun _ => boundaryOf_scn ..
  | paperPresentChange level => rw [exec_paperPresentChange] at e; exact .pin e (fun _ => rfl) fun _ => congrArg Scn.gain (paperChange_scn ..)
  | engineReady level => rw [exec_engineReady] at e; exact .pin e (fun _ => rfl) fun _ => rfl
  | lineTaken => rw [exec_lineTaken] at e; exact .heed_scn e fun _ => takePrintLine_scn ..
  | printLineDecoded => rw [exec_printLineDecoded] at e; exact .heed_scn e fun _ => decodePrintLine_scn ..
  | cutDone => rw [exec_cutDone] at e; exact .heed_scn e fun _ => cutFinished_scn ..
  | resetPinAsserted => rw [exec_resetPinAsserted] at e; cases e; exact id
  | frameEnd n => rw [exec_frameEnd] at e; exact .heed_scn e fun _ => closeFrame_scn ..
  | paceIntervalExpiry n => rw [exec_paceIntervalExpiry] at e; exact .heed_scn e fun _ => paceEnds_scn ..

theorem step_keepsGains {s t : State} (e : step s = .next t) : GainsKept s t := by
  unfold step at e
  split at e
  · cases e
    exact id
  · have kept := exec_keepsGains e
    exact kept

theorem clampNat_eq {x lo hi : Nat} (h : lo ≤ hi) : clampNat x lo hi = max lo (min x hi) := by
  unfold clampNat
  split
  · omega
  · split <;> omega

/-- Settles O29: a calibration that is concluded is the one event that replaces the gains, a hard reset apart. -/
theorem workingGainFollowsR31 : Obligations.WorkingGainFollowsR31 := by
  refine ⟨fun target white dark => ⟨fun h => if_pos h, fun h => if_neg (Nat.not_lt.2 h), workingGain_bounds target white dark⟩,
    fun x lo hi => clampNat_eq, fun s t h e => step_keepsGains e h, fun g hg => ?_⟩
  rw [List.eq_of_mem_replicate hg]
  decide

end Sys2Proof.Machine
end

section
/-!
PROOFS. The line coder at the resets and its code sets (O5, O25). Each command has an equation per
outcome; `command_onlyAnswered` and `commandArgs_onlyAnswered` say what an answer leaves unchanged.
-/

namespace Sys2Proof.Machine

set_option Elab.async false

/-! ## The resets (R63) -/

namespace Beside

variable {s₀ s : State} {n : LineNo}

theorem charge {m : Bool} {c : Int} (h : Beside s₀ s) : Beside s₀ (s.charge n m c).1 := by
  unfold State.charge
  dsimp only
  split
  exacts [h.updDesk.updCtx, h.updDesk.updDesk.updCtx]

theorem topUp {c : Int} (k : Nat) (h : Beside s₀ s) : Beside s₀ (topUp n c k s) := by
  induction k generalizing s with
  | zero => exact h
  | succ k ih => exact ih h.charge.updCtx

theorem chargeRelease (h : Beside s₀ s) : Beside s₀ (s.chargeRelease n) := by
  unfold State.chargeRelease
  dsimp only
  split
  exacts [h.updCtx.topUp _, h.updCtx]

theorem completeRecord (h : Beside s₀ s) : Beside s₀ (s.completeRecord n) := by
  have setChg {q : Chg} : Beside s₀ { s with chg := q } := h.quiet
  unfold State.completeRecord
  dsimp only
  split
  · split
    exacts [setChg.countCall.updDesk.updDesk, setChg.updDesk.updDesk]
  · split
    exacts [setChg.countCall.updDesk, setChg.updDesk]

theorem stopPhase (h : Beside s₀ s) : Beside s₀ (s.stopPhase n) := by
  unfold State.stopPhase
  split
  exacts [h, h.quiet]

theorem softRelease (h : Beside s₀ s) : Beside s₀ (s.softRelease n) := by
  unfold State.softRelease
  split
  exacts [h.updCtx.markClock.stopPhase.chargeRelease.completeRecord, h]

theorem softLineState (h : Beside s₀ s) : Beside s₀ (s.softLineState n) := by
  unfold State.softLineState
  split
  exacts [h, h.raise]

end Beside

/-- The line coder keeps its slots and its configuration alone (R63). -/
theorem softBlocks_lcd (s : State) : s.softBlocks.lcd = { slots := s.lcd.slots, config := s.lcd.config } := by
  have calls : (allLines.foldl State.softRelease s).lcd = s.lcd :=
    ((Beside.refl s).foldl allLines fun _ _ ht => ht.softRelease).lcd
  rw [← calls]
  rfl

theorem softReset_lcd (s : State) (tag : Nat) :
    (s.softReset tag).lcd = { slots := s.lcd.slots, config := s.lcd.config } :=
  ((Beside.refl s.softBlocks).foldl allLines fun _ _ ht => ht.softLineState).raise.lcd.trans (softBlocks_lcd s)

theorem softReset_reports (s : State) (tag : Nat) : (s.softReset tag).reports = [] := by
  have stays (t : State) (n : LineNo) : (t.softLineState n).reports = t.reports := by
    unfold State.softLineState
    split
    exacts [rfl, raise_reports ..]
  rw [State.softReset, raise_reports]
  exact List.foldlRecOn (motive := fun t : State => t.reports = []) allLines _ rfl fun t ht n _ => (stays t n).trans ht

theorem hardReset_lcd (s : State) (cause : HardCause) : (s.hardReset cause).lcd = {} := raise_lcd ..

theorem hardReset_reports (s : State) (cause : HardCause) : (s.hardReset cause).reports = [] := raise_reports ..

theorem NothingButChoice.lcd {s t : State} (h : NothingButChoice s t) : t.lcd = s.lcd := by
  obtain ⟨-, -, -, -, same, -⟩ := h
  rw [same]

theorem finish_lcd {s : State} (h : s.reports = []) : s.finish.lcd = s.lcd := (finish_nothingButChoice s h).lcd

/-- A DATA block that leaves the state `u` but for its reply is answered, and from `u` nothing else changes. -/
theorem command_onlyAnswered {s u : State} {f : State → State} {tag code : Nat} {r : ResultCode} {c : Nat} {b : ReplyBody}
    (h : s.inReset = false) (hf : f s.heeded = u.heeded.reply tag code r c b) :
    ∃ t, s.command f = .next t ∧ OnlyAnswered u t (u.replyNow tag code r c b) :=
  ⟨_, (command_of_heeds s f h).trans (congrArg (fun v : State => Host.Outcome.next v.finish) hf),
    heeded_reply_onlyAnswered u tag code r c b⟩

theorem docLines_idle {s : State} (tag : Nat) (body : List Byte) (h : s.lcd.mode = .idle) :
    s.docLines tag body = s.reply tag 36 .state := by
  simp [State.docLines, h]

theorem endBoardPage_idle {s : State} (tag : Nat) (abandon : Bool) (h : s.lcd.mode = .idle) :
    s.endBoardPage tag abandon = s.reply tag 12 .state := by
  simp [State.endBoardPage, h]

/-- Settles O5: the blocks' values at each reset, past the calls' records and the notices. -/
theorem lineCoderAtResets : Obligations.LineCoderAtResets := by
  refine ⟨fun s tag h => ?_, fun s cause => ?_, fun s tag body abandon h hi => ⟨?_, ?_⟩⟩
  · have coder : (s.heeded.softReset tag).finish.lcd = { slots := s.lcd.slots, config := s.lcd.config } :=
      (finish_lcd (softReset_reports _ tag)).trans (softReset_lcd s.heeded tag)
    have next : exec (.softReset tag (.fields ())) s = .next (s.heeded.softReset tag).finish :=
      commandArgs_fields s tag 34 () (fun _ s => s.softReset tag) h
    refine ⟨_, next, ?_⟩
    rw [coder]
    exact ⟨rfl, rfl, rfl, rfl, rfl, rfl, rfl, rfl⟩
  · have coder : (s.hardReset cause).finish.lcd = {} :=
      (finish_lcd (hardReset_reports s cause)).trans (hardReset_lcd s cause)
    refine ⟨_, exec_hardReset cause s, ?_⟩
    rw [State.codeSet, State.codeSet, coder]
    exact ⟨rfl, rfl, rfl, rfl, rfl, rfl, rfl, rfl, rfl⟩
  · rw [exec_docLines]
    exact command_onlyAnswered h (docLines_idle (s := s.heeded) tag body hi)
  · rw [exec_boardPageEnd]
    exact commandArgs_onlyAnswered h (endBoardPage_idle (s := s.heeded) tag abandon hi)

/-! ## LOAD_CODE_SET (R51, R52) -/

theorem codeSetOf_sound {number : Nat} {words : List Bits} (hl : words.length = 193)
    (hf : (codeSetOf number words).prefixFree = true) : (codeSetOf number words).sound := by
  refine ⟨?_, ?_, ?_, ?_, hf⟩ <;> simp [codeSetOf, hl]

/-- The prefix checks of R51 fail exactly where a load has a word to name. -/
theorem fault_eq_none (c : CodeSet) : c.fault = none ↔ c.prefixFree = true := by
  unfold CodeSet.fault CodeSet.prefixFree
  split
  · rename_i e
    simp [e]
  · rename_i e
    simp [e]

/-- The code set that a load makes (R51). -/
def loadedSet (a : LoadCodeSetArgs) : CodeSet := codeSetOf a.number (a.entries.map fun e => entryWord e.length e.bits)

/-- The other slot holds a load's code-set number (R51). -/
def State.numberHeld (s : State) (a : LoadCodeSetArgs) : Prop := ∃ o, s.codeSet (1 - a.slot) = some o ∧ o.number = a.number

theorem numberHeld_iff (s : State) (a : LoadCodeSetArgs) :
    s.numberHeld a ↔ ((s.codeSet (1 - a.slot)).any fun o => o.number == a.number) = true := by
  simp [State.numberHeld, Option.any_eq_true]

section Load

variable {s : State} {a : LoadCodeSetArgs} (tag : Nat) (hslot : a.slot ≤ 1) (hcount : a.count = 193)
  (hl : a.entries.length = 193) (he : ∀ e ∈ a.entries, 1 ≤ e.length ∧ e.length ≤ 16)
include hslot hcount hl he

/-- The fields of the load are in range (R51). -/
theorem loadFields_ok : ¬(1 < a.slot ∨ a.count ≠ 193 ∨ a.entries.length ≠ 193 ∨
    (a.entries.any fun e => e.length == 0 || decide (16 < e.length)) = true) := by
  have lengths : ∀ e ∈ a.entries, ¬(e.length == 0 || decide (16 < e.length)) = true := fun e h => by
    obtain ⟨h1, h16⟩ := he e h
    simp only [Bool.or_eq_true, beq_iff_eq, decide_eq_true_eq]
    omega
  rw [List.any_eq_false.2 lengths]
  simp [hcount, hl, hslot]

theorem loadCodeSet_number (hn : s.numberHeld a) : s.loadCodeSet tag a = s.reply tag 10 .tableInvalid := by
  rw [State.loadCodeSet, if_neg (loadFields_ok hslot hcount hl he)]
  exact if_pos ((numberHeld_iff s a).1 hn)

theorem loadCodeSet_fault {b : ReplyBody} (hn : ¬s.numberHeld a) (hf : (loadedSet a).fault = some b) :
    s.loadCodeSet tag a = s.reply tag 10 .tableInvalid 0 b := by
  rw [loadedSet] at hf
  rw [State.loadCodeSet, if_neg (loadFields_ok hslot hcount hl he)]
  dsimp only
  rw [if_neg (mt (numberHeld_iff s a).2 hn), hf]

theorem loadCodeSet_inUse (hn : ¬s.numberHeld a) (hf : (loadedSet a).fault = none)
    (hu : 0 < tget s.pmm.slotUse a.slot 0 ∨ s.codecBound a.slot = true) : s.loadCodeSet tag a = s.reply tag 10 .inUse := by
  rw [loadedSet] at hf
  rw [State.loadCodeSet, if_neg (loadFields_ok hslot hcount hl he)]
  dsimp only
  rw [if_neg (mt (numberHeld_iff s a).2 hn), hf]
  exact if_pos hu

theorem loadCodeSet_installs (hn : ¬s.numberHeld a) (hf : (loadedSet a).fault = none)
    (hu : ¬(0 < tget s.pmm.slotUse a.slot 0 ∨ s.codecBound a.slot = true)) :
    s.loadCodeSet tag a =
      (s.updLcd fun l => { l with slots := tset l.slots a.slot (some (loadedSet a)) }).reply tag 10 .ok := by
  rw [loadedSet] at hf
  rw [State.loadCodeSet, if_neg (loadFields_ok hslot hcount hl he)]
  dsimp only
  rw [if_neg (mt (numberHeld_iff s a).2 hn), hf]
  exact if_neg hu

end Load

/-- Settles O25: the four outcomes of a load whose fields are in range. -/
theorem loadCodeSetInstallsOrRefuses : Obligations.LoadCodeSetInstallsOrRefuses := by
  intro s tag a h hslot hcount hl he
  rw [exec_loadCodeSet]
  refine ⟨fun hn => ?_, fun hn hp => ?_, fun hn hp hu => ?_, fun hn hp h0 hb => ?_⟩
  · exact commandArgs_onlyAnswered h (loadCodeSet_number (s := s.heeded) tag hslot hcount hl he hn)
  · obtain ⟨b, hf⟩ := Option.ne_none_iff_exists'.1 (mt (fault_eq_none (loadedSet a)).1 (Bool.eq_false_iff.1 hp))
    obtain ⟨t, next, answered⟩ := commandArgs_onlyAnswered (f := fun x s => s.loadCodeSet tag x) h
      (loadCodeSet_fault (s := s.heeded) tag hslot hcount hl he hn hf)
    exact ⟨t, b, next, hf, answered⟩
  · have hf := (fault_eq_none (loadedSet a)).2 hp
    exact commandArgs_onlyAnswered h (loadCodeSet_inUse (s := s.heeded) tag hslot hcount hl he hn hf hu)
  · have hf := (fault_eq_none (loadedSet a)).2 hp
    have unused : ¬(0 < tget s.pmm.slotUse a.slot 0 ∨ s.codecBound a.slot = true) := by simp [h0, hb]
    obtain ⟨t, next, answered⟩ := commandArgs_onlyAnswered (f := fun x s => s.loadCodeSet tag x)
      (u := s.updLcd fun l => { l with slots := tset l.slots a.slot (some (loadedSet a)) }) h
      (loadCodeSet_installs (s := s.heeded) tag hslot hcount hl he hn hf unused)
    have slots : t.lcd.slots = tset s.lcd.slots a.slot (some (loadedSet a)) := by
      obtain ⟨-, -, -, same, -⟩ := answered
      rw [same]
      rfl
    refine ⟨t, next, ?_, codeSetOf_sound (by rw [List.length_map, hl]) hp, ?_, ?_⟩
    · rw [State.codeSet, slots]
      exact tget_tset_self _ _ _ _ (by omega)
    · rw [slots]
      exact answered
    · rw [State.codeSet, slots]
      exact tget_tset_ne _ _ _ _ _ (by omega)

end Sys2Proof.Machine
end

section
/-!
PROOFS. Run coding (O14, O15). A code set's words are told apart as they are read bit by bit, so a decoder reads back the
words of a run, the runs of a line and the lines of a page: one lemma per level, in that order.
-/

namespace Sys2Proof.Machine

set_option Elab.async false

/-! ## The words of a sound code set (R51) -/

/-- The words of a colour in load order: those that a decoder tells apart while the colour's table is current. -/
def CodeSet.words (c : CodeSet) (black : Bool) : List Bits := c.term black ++ c.bulk black

theorem wordsConflict_eq_false {a b : Bits} : wordsConflict a b = false ↔ ¬a <+: b ∧ ¬b <+: a := by
  simp [wordsConflict, ← Bool.not_eq_true]

/-- Where the prefix checks find no fault, no word conflicts with the mark word or with a word before it (R51). -/
theorem firstConflict_eq_none {mark : Bits} {before ws : List Bits} {i : Nat}
    (h : firstConflict mark before ws i = none) (hb : before.Pairwise fun v w => wordsConflict w v = false) :
    (∀ wd ∈ ws, wordsConflict mark wd = false) ∧ (before ++ ws).Pairwise fun v w => wordsConflict w v = false := by
  induction ws generalizing before i with
  | nil => simpa using hb
  | cons wd ws ih =>
    unfold firstConflict at h
    split at h
    · cases h
    · rename_i hc
      simp only [Bool.or_eq_true, List.any_eq_true, not_or, not_exists, not_and, Bool.not_eq_true] at hc
      obtain ⟨hm, hw⟩ := hc
      have further : (before ++ [wd]).Pairwise fun v w => wordsConflict w v = false :=
        List.pairwise_append.2 ⟨hb, List.pairwise_singleton _ _, fun v hv w h => List.mem_singleton.1 h ▸ hw v hv⟩
      obtain ⟨marks, pairs⟩ := ih h further
      rw [List.append_assoc] at pairs
      exact ⟨List.forall_mem_cons.2 ⟨hm, marks⟩, pairs⟩

namespace CodeSet.sound

variable {c : CodeSet} (h : c.sound) (black : Bool)
include h

theorem term_length : (c.term black).length = 32 := by
  obtain ⟨hw, hb, -⟩ := h
  cases black
  exacts [hw, hb]

theorem bulk_length : (c.bulk black).length = 64 := by
  obtain ⟨-, -, hw, hb, -⟩ := h
  cases black
  exacts [hw, hb]

theorem checked : (∀ wd ∈ c.words black, wordsConflict c.mark wd = false) ∧
    (c.words black).Pairwise fun v w => wordsConflict w v = false := by
  obtain ⟨-, -, -, -, free⟩ := h
  simp only [CodeSet.prefixFree, Bool.and_eq_true, Option.isNone_iff_eq_none] at free
  cases black
  exacts [firstConflict_eq_none free.1 .nil, firstConflict_eq_none free.2 .nil]

/-- No word is a prefix of the mark word, nor the mark word of any. -/
theorem mark_apart {black : Bool} {wd : Bits} (hw : wd ∈ c.words black) : ¬c.mark <+: wd ∧ ¬wd <+: c.mark :=
  wordsConflict_eq_false.1 ((h.checked black).1 wd hw)

/-- A word is a prefix of no other of its colour. -/
theorem eq_of_prefix {black : Bool} {v wd : Bits} (hv : v ∈ c.words black) (hw : wd ∈ c.words black) (hp : v <+: wd) :
    v = wd := by
  have apart := List.pairwise_iff_getElem.1 (h.checked black).2
  obtain ⟨i, hi, rfl⟩ := List.getElem_of_mem hv
  obtain ⟨j, hj, rfl⟩ := List.getElem_of_mem hw
  rcases lt_trichotomy i j with hlt | rfl | hgt
  · exact absurd hp (wordsConflict_eq_false.1 (apart i j hi hj hlt)).2
  · rfl
  · exact absurd hp (wordsConflict_eq_false.1 (apart j i hj hi hgt)).1

theorem words_nodup : (c.words black).Nodup :=
  (h.checked black).2.imp (S := (· ≠ ·)) fun apart e => (wordsConflict_eq_false.1 apart).1 (e ▸ List.prefix_rfl)

theorem word_ne_nil {black : Bool} {wd : Bits} (hw : wd ∈ c.words black) : wd ≠ [] := by
  rintro rfl
  exact (h.mark_apart hw).2 List.nil_prefix

theorem mark_ne_nil : c.mark ≠ [] := by
  intro e
  have first : (c.term false)[0]'(by simp [h.term_length]) ∈ c.words false := List.mem_append_left _ (List.getElem_mem _)
  exact (h.mark_apart first).1 (e ▸ List.nil_prefix)

end CodeSet.sound

/-! ## The words of a run (R54) -/

section RunWords

variable {c : CodeSet} (h : c.sound) (black : Bool)
include h

theorem runWord_short {r : Nat} (hr : r < 32) : (c.term black)[r]? = some (c.runWord black r) := by
  have hl : r < (c.term black).length := by rw [h.term_length]; exact hr
  rw [CodeSet.runWord, if_neg (by omega), List.getD_eq_getElem _ _ hl, List.getElem?_eq_getElem hl]

theorem runWord_long {r : Nat} (hr : 32 ≤ r) (hw : r ≤ 2048) :
    ∃ b t, (c.bulk black)[r / 32 - 1]? = some b ∧ (c.term black)[r % 32]? = some t ∧ c.runWord black r = b ++ t := by
  have hb : r / 32 - 1 < (c.bulk black).length := by rw [h.bulk_length]; omega
  have ht : r % 32 < (c.term black).length := by rw [h.term_length]; omega
  refine ⟨_, _, List.getElem?_eq_getElem hb, List.getElem?_eq_getElem ht, ?_⟩
  rw [CodeSet.runWord, if_pos hr, List.getD_eq_getElem _ _ hb, List.getD_eq_getElem _ _ ht]

end RunWords

/-- Settles O15: the split of a run at 32, and its multiples of 32 as a case of it. -/
theorem runsAreWrittenFromTheirTable : Obligations.RunsAreWrittenFromTheirTable := by
  refine fun c black h => ⟨fun r => runWord_short h black, fun r => runWord_long h black, fun k h1 h64 => ?_⟩
  have long := runWord_long h black (r := 32 * k) (by omega) (by omega)
  rwa [Nat.mul_div_cancel_left k (by decide), Nat.mul_mod_right] at long

/-! ## The runs of a line (R55) -/

/-- Runs of alternating colours, the first of the given one. -/
def alternating : Bool → List Nat → List (Bool × Nat)
  | _, [] => []
  | black, r :: rs => (black, r) :: alternating (!black) rs

theorem expandRuns_runsOf (l : PixelLine) : expandRuns (runsOf l) = l := by
  induction l with
  | nil => rfl
  | cons a l ih =>
    unfold runsOf
    split
    · rename_i d n more e
      rw [e] at ih
      split
      · subst d
        simpa [expandRuns, List.replicate_succ] using ih
      · simpa [expandRuns] using ih
    · rename_i e
      rw [e] at ih
      simpa [expandRuns] using ih

theorem runsOf_pos (l : PixelLine) : ∀ r ∈ runsOf l, 0 < r.2 := by
  induction l with
  | nil => exact fun r hr => absurd hr List.not_mem_nil
  | cons a l ih =>
    unfold runsOf
    split
    · rename_i d n more e
      rw [e] at ih
      obtain ⟨-, later⟩ := List.forall_mem_cons.1 ih
      split
      exacts [List.forall_mem_cons.2 ⟨Nat.succ_pos n, later⟩, List.forall_mem_cons.2 ⟨Nat.one_pos, ih⟩]
    · simp

/-- Neighbouring runs differ in colour. -/
theorem alternating_runsOf {l : PixelLine} {a : Bool} {n : Nat} {more : List (Bool × Nat)}
    (e : runsOf l = (a, n) :: more) : alternating (!a) (more.map Prod.snd) = more := by
  induction l generalizing a n more with
  | nil => cases e
  | cons b l ih =>
    unfold runsOf at e
    split at e
    · rename_i d k rest e'
      split at e
      · cases e
        exact ih e'
      · rename_i hne
        cases e
        have hd : (!b) = d := by cases b <;> cases d <;> simp_all
        rw [List.map_cons, alternating, hd, ih e']
    · cases e
      rfl

theorem alternating_lineRuns (l : PixelLine) :
    alternating false (lineRuns l) = runsOf l ∨ alternating false (lineRuns l) = (false, 0) :: runsOf l := by
  unfold lineRuns
  split
  · rename_i n more e
    right
    rw [alternating, alternating, e]
    exact congrArg (fun x => (false, 0) :: (true, n) :: x) (alternating_runsOf e)
  · rename_i hne
    left
    match e : runsOf l with
    | [] => rfl
    | (true, n) :: more => exact absurd e (hne n more)
    | (false, n) :: more => exact congrArg ((false, n) :: ·) (alternating_runsOf e)

theorem expandRuns_lineRuns (l : PixelLine) : expandRuns (alternating false (lineRuns l)) = l := by
  rcases alternating_lineRuns l with e | e <;> rw [e]
  · exact expandRuns_runsOf l
  · simpa [expandRuns] using expandRuns_runsOf l

theorem alternating_map_snd (black : Bool) (rs : List Nat) : (alternating black rs).map Prod.snd = rs := by
  induction rs generalizing black with
  | nil => rfl
  | cons r rs ih => rw [alternating, List.map_cons, ih]

theorem length_expandRuns (rs : List (Bool × Nat)) : (expandRuns rs).length = (rs.map Prod.snd).sum := by
  simp [expandRuns, List.length_flatMap]

theorem lineRuns_sum (l : PixelLine) : (lineRuns l).sum = l.length := by
  have lengths := length_expandRuns (alternating false (lineRuns l))
  rwa [alternating_map_snd, expandRuns_lineRuns, eq_comm] at lengths

/-- Only the first run of a line can be empty (R55). -/
theorem lineRuns_tail_pos (l : PixelLine) : ∀ r ∈ (lineRuns l).tail, 0 < r := by
  have pos : ∀ r ∈ (runsOf l).map Prod.snd, 0 < r := List.forall_mem_map.2 (runsOf_pos l)
  rw [← alternating_map_snd false (lineRuns l)]
  rcases alternating_lineRuns l with e | e <;> rw [e]
  exacts [fun r hr => pos r (List.mem_of_mem_tail hr), pos]

theorem xorLine_xorLine (l ref : PixelLine) : xorLine (xorLine l ref) ref = l := by
  induction l, ref using xorLine.induct with
  | case1 ref => simp [xorLine]
  | case2 p ps ih => simp [xorLine, ih]
  | case3 p ps q qs ih => simp [xorLine, ih]

theorem length_xorLine (l ref : PixelLine) : (xorLine l ref).length = l.length := by
  induction l, ref using xorLine.induct with
  | case1 ref => simp [xorLine]
  | case2 p ps ih => simp [xorLine, ih]
  | case3 p ps q qs ih => simp [xorLine, ih]

/-! ## Reading a word (R64) -/

/-- Bits that may still begin the mark word are all kept in the search. -/
theorem huntTail_of_prefix {mark p : Bits} (hp : p <+: mark) : huntTail mark p = p := by
  cases p with
  | nil => rfl
  | cons b bs => exact if_pos (List.isPrefixOf_iff_prefix.2 hp)

/-- The mark word is found at its last bit (R64). -/
theorem events_mark (c : CodeSet) (diff : Bool) (w : Nat) (p q rest : Bits) (hq : q ≠ []) (e : p ++ q = c.mark) :
    Dec.events c diff w { buf := p } (q ++ rest) = .found :: Dec.events c diff w (Dec.afterMark diff) rest := by
  induction q generalizing p with
  | nil => exact absurd rfl hq
  | cons b q ih =>
    rw [List.append_cons] at e
    have kept : huntTail c.mark (p ++ [b]) = p ++ [b] := huntTail_of_prefix ⟨q, e⟩
    rw [List.cons_append, Dec.events]
    by_cases hn : q = []
    · subst hn
      rw [List.append_nil] at e
      have found : Dec.bit c diff w { buf := p } b = (Dec.afterMark diff, [.found]) := if_pos (kept.trans e)
      rw [found]
      rfl
    · have more : p ++ [b] ≠ c.mark := fun eq => hn (by simpa [eq] using e)
      have stays : Dec.bit c diff w { buf := p } b = ({ buf := p ++ [b] }, []) := by simp [Dec.bit, kept, more]
      rw [stays]
      exact ih (p ++ [b]) hn e

section Words

variable {c : CodeSet} (h : c.sound) (diff : Bool) (w : Nat) {black : Bool} {wd : Bits} (hw : wd ∈ c.words black)
include h hw

/-- Before its last bit a word is neither the mark word nor another word. -/
theorem runBit_inside {d : Dec} (hd : d.black = black) (hp : d.buf <+: wd) (hne : d.buf ≠ wd) :
    Dec.runBit c diff w d = (d, []) := by
  subst hd
  have no_mark : d.buf ≠ c.mark := fun e => (h.mark_apart hw).1 (e ▸ hp)
  have no_word {v : Bits} (hv : v ∈ c.words d.black) : (v == d.buf) = false :=
    beq_eq_false_iff_ne.2 fun e => hne (e ▸ h.eq_of_prefix hv hw (e ▸ hp))
  have no_term : (c.term d.black).findIdx? (· == d.buf) = none :=
    List.findIdx?_eq_none_iff.2 fun v hv => no_word (List.mem_append_left _ hv)
  have no_bulk : (c.bulk d.black).findIdx? (· == d.buf) = none :=
    List.findIdx?_eq_none_iff.2 fun v hv => no_word (List.mem_append_right _ hv)
  have begins : ((c.term d.black).any (d.buf.isPrefixOf ·) || (c.bulk d.black).any (d.buf.isPrefixOf ·)) = true := by
    rw [← List.any_append]
    exact List.any_eq_true.2 ⟨wd, hw, List.isPrefixOf_iff_prefix.2 hp⟩
  unfold Dec.runBit
  rw [if_neg no_mark, no_term, no_bulk]
  dsimp only
  rw [Bool.or_assoc, begins, Bool.or_true, if_pos rfl]

/-- A word is judged at its last bit. -/
theorem events_word {d : Dec} (hd : d.black = black) (hphase : d.phase = .runs) (q rest : Bits) (hq : q ≠ [])
    (e : d.buf ++ q = wd) : Dec.events c diff w d (q ++ rest) =
      (Dec.runBit c diff w { d with buf := wd }).2 ++
        Dec.events c diff w (Dec.runBit c diff w { d with buf := wd }).1 rest := by
  induction q generalizing d with
  | nil => exact absurd rfl hq
  | cons b q ih =>
    rw [List.append_cons] at e
    have read : Dec.bit c diff w d b = Dec.runBit c diff w { d with buf := d.buf ++ [b] } := by simp [Dec.bit, hphase]
    rw [List.cons_append, Dec.events, read]
    by_cases hn : q = []
    · subst hn
      rw [List.append_nil] at e
      rw [e]
      rfl
    · have more : d.buf ++ [b] ≠ wd := fun eq => hn (by simpa [eq] using e)
      rw [runBit_inside h diff w hw (d := { d with buf := d.buf ++ [b] }) hd ⟨q, e⟩ more]
      exact ih (d := { d with buf := d.buf ++ [b] }) hd hphase hn e

end Words

/-! ## Reading the runs of a line (R64, R65) -/

theorem findIdx?_of_nodup {ws : List Bits} {i : Nat} {wd : Bits} (hn : ws.Nodup) (hi : ws[i]? = some wd) :
    ws.findIdx? (· == wd) = some i := by
  obtain ⟨hl, rfl⟩ := List.getElem?_eq_some_iff.1 hi
  refine List.findIdx?_eq_some_iff_getElem.2 ⟨hl, beq_self_eq_true _, fun j hj e => ?_⟩
  exact hj.ne ((List.Nodup.getElem_inj_iff hn).1 (beq_iff_eq.1 e))

/-- The run that a terminal word ends counts the open bulk word (R64). -/
theorem terminal_bulk {d : Dec} (w : Nat) (hb : d.bulk = none) (buf : Bits) (n t : Nat) :
    Dec.terminal w { d with buf := buf, bulk := some n } t = Dec.terminal w d (n + t) := by
  simp [Dec.terminal, hb]

section Runs

variable {c : CodeSet} (h : c.sound) (diff : Bool) (w : Nat) {d : Dec}
include h

theorem runBit_term {t : Nat} {wd : Bits} (ht : (c.term d.black)[t]? = some wd) :
    Dec.runBit c diff w { d with buf := wd } = Dec.terminal w { d with buf := wd } t := by
  have hw : wd ∈ c.words d.black := List.mem_append_left _ (List.mem_of_getElem? ht)
  have no_mark : wd ≠ c.mark := fun e => (h.mark_apart hw).1 (e ▸ List.prefix_rfl)
  unfold Dec.runBit
  rw [if_neg no_mark, findIdx?_of_nodup (List.nodup_append.1 (h.words_nodup d.black)).1 ht]

theorem runBit_bulk {k : Nat} {wd : Bits} (hk : (c.bulk d.black)[k]? = some wd) (hb : d.bulk = none) :
    Dec.runBit c diff w { d with buf := wd } = ({ d with buf := [], bulk := some (32 * (k + 1)) }, []) := by
  have hw : wd ∈ c.words d.black := List.mem_append_right _ (List.mem_of_getElem? hk)
  have no_mark : wd ≠ c.mark := fun e => (h.mark_apart hw).1 (e ▸ List.prefix_rfl)
  obtain ⟨-, bulk_nodup, apart⟩ := List.nodup_append.1 (h.words_nodup d.black)
  have no_term : (c.term d.black).findIdx? (· == wd) = none :=
    List.findIdx?_eq_none_iff.2 fun v hv => beq_eq_false_iff_ne.2 (apart v hv wd (List.mem_of_getElem? hk))
  unfold Dec.runBit
  rw [if_neg no_mark, no_term, findIdx?_of_nodup bulk_nodup hk]
  simp [hb]

/-- The words of a run are read as that run (R54, R64). -/
theorem events_runWord (hphase : d.phase = .runs) (hbuf : d.buf = []) (hbulk : d.bulk = none) {r : Nat} (hr : r ≤ 2048)
    (rest : Bits) : Dec.events c diff w d (c.runWord d.black r ++ rest) =
      (d.terminal w r).2 ++ Dec.events c diff w (d.terminal w r).1 rest := by
  by_cases hs : r < 32
  · have word := runWord_short h d.black hs
    have hw : c.runWord d.black r ∈ c.words d.black := List.mem_append_left _ (List.mem_of_getElem? word)
    rw [events_word h diff w hw rfl hphase _ rest (h.word_ne_nil hw) (by rw [hbuf]; rfl), runBit_term h diff w word]
    rfl
  · obtain ⟨b, t, hb, ht, e⟩ := runWord_long h d.black (not_lt.1 hs) hr
    have bulk_word : b ∈ c.words d.black := List.mem_append_right _ (List.mem_of_getElem? hb)
    have term_word : t ∈ c.words d.black := List.mem_append_left _ (List.mem_of_getElem? ht)
    have opened := runBit_bulk h diff w hb hbulk
    have ended := runBit_term h diff w (d := { d with buf := [], bulk := some (32 * (r / 32 - 1 + 1)) }) ht
    rw [terminal_bulk w hbulk, show 32 * (r / 32 - 1 + 1) + r % 32 = r by omega] at ended
    rw [e, List.append_assoc, events_word h diff w bulk_word rfl hphase b _ (h.word_ne_nil bulk_word) (by rw [hbuf]; rfl),
      opened, events_word h diff w term_word (d := { d with buf := [], bulk := some (32 * (r / 32 - 1 + 1)) }) rfl hphase t
      rest (h.word_ne_nil term_word) rfl, ended]
    rfl

/-- The words of a line's runs are read as a good line with those runs (R64, R65). -/
theorem events_runWords {rs : List Nat} (hphase : d.phase = .runs) (hbuf : d.buf = []) (hbulk : d.bulk = none)
    (hne : rs ≠ []) (hpos : ∀ r ∈ rs.tail, 0 < r) (hsum : d.sum + rs.sum = w) (hw : w ≤ 2048) (rest : Bits) :
    Dec.events c diff w d (c.runWords d.black rs ++ rest) =
      .good d.plain (d.runs.reverse ++ alternating d.black rs) :: Dec.events c diff w {} rest := by
  induction rs generalizing d with
  | nil => exact absurd rfl hne
  | cons r rs ih =>
    rw [List.sum_cons] at hsum
    rw [CodeSet.runWords, List.append_assoc, events_runWord h diff w hphase hbuf hbulk (by omega)]
    by_cases hn : rs = []
    · subst hn
      have last : Dec.terminal w d r = (Dec.hunting, [.good d.plain ((d.black, r) :: d.runs).reverse]) := by
        simp only [List.sum_nil] at hsum
        simp [Dec.terminal, hbulk, show d.sum + r = w from hsum]
      rw [last]
      simp [CodeSet.runWords, alternating, Dec.hunting]
    · have later : 0 < rs.sum := by
        obtain ⟨x, xs, rfl⟩ := List.exists_cons_of_ne_nil hn
        exact lt_of_lt_of_le (hpos x List.mem_cons_self) (by simp)
      have inner : Dec.terminal w d r =
          ({ d with buf := [], black := !d.black, bulk := none, sum := d.sum + r, runs := (d.black, r) :: d.runs }, []) := by
        simp [Dec.terminal, hbulk, show ¬d.sum + r = w by omega, show ¬w < d.sum + r by omega]
      rw [inner, List.nil_append]
      refine (ih (d := { d with buf := [], black := !d.black, bulk := none, sum := d.sum + r, runs := (d.black, r) :: d.runs })
        hphase rfl rfl hn (fun x hx => hpos x (List.mem_of_mem_tail hx)) (by dsimp only; omega)).trans ?_
      simp [alternating]

end Runs

/-! ## Reading the lines of a page (R64, R66) -/

section Lines

variable {c : CodeSet} (h : c.sound) {w : Nat} (h1 : 1 ≤ w) (h2 : w ≤ 2048)
include h h1 h2

/-- The runs of a line of the page's width, read as a good line of its kind. -/
theorem events_lineRuns (diff plain : Bool) {l : PixelLine} (hl : l.length = w) (rest : Bits) :
    Dec.events c diff w { phase := .runs, plain := plain } (c.runWords false (lineRuns l) ++ rest) =
      .good plain (alternating false (lineRuns l)) :: Dec.events c diff w {} rest := by
  have sum : (lineRuns l).sum = w := (lineRuns_sum l).trans hl
  have some_run : lineRuns l ≠ [] := fun e => by simp [e] at sum; omega
  exact events_runWords h diff w (d := { phase := .runs, plain := plain }) rfl rfl rfl some_run (lineRuns_tail_pos l)
    (by simpa using sum) h2 rest

/-- A coded line is found and read as a good line that gives the line back (R55, R64, R66). -/
theorem decodedLines_codeLine (coding : Coding) (i : Nat) {ref l : PixelLine} (hl : l.length = w) (rest : Bits) :
    decodedLines w ref (Dec.events c coding.isDiff w {} (c.codeLine coding i ref l ++ rest)) =
      (false, l) :: decodedLines w l (Dec.events c coding.isDiff w {} rest) := by
  have mark (diff : Bool) (bits : Bits) :
      Dec.events c diff w {} (c.mark ++ bits) = .found :: Dec.events c diff w (Dec.afterMark diff) bits :=
    events_mark c diff w [] c.mark bits h.mark_ne_nil rfl
  have tag (b : Bool) (bits : Bits) : Dec.events c true w (Dec.afterMark true) (b :: bits) =
      Dec.events c true w { phase := .runs, plain := b } bits := rfl
  cases coding with
  | plain =>
    rw [CodeSet.codeLine, List.append_assoc, Coding.isDiff, mark]
    refine (congrArg (fun es => decodedLines w ref (.found :: es)) (events_lineRuns h h1 h2 false true hl rest)).trans ?_
    simp [decodedLines, expandRuns_lineRuns]
  | diff k =>
    rw [CodeSet.codeLine, Coding.isDiff]
    split
    · rw [List.append_assoc, List.append_assoc, mark, List.singleton_append, tag, events_lineRuns h h1 h2 true true hl]
      simp [decodedLines, expandRuns_lineRuns]
    · rw [List.append_assoc, List.append_assoc, mark, List.singleton_append, tag,
        events_lineRuns h h1 h2 true false ((length_xorLine l ref).trans hl)]
      simp [decodedLines, expandRuns_lineRuns, xorLine_xorLine]

theorem decodedLines_codeLines (coding : Coding) (i : Nat) (ref : PixelLine) {lines : List PixelLine}
    (hl : ∀ l ∈ lines, l.length = w) (after : Bits) :
    ∃ more, decodedLines w ref (Dec.events c coding.isDiff w {} (c.codeLines coding i ref lines ++ after)) =
      lines.map (fun l => (false, l)) ++ more := by
  induction lines generalizing i ref with
  | nil => exact ⟨_, rfl⟩
  | cons l ls ih =>
    obtain ⟨first, others⟩ := List.forall_mem_cons.1 hl
    obtain ⟨more, e⟩ := ih (i + 1) l others
    refine ⟨more, ?_⟩
    rw [CodeSet.codeLines, List.append_assoc, decodedLines_codeLine h h1 h2 coding i first, e]
    rfl

end Lines

/-- Settles O14: line by line, each decoded line the reference of the next as it was for the coder. -/
theorem codedPagesDecodeToThemselves : Obligations.CodedPagesDecodeToThemselves := by
  intro c coding w lines after h h1 h2 hl
  obtain ⟨more, e⟩ := decodedLines_codeLines h h1 h2 coding 0 (whiteLine w) hl after
  have taken : (lines.map (fun l => (false, l)) ++ more).take lines.length = lines.map fun l => (false, l) :=
    List.take_left' (List.length_map ..)
  rw [decodePage, e, taken, missingLines]
  simp

end Sys2Proof.Machine
end

section
/-!
PROOFS. The loads of the station, the coder, the band table, the clock, the tariffs, the dial plan and the routing table
(O55). Each load has an equation per outcome; `firstRepeat` and `firstFault` name the entry that a refusal is for.
-/

namespace Sys2Proof.Machine

set_option Elab.async false

/-! ## The checks of a table (R138, R170, R171) -/

theorem firstRepeat_eq_none {α : Type} [DecidableEq α] {xs before : List α} {i : Nat} :
    firstRepeat before xs i = none ↔ xs.Nodup ∧ ∀ x ∈ xs, x ∉ before := by
  induction xs generalizing before i with
  | nil => simp [firstRepeat]
  | cons x xs ih =>
    by_cases hx : x ∈ before
    · simp [firstRepeat, hx]
    · rw [firstRepeat, if_neg (by simpa using hx), ih, List.nodup_cons, List.forall_mem_cons]
      simp only [List.mem_cons, not_or]
      constructor
      · rintro ⟨hn, hb⟩
        exact ⟨⟨fun h => (hb x h).1 rfl, hn⟩, hx, fun y hy => (hb y hy).2⟩
      · rintro ⟨⟨hm, hn⟩, -, hb⟩
        exact ⟨hn, fun y hy => ⟨fun e => hm (e ▸ hy), hb y hy⟩⟩

/-- The first key that repeats one before it: the keys before it are all different (log entry 54). -/
theorem firstRepeat_append {α : Type} [DecidableEq α] {xs ys before : List α} {x : α} {i : Nat}
    (hn : firstRepeat before xs i = none) (hx : x ∈ xs ∨ x ∈ before) :
    firstRepeat before (xs ++ x :: ys) i = some (i + xs.length) := by
  induction xs generalizing before i with
  | nil => simp [firstRepeat, hx.resolve_left List.not_mem_nil]
  | cons y xs ih =>
    unfold firstRepeat at hn
    split at hn
    · cases hn
    · rename_i hy
      rw [List.cons_append, firstRepeat, if_neg hy, ih hn (by simpa [or_assoc, or_comm, or_left_comm] using hx)]
      simp [Nat.add_comm, Nat.add_left_comm]

theorem firstFault_eq_some {α : Type} {ok : α → Bool} {xs : List α} {i : Nat} {x : α} (hi : xs[i]? = some x)
    (hx : ok x = false) (hb : ∀ j y, j < i → xs[j]? = some y → ok y = true) : firstFault ok xs = some i := by
  obtain ⟨hl, rfl⟩ := List.getElem?_eq_some_iff.1 hi
  refine List.findIdx?_eq_some_iff_getElem.2 ⟨hl, by simp [hx], fun j hj => ?_⟩
  simp [hb j _ hj (List.getElem?_eq_getElem (hj.trans hl))]

theorem all_eq_false_of_fault {α : Type} {ok : α → Bool} {xs : List α} {i : Nat} {x : α} (hi : xs[i]? = some x)
    (hx : ok x = false) : xs.all ok = false :=
  List.all_eq_false.2 ⟨x, List.mem_of_getElem? hi, by simp [hx]⟩

theorem clampNat_zero (x hi : Nat) : clampNat x 0 hi = min x hi := by rw [clampNat_eq (Nat.zero_le hi), Nat.zero_max]

/-! ## STATION_CONFIG (R75) -/

theorem tagOk_iff (t : Text) : tagOk t = true ↔ t.length ≤ 20 ∧ t.all isPrintable = true := by
  simp [tagOk]

theorem isPrintable_iff (b : Byte) : isPrintable b = true ↔ 0x20 ≤ b.toNat ∧ b.toNat ≤ 0x7E := by
  simp [isPrintable]

theorem isDigit_iff (b : Byte) : isDigit b = true ↔ 0x30 ≤ b.toNat ∧ b.toNat ≤ 0x39 := by
  simp [isDigit]

section Loads

variable {s : State} (tag : Nat)

theorem configStation_loads {a : StationConfigArgs} (h : tagOk a.tag = true) :
    s.configStation tag a =
      let k := clampedField a.keepRatio 0 63 + clampedField a.maxConsec 0 255 + clampedField a.k 1 8
      { s with station :=
        { tag := a.tag, keepRatio := min a.keepRatio 63, maxConsec := min a.maxConsec 255, k := clampNat a.k 1 8 } }.reply
        tag 16 (okCode k) k := by
  unfold State.configStation
  rw [if_neg (by simp [h])]
  simp only [replyOk_eq, clampNat_zero]

theorem configStation_badField {a : StationConfigArgs} (h : tagOk a.tag = false) :
    s.configStation tag a = s.reply tag 16 .badField := by
  simp [State.configStation, h]

/-! ## CODER_CONFIG (R53) -/

theorem configCoder_loads {a : CoderConfigArgs} (hs : a.slot ≤ 1) (hc : a.coding ≤ 1) :
    s.configCoder tag a =
      { s with lcd := { s.lcd with config := { slot := a.slot, diff := a.coding == 1, k := clampNat a.k 1 8 } } }.reply
        tag 13 (okCode (clampedField a.k 1 8)) (clampedField a.k 1 8) := by
  unfold State.configCoder
  rw [if_neg (by omega), replyOk_eq]
  rfl

theorem configCoder_badField {a : CoderConfigArgs} (h : 2 ≤ a.slot ∨ 2 ≤ a.coding) :
    s.configCoder tag a = s.reply tag 13 .badField := if_pos h

/-! ## LOAD_BANDS and SET_CLOCK (R168, R169) -/

theorem loadBands_loads {bs : List Nat} (hl : bs.length = 168) (hb : ∀ b ∈ bs, b ≤ 3) :
    s.loadBands tag bs = { s with chg := { s.chg with bands := bs } }.reply tag 29 .ok :=
  if_neg (by simpa [hl] using hb)

theorem loadBands_badField {bs : List Nat} (h : bs.length ≠ 168 ∨ ∃ b ∈ bs, 3 < b) :
    s.loadBands tag bs = s.reply tag 29 .badField :=
  if_pos (by simpa using h)

theorem setClock_loads {day time : Nat} (hd : day ≤ 6) (ht : time < 864000) :
    s.setClock tag { day := day, time := time } =
      { s with chg := { s.chg with clock := { now := { day := day, time := time }, set := true } } }.reply tag 30 .ok :=
  if_neg (by simp only [Config.dsPerDay]; omega)

theorem setClock_badField {day time : Nat} (h : 6 < day ∨ 863999 < time) :
    s.setClock tag { day := day, time := time } = s.reply tag 30 .badField :=
  if_pos (by simp only [Config.dsPerDay]; omega)

/-! ## LOAD_TARIFFS (R171) -/

theorem loadTariffs_badField {a : LoadTariffsArgs} (h : 16 < a.count ∨ a.entries.length ≠ a.count ∨ ∃ e ∈ a.entries, 16 ≤ e.id) :
    s.loadTariffs tag a = s.reply tag 28 .badField :=
  if_pos (by simpa [Config.tariffs] using h)

section InRange

variable {a : LoadTariffsArgs} (hc : a.count ≤ 16) (hl : a.entries.length = a.count) (he : ∀ e ∈ a.entries, e.id < 16)
include hc hl he

theorem tariffFields_ok : ¬(16 < a.count ∨ a.entries.length ≠ a.count ∨
    (a.entries.any fun e => decide (Config.tariffs ≤ e.id)) = true) := by
  simpa [hc, hl, Config.tariffs] using he

theorem loadTariffs_loads (hn : (a.entries.map (·.id)).Nodup) :
    s.loadTariffs tag a =
      let k := (a.entries.map tariffClamped).sum
      { s with chg := { s.chg with tariffs := tariffTable a.entries } }.reply tag 28 (okCode k) k := by
  have distinct : firstRepeat [] (a.entries.map (·.id)) 0 = none := firstRepeat_eq_none.2 ⟨hn, fun _ _ => List.not_mem_nil⟩
  rw [State.loadTariffs, if_neg (tariffFields_ok hc hl he), distinct]
  rfl

theorem loadTariffs_tableInvalid (hn : ¬(a.entries.map (·.id)).Nodup) :
    s.loadTariffs tag a = s.reply tag 28 .tableInvalid := by
  obtain ⟨i, repeated⟩ : ∃ i, firstRepeat [] (a.entries.map (·.id)) 0 = some i :=
    Option.ne_none_iff_exists'.1 fun e => hn (firstRepeat_eq_none.1 e).1
  rw [State.loadTariffs, if_neg (tariffFields_ok hc hl he), repeated]

end InRange

/-- The tariff table is filled entry by entry. -/
theorem tariffTable_cons_last (es : List TariffArgs) (e : TariffArgs) :
    tariffTable (es ++ [e]) = tset (tariffTable es) e.id (some (tariffOf e)) := by
  simp [tariffTable, List.foldl_append]

theorem tariffTable_unnamed {es : List TariffArgs} {i : Nat} (hi : i ∉ es.map (·.id)) : tget (tariffTable es) i none = none := by
  induction es using List.reverseRecOn with
  | nil => simp [tariffTable, tget]
  | append_singleton es e ih =>
    simp only [List.map_append, List.mem_append, not_or, List.map_cons, List.map_nil, List.mem_singleton] at hi
    rw [tariffTable_cons_last, tget_tset_ne _ _ _ _ _ (Ne.symm hi.2), ih hi.1]

theorem tariffTable_named {es : List TariffArgs} (hn : (es.map (·.id)).Nodup) (hr : ∀ e ∈ es, e.id < 16) :
    ∀ e ∈ es, tget (tariffTable es) e.id none = some (tariffOf e) := by
  induction es using List.reverseRecOn with
  | nil => exact fun e he => absurd he List.not_mem_nil
  | append_singleton es x ih =>
    rw [List.map_append, List.nodup_append] at hn
    obtain ⟨hn, -, apart⟩ := hn
    intro e he
    rw [tariffTable_cons_last]
    rcases List.mem_append.1 he with he | he
    · have other : e.id ≠ x.id := apart e.id (List.mem_map_of_mem he) x.id (by simp)
      rw [tget_tset_ne _ _ _ _ _ other.symm]
      exact ih hn (fun y hy => hr y (List.mem_append_left _ hy)) e he
    · obtain rfl := List.mem_singleton.1 he
      exact tget_tset_self _ _ _ _ (hr e (by simp))

theorem tariffsFollowR171 : Claims.TariffsFollowR171 := by
  refine fun e => ⟨?_, ?_⟩
  · simp [tariffOf, clampNat_eq]
  · simp only [tariffClamped, clampedField, List.countP_cons, List.countP_nil, decide_eq_true_eq, List.map_cons, List.map_nil,
      List.sum_cons, List.sum_nil]
    omega

/-! ## LOAD_DIAL_PLAN (R170) and LOAD_ROUTES (R138) -/

theorem ofCode_isSome (k : Nat) : (NumberClass.ofCode k).isSome = true ↔ k ≤ 4 := by
  match k with
  | 0 | 1 | 2 | 3 | 4 => simp [NumberClass.ofCode]
  | k + 5 => simp [NumberClass.ofCode]

theorem ruleRangesFollowR138AndR170 : Claims.RuleRangesFollowR138AndR170 := by
  refine ⟨fun r => ?_, fun r => ?_⟩
  · simp only [dialRuleOk, Bool.and_eq_true, decide_eq_true_eq, List.all_eq_true, isDigit_iff, ofCode_isSome, Config.tariffs,
      Nat.lt_succ_iff, and_assoc]
  · simp only [routeRuleOk, tagOk_iff, Bool.and_eq_true, decide_eq_true_eq, List.all_eq_true, isPrintable_iff, Config.desks,
      Nat.lt_succ_iff, and_assoc]

theorem loadDialPlan_badField {a : LoadDialPlanArgs}
    (h : 128 < a.count ∨ a.rules.length ≠ a.count ∨ a.rules.all dialRuleOk = false) :
    s.loadDialPlan tag a = s.reply tag 27 .badField 0 (faultBody (firstFault dialRuleOk a.rules)) := if_pos h

theorem loadRoutes_badField {a : LoadRoutesArgs}
    (h : 32 < a.count ∨ a.rules.length ≠ a.count ∨ a.rules.all routeRuleOk = false) :
    s.loadRoutes tag a = s.reply tag 20 .badField 0 (faultBody (firstFault routeRuleOk a.rules)) := if_pos h

theorem loadRoutes_loads {a : LoadRoutesArgs} (hc : a.count ≤ 32) (hl : a.rules.length = a.count)
    (hr : ∀ r ∈ a.rules, routeRuleOk r = true) :
    s.loadRoutes tag a =
      let k := (a.rules.map fun (r : RouteRule) => clampedField r.copies 0 3).sum
      { s with rtr := { s.rtr with table := a.rules.map fun (r : RouteRule) => { r with copies := min r.copies 3 } } }.reply
        tag 20 (okCode k) k (.ruleCount a.count) := by
  unfold State.loadRoutes
  rw [if_neg (by simp [hc, hl, List.all_eq_true.2 hr])]
  simp only [replyOk_eq, clampNat_zero]

section InRange

variable {a : LoadDialPlanArgs} (hc : a.count ≤ 128) (hl : a.rules.length = a.count)
  (hr : ∀ r ∈ a.rules, dialRuleOk r = true)
include hc hl hr

theorem loadDialPlan_loads (hn : (a.rules.map (·.digits)).Nodup) :
    s.loadDialPlan tag a =
      { s with chg := { s.chg with plan := a.rules.map dialRuleOf } }.reply tag 27 .ok 0 (.ruleCount a.count) := by
  have distinct : firstRepeat [] (a.rules.map (·.digits)) 0 = none := firstRepeat_eq_none.2 ⟨hn, fun _ _ => List.not_mem_nil⟩
  rw [State.loadDialPlan, if_neg (by simp [hc, hl, List.all_eq_true.2 hr]), distinct]

theorem loadDialPlan_tableInvalid {i : Nat} (hn : firstRepeat [] (a.rules.map (·.digits)) 0 = some i) :
    s.loadDialPlan tag a = s.reply tag 27 .tableInvalid 0 (.faultAt i) := by
  rw [State.loadDialPlan, if_neg (by simp [hc, hl, List.all_eq_true.2 hr]), hn]

end InRange

end Loads

/-! ## The loads as commands -/

theorem tablesAreReplaced_claim : Claims.TablesAreReplaced := by
  refine fun s tag h => ⟨fun a hl hp => ?_, fun a hs hc => ?_, fun bs hl hb => ?_, fun day time hd ht => ?_,
    fun a hc hl he hn => ?_⟩
  · rw [exec_stationConfig]
    exact commandArgs_onlyAnswered (u := { s with station := _ }) h
      (configStation_loads (s := s.heeded) tag ((tagOk_iff a.tag).2 ⟨hl, hp⟩))
  · rw [exec_coderConfig]
    exact commandArgs_onlyAnswered (u := { s with lcd := _ }) h (configCoder_loads (s := s.heeded) tag hs hc)
  · rw [exec_loadBands]
    exact commandArgs_onlyAnswered (u := { s with chg := _ }) h (loadBands_loads (s := s.heeded) tag hl hb)
  · rw [exec_setClock]
    exact commandArgs_onlyAnswered (u := { s with chg := _ }) h (setClock_loads (s := s.heeded) tag hd ht)
  · rw [exec_loadTariffs]
    obtain ⟨t, next, answered⟩ := commandArgs_onlyAnswered (f := fun x s => s.loadTariffs tag x)
      (u := { s with chg := { s.chg with tariffs := tariffTable a.entries } }) h
      (loadTariffs_loads (s := s.heeded) tag hc hl he hn)
    have tariffs : t.chg.tariffs = tariffTable a.entries := by
      obtain ⟨-, -, -, same, -⟩ := answered
      rw [same]
    rw [← tariffs] at answered
    refine ⟨t, next, ?_, fun i hi => ?_, answered⟩
    · rw [tariffs]
      exact tariffTable_named hn he
    · rw [tariffs]
      exact tariffTable_unnamed hi

theorem tagOk_eq_false {t : Text} (h : 20 < t.length ∨ ∃ c ∈ t, c.toNat < 0x20 ∨ 0x7E < c.toNat) : tagOk t = false := by
  rw [Bool.eq_false_iff, Ne, tagOk_iff, List.all_eq_true]
  rintro ⟨hl, hp⟩
  rcases h with h | ⟨c, hc, h⟩
  · omega
  · have printable := (isPrintable_iff c).1 (hp c hc)
    omega

theorem faultyLoadsAreRefused : Claims.FaultyLoadsAreRefused := by
  refine fun s tag h => ⟨fun a ha => ?_, fun a ha => ?_, fun bs hb => ?_, fun day time ht => ?_, fun a ha => ?_,
    fun a hc hl he hn => ?_⟩
  · rw [exec_stationConfig]
    exact commandArgs_onlyAnswered h (configStation_badField (s := s.heeded) tag (tagOk_eq_false ha))
  · rw [exec_coderConfig]
    exact commandArgs_onlyAnswered h (configCoder_badField (s := s.heeded) tag ha)
  · rw [exec_loadBands]
    exact commandArgs_onlyAnswered h (loadBands_badField (s := s.heeded) tag hb)
  · rw [exec_setClock]
    exact commandArgs_onlyAnswered h (setClock_badField (s := s.heeded) tag ht)
  · rw [exec_loadTariffs]
    exact commandArgs_onlyAnswered h (loadTariffs_badField (s := s.heeded) tag ha)
  · rw [exec_loadTariffs]
    exact commandArgs_onlyAnswered h (loadTariffs_tableInvalid (s := s.heeded) tag hc hl he hn)

/-- The rule of a list that first repeats a prefix (log entry 54). -/
theorem firstRepeat_of_digits {rules : List DialRuleArgs} {i j : Nat} {r q : DialRuleArgs} (hi : rules[i]? = some r)
    (hj : j < i) (hq : rules[j]? = some q) (he : q.digits = r.digits) (hn : ((rules.take i).map (·.digits)).Nodup) :
    firstRepeat [] (rules.map (·.digits)) 0 = some i := by
  obtain ⟨hl, rfl⟩ := List.getElem?_eq_some_iff.1 hi
  have cut : rules.map (·.digits) =
      (rules.take i).map (·.digits) ++ rules[i].digits :: (rules.drop (i + 1)).map (·.digits) := by
    rw [← List.map_cons, ← List.map_append, ← List.drop_eq_getElem_cons, List.take_append_drop]
  have earlier : rules[i].digits ∈ (rules.take i).map (·.digits) :=
    List.mem_map.2 ⟨q, List.mem_of_getElem? ((List.getElem?_take_of_lt hj).trans hq), he⟩
  have distinct : firstRepeat [] ((rules.take i).map (·.digits)) 0 = none :=
    firstRepeat_eq_none.2 ⟨hn, fun _ _ => List.not_mem_nil⟩
  rw [cut, firstRepeat_append distinct (.inl earlier)]
  simp [hl.le]

theorem ruleTablesAreReplacedWhole : Claims.RuleTablesAreReplacedWhole := by
  refine fun s tag h => ⟨fun a hc hl => ⟨fun hr hn => ?_, fun i r hr hi ⟨j, q, hj, hq, he⟩ hn => ?_, fun i r hi hr hb => ?_,
    fun hr hn => ?_⟩, fun a hc hl hr => ?_, fun a i r hc hl hi hr hb => ?_, fun a ha => ?_, fun a ha => ?_⟩
  · rw [exec_loadDialPlan]
    exact commandArgs_onlyAnswered (u := { s with chg := _ }) h (loadDialPlan_loads (s := s.heeded) tag hc hl hr hn)
  · rw [exec_loadDialPlan]
    exact commandArgs_onlyAnswered h
      (loadDialPlan_tableInvalid (s := s.heeded) tag hc hl hr (firstRepeat_of_digits hi hj hq he hn))
  · have refused := loadDialPlan_badField (s := s.heeded) tag (a := a) (.inr (.inr (all_eq_false_of_fault hi hr)))
    rw [firstFault_eq_some hi hr hb] at refused
    rw [exec_loadDialPlan]
    exact commandArgs_onlyAnswered h refused
  · obtain ⟨i, repeated⟩ : ∃ i, firstRepeat [] (a.rules.map (·.digits)) 0 = some i :=
      Option.ne_none_iff_exists'.1 fun e => hn (firstRepeat_eq_none.1 e).1
    obtain ⟨t, next, answered⟩ := commandArgs_onlyAnswered (f := fun x s => s.loadDialPlan tag x) h
      (loadDialPlan_tableInvalid (s := s.heeded) tag hc hl hr repeated)
    exact ⟨t, _, next, answered⟩
  · rw [exec_loadRoutes]
    exact commandArgs_onlyAnswered (u := { s with rtr := _ }) h (loadRoutes_loads (s := s.heeded) tag hc hl hr)
  · have refused := loadRoutes_badField (s := s.heeded) tag (a := a) (.inr (.inr (all_eq_false_of_fault hi hr)))
    rw [firstFault_eq_some hi hr hb] at refused
    rw [exec_loadRoutes]
    exact commandArgs_onlyAnswered h refused
  · obtain ⟨t, next, answered⟩ := commandArgs_onlyAnswered (f := fun x s => s.loadRoutes tag x) h
      (loadRoutes_badField (s := s.heeded) tag (a := a) (ha.imp_right .inl))
    exact ⟨t, _, next, answered⟩
  · obtain ⟨t, next, answered⟩ := commandArgs_onlyAnswered (f := fun x s => s.loadDialPlan tag x) h
      (loadDialPlan_badField (s := s.heeded) tag (a := a) (ha.imp_right .inl))
    exact ⟨t, _, next, answered⟩

/-- Settles O55: the loads of the five tables without rules, their refusals, and the two tables of rules. -/
theorem tablesAreReplaced : Obligations.TablesAreReplaced :=
  ⟨tablesAreReplaced_claim, tariffsFollowR171, faultyLoadsAreRefused, ruleRangesFollowR138AndR170,
    ruleTablesAreReplacedWhole⟩

end Sys2Proof.Machine
end

section
/-!
PROOFS. Board pages (O26). A page's bytes are stored beside the other blocks (`Beside`); each outcome of BOARD_PAGE_BEGIN,
DOC_LINES and BOARD_PAGE_END has an equation, and the reports that a page's end owes ask nothing of anybody here.
-/

namespace Sys2Proof.Machine

set_option Elab.async false

/-! ## Commands that answer -/

/-- A reply sent behind notices that the command has raised is the command's own (R184). -/
theorem Answered.of_raises {s u t : State} {tag code : Nat} {r : ResultCode} {c : Nat} {b : ReplyBody}
    (h : Answered u t (u.replyNow tag code r c b)) (k : RaisesOnly s u) : Answered s t (s.replyNow tag code r c b) := by
  rw [RaisesOnly] at k
  simp only [Answered, State.repliesOwed, State.replyNow] at h ⊢
  rw [k] at h
  exact h

/-- A command that leaves the state `u` but for its reply is answered; page memory and line coder are those of `u`. -/
theorem commandArgs_answers {α : Type} {s u : State} {tag code : Nat} {x : α} {f : α → State → State} {r : ResultCode}
    {c : Nat} {b : ReplyBody} (h : s.inReset = false) (hf : f x s.heeded = u.heeded.reply tag code r c b) :
    ∃ t, s.commandArgs tag code (.fields x) f = .next t ∧ t.pmm = u.pmm ∧ t.lcd = u.lcd ∧
      Answered u t (u.replyNow tag code r c b) :=
  ⟨_, commandArgs_next h hf, reply_finish_pmm rfl, (finish_lcd (reply_reports ..)).trans (reply_lcd ..),
    (heeded_reply_onlyAnswered u tag code r c b).1⟩

/-! ## BOARD_PAGE_BEGIN (R60) -/

theorem le_of_widthOk {w : Nat} (h : widthOk w = true) : 256 ≤ w := by
  simp only [widthOk, Bool.and_eq_true, decide_eq_true_eq] at h
  exact h.1.1

theorem codeSet_lt {s : State} {k : Nat} (h : (s.codeSet k).isSome = true) : k < 2 := by
  by_contra hk
  rw [State.codeSet, tget, dif_neg hk] at h
  cases h

theorem writerRefusal_none {s : State} {d : Nat} {o : Origin} (hs : (s.doc d).state = .opened) (ho : (s.doc d).origin = o)
    (hf : (s.doc d).filler = .none) (hl : (s.doc d).pages.length < 64) : s.writerRefusal d o = none := by
  simp [State.writerRefusal, hs, ho, hf, Config.pagesPerDoc, hl]

/-- What BOARD_PAGE_BEGIN asks of the page memory manager (R60). -/
def State.boardRequest (s : State) (d w : Nat) (dn : Density) : OpenRequest :=
  { filler := .lcd, document := d, source := .board, slot := s.lcd.config.slot, coding := s.lcd.config.coding, width := w,
    density := dn }

/-- The page memory once page `p` has been opened in document `d`, bound to the line coder (R60). -/
def State.boardPageOpened (s : State) (d w p : Nat) (dn : Density) : State :=
  (s.setDoc d { s.doc d with filler := .lcd }).pageOpened (s.boardRequest d w dn) p

/-- The state once BOARD_PAGE_BEGIN has opened page `p` in document `d` (R60). -/
def State.boardPageBegun (s : State) (d w p : Nat) (dn : Density) : State :=
  ((s.boardPageOpened d w p dn).takeCoderPage { page := p, gen := s.pmm.generation } s.lcd.config.slot s.lcd.config.coding
    w).updLcd fun l => { l with mode := .board, board := some { document := d, density := dn } }

section Begin

variable {s : State} {d w p : Nat} {dn : Density} (hd : d < 64)
include hd

theorem boardPageOpened_eq : s.boardPageOpened d w p dn =
    (((s.setDoc d { s.doc d with filler := .lcd }).setPage p
      ((s.boardRequest d w dn).record ((s.doc d).pages.length + 1))).setDoc d
        { s.doc d with filler := .lcd, pages := (s.doc d).pages ++ [p] }).raiseUse s.lcd.config.slot := by
  unfold State.boardPageOpened State.pageOpened
  rw [show (s.boardRequest d w dn).document = d from rfl, doc_setDoc_self s d _ hd]
  rfl

theorem boardPageOpened_page (hp : p < 256) :
    (s.boardPageOpened d w p dn).page p = (s.boardRequest d w dn).record ((s.doc d).pages.length + 1) := by
  rw [boardPageOpened_eq hd]
  exact page_setPage_self _ p _ hp

theorem boardPageOpened_page_ne {q : Nat} (hq : q ≠ p) : (s.boardPageOpened d w p dn).page q = s.page q := by
  rw [boardPageOpened_eq hd]
  exact page_setPage_ne _ p q _ hq.symm

theorem boardPageOpened_doc : (s.boardPageOpened d w p dn).doc d =
    { s.doc d with filler := .lcd, pages := (s.doc d).pages ++ [p] } := by
  rw [boardPageOpened_eq hd]
  exact doc_setDoc_self _ d _ hd

theorem boardPageOpened_doc_ne {e : Nat} (he : e ≠ d) : (s.boardPageOpened d w p dn).doc e = s.doc e := by
  rw [boardPageOpened_eq hd]
  exact (doc_setDoc_ne _ d e _ he.symm).trans (doc_setDoc_ne s d e _ he.symm)

/-- With no record left or a page still FILLING the open is refused; here neither holds (R6, R60). -/
theorem openBoardPage_begins (tag : Nat) (isNew : Bool) (hs : (s.doc d).state = .opened)
    (hl : (s.doc d).pages.length < 64) (hn : ∀ q ∈ (s.doc d).pages, (s.page q).state ≠ .filling)
    (hp : s.freePageRecord = some p) :
    (s.setDoc d { s.doc d with filler := .lcd }).openBoardPage tag d isNew w dn =
      (s.boardPageBegun d w p dn).reply tag 11 .ok 0 (.boardPage d ((s.doc d).pages.length + 1)) := by
  have doc_eq := doc_setDoc_self s d { s.doc d with filler := .lcd } hd
  have opened : (s.setDoc d { s.doc d with filler := .lcd }).openPage (s.boardRequest d w dn) =
      (s.boardPageOpened d w p dn, .ok { page := p, gen := s.pmm.generation }) := by
    refine openPage_of_room ?_ ?_ ?_ ?_ hp <;> rw [show (s.boardRequest d w dn).document = d from rfl, doc_eq]
    exacts [hs, rfl, hl, hn]
  have index := congrArg PageRec.index (boardPageOpened_page (s := s) (w := w) (dn := dn) hd (lowest_lt hp))
  unfold State.boardRequest at opened
  unfold State.openBoardPage
  dsimp only [setDoc_lcd]
  rw [opened]
  exact congrArg (fun i => (s.boardPageBegun d w p dn).reply tag 11 .ok 0 (.boardPage d i)) index

theorem beginBoardPage_begins (tag : Nat) (hw : widthOk w = true) (hi : s.lcd.mode = .idle)
    (hk : (s.codeSet s.lcd.config.slot).isSome = true) (hs : (s.doc d).state = .opened) (ho : (s.doc d).origin = .board)
    (hf : (s.doc d).filler = .none) (hl : (s.doc d).pages.length < 64)
    (hn : ∀ q ∈ (s.doc d).pages, (s.page q).state ≠ .filling) (hp : s.freePageRecord = some p) :
    s.beginBoardPage tag { document := d, width := w, density := dn.code } =
      (s.boardPageBegun d w p dn).reply tag 11 .ok 0 (.boardPage d ((s.doc d).pages.length + 1)) := by
  have existing : d ≠ 255 := by omega
  have field : docFieldOk d = true := by simp [docFieldOk]; omega
  have bound : s.boardDocument d = (s.setDoc d { s.doc d with filler := .lcd }, some d) := if_neg existing
  rw [State.beginBoardPage]
  dsimp only
  rw [ofCode_code]
  dsimp only
  rw [if_neg (by simp [field, hw]), if_neg (not_not.2 hi), if_neg (by simp [State.loaded, hk]), if_neg existing,
    writerRefusal_none hs ho hf hl]
  dsimp only
  rw [if_neg (by simp [existing, hp]), bound]
  exact openBoardPage_begins hd tag _ hs hl hn hp

end Begin

theorem boardPageBegun_heeded (s : State) (d w p : Nat) (dn : Density) :
    s.heeded.boardPageBegun d w p dn = (s.boardPageBegun d w p dn).heeded := rfl

theorem boardPageIsOpened : Claims.BoardPageIsOpened := by
  intro s tag d w p dn h hd hw hi hk hs ho hf hl hn hp
  have begun := beginBoardPage_begins (s := s.heeded) (dn := dn) hd tag hw hi hk hs ho hf hl hn hp
  rw [boardPageBegun_heeded] at begun
  obtain ⟨t, next, pmm, coder, answered⟩ := commandArgs_answers (f := fun x s => s.beginBoardPage tag x) h begun
  replace pmm : t.pmm = (s.boardPageOpened d w p dn).pmm := pmm
  rw [exec_boardPageBegin]
  refine ⟨t, next, ?_, ?_, by rw [pmm]; rfl, ?_, fun e he => ?_, fun q hq => ?_, ?_⟩
  · rw [State.doc, pmm]; exact boardPageOpened_doc hd
  · rw [pmm]; exact tget_tset_self _ _ _ _ (codeSet_lt hk)
  · rw [State.page, pmm]; exact boardPageOpened_page hd (lowest_lt hp)
  · rw [State.doc, pmm]; exact boardPageOpened_doc_ne hd he
  · rw [State.page, pmm]; exact boardPageOpened_page_ne hd hq
  · rw [coder, pmm]
    exact ⟨rfl, rfl, rfl, rfl, rfl, answered.of_raises rfl, rfl⟩

/-! ## Bytes stored beside the other blocks (R3, R7) -/

namespace Beside

variable {s₀ s : State}

theorem lowCheck (h : Beside s₀ s) : Beside s₀ s.lowCheck := by
  have disarmed : Beside s₀ { s with pmm := { s.pmm with memLowArmed := false } } := h.quiet
  unfold State.lowCheck
  split
  exacts [disarmed.raise, h]

theorem grant {p : Nat} {t : State} (h : Beside s₀ s) (e : s.grant p = some t) : Beside s₀ t := by
  unfold State.grant at e
  split at e
  · split at e
    · cases e
    · cases e
      exact lowCheck h.quiet
  · cases e

theorem append (r : PageRef) (b : Byte) (h : Beside s₀ s) : Beside s₀ (s.append r b).1 := by
  unfold State.append
  split
  · dsimp only
    split
    · exact h
    · rename_i u e
      split at e
      · exact (h.grant e).quiet
      · cases e
        exact h.quiet
  · exact h

theorem storeBytes (r : PageRef) (bs : List Byte) (h : Beside s₀ s) : Beside s₀ (storeBytes r bs s).1 := by
  induction bs generalizing s with
  | nil => exact h
  | cons b bs ih =>
    unfold Machine.storeBytes
    split <;> rename_i e
    exacts [ih ((h.append r b).of_fst e), (h.append r b).of_fst e, (h.append r b).of_fst e]

end Beside

/-! ## Storing owes no report -/

theorem lowCheck_reports (s : State) : s.lowCheck.reports = s.reports := by
  unfold State.lowCheck
  split
  exacts [raise_reports .., rfl]

theorem grant_reports {s t : State} {p : Nat} (e : s.grant p = some t) : t.reports = s.reports := by
  unfold State.grant at e
  split at e
  · split at e
    · cases e
    · cases e
      exact lowCheck_reports _
  · cases e

theorem append_reports (s : State) (r : PageRef) (b : Byte) : (s.append r b).1.reports = s.reports := by
  unfold State.append
  split
  · dsimp only
    split
    · rfl
    · rename_i u e
      have granted : u.reports = s.reports := by
        split at e
        · exact grant_reports e
        · cases e
          rfl
      exact granted
  · rfl

theorem storeBytes_reports (r : PageRef) (bs : List Byte) (s : State) : (storeBytes r bs s).1.reports = s.reports := by
  induction bs generalizing s with
  | nil => rfl
  | cons b bs ih =>
    have stored := append_reports s r b
    unfold storeBytes
    split <;> rename_i e <;> rw [e] at stored
    exacts [(ih _).trans stored, stored, stored]

/-! ## Lines coded in order (R57, R58, R61) -/

/-- From `s` to `t` lines may have been coded: notices may have been raised and no report is owed for it; the code slots
stand. -/
structure OnlyCodes (s t : State) : Prop where
  link : RaisesOnly s t
  reports : t.reports = s.reports
  slots : t.lcd.slots = s.lcd.slots

theorem OnlyCodes.trans {s u t : State} (h : OnlyCodes s u) (k : OnlyCodes u t) : OnlyCodes s t :=
  ⟨h.link.trans k.link, k.reports.trans h.reports, k.slots.trans h.slots⟩

theorem storeLine_onlyCodes (s : State) (j : CoderPage) (l : HeldLine) : OnlyCodes s (s.storeLine j l).1 := by
  have beside := (Beside.refl s).storeBytes j.ref l.bytes
  have reports := storeBytes_reports j.ref l.bytes s
  unfold State.storeLine
  have slots := congrArg Lcd.slots beside.lcd
  split <;> rename_i e <;> rw [e] at beside reports slots
  exacts [⟨beside.link, reports, slots⟩, ⟨beside.link, reports, slots⟩]

/-- A line stored whole is counted, and no line is held (R57). -/
theorem storeLine_stored {s t : State} {j : CoderPage} {l : HeldLine} (e : s.storeLine j l = (t, true)) :
    t.lcd.job = some { j with lineCount := if l.line.isSome then j.lineCount + 1 else j.lineCount } ∧ t.lcd.held = none ∧
      OnlyCodes s t := by
  have codes := storeLine_onlyCodes s j l
  rw [e] at codes
  unfold State.storeLine at e
  split at e
  · cases e
    exact ⟨rfl, rfl, codes⟩
  · cases e

theorem codeLine_stored {s t : State} {j : CoderPage} {l : PixelLine} (hj : s.lcd.job = some j)
    (hk : (s.codeSet j.slot).isSome = true) (e : s.codeLine l = (t, true)) :
    t.lcd.job = some { j with lineCount := j.lineCount + 1 } ∧ t.lcd.held = none ∧ OnlyCodes s t := by
  obtain ⟨c, hc⟩ := Option.isSome_iff_exists.1 hk
  unfold State.codeLine at e
  rw [hj] at e
  dsimp only at e
  rw [hc] at e
  exact storeLine_stored e

/-- Where all lines of a block are stored, each is counted (R61). -/
theorem takeLines_stored {ls : List PixelLine} {s : State} {j : CoderPage} (hj : s.lcd.job = some j)
    (hh : s.lcd.held = none) (hk : (s.codeSet j.slot).isSome = true) (hall : (takeLines ls s).2.2 = true) :
    (takeLines ls s).2.1 = ls.length ∧
      (takeLines ls s).1.lcd.job = some { j with lineCount := j.lineCount + ls.length } ∧
      (takeLines ls s).1.lcd.held = none ∧ OnlyCodes s (takeLines ls s).1 := by
  induction ls generalizing s j with
  | nil => exact ⟨rfl, hj, hh, rfl, rfl, rfl⟩
  | cons l ls ih =>
    unfold takeLines at hall ⊢
    split at hall
    · cases hall
    · rename_i u e
      obtain ⟨job, held, codes⟩ := codeLine_stored hj hk e
      have slot : (u.codeSet j.slot).isSome = true := by rw [State.codeSet, codes.slots]; exact hk
      obtain ⟨taken, job, held, more⟩ := ih job held slot hall
      refine ⟨congrArg (· + 1) taken, ?_, held, codes.trans more⟩
      rw [List.length_cons, Nat.add_comm ls.length 1, ← Nat.add_assoc]
      exact job

theorem length_bodyLines (w n : Nat) (bs : List Byte) : (bodyLines w n bs).length = n := by
  induction n generalizing bs with
  | zero => rfl
  | succ n ih => exact congrArg (· + 1) (ih _)

theorem linesTaken_unheld {l : Lcd} {j : CoderPage} (hj : l.job = some j) (hh : l.held = none) :
    l.linesTaken = j.lineCount := by
  simp [Lcd.linesTaken, hj, hh]

theorem tryHeld_none {s : State} (h : s.lcd.held = none) : s.tryHeld = (s, true) := by
  unfold State.tryHeld
  split
  · rename_i e
    cases h.symm.trans e
  · rfl

/-! ## DOC_LINES (R61) -/

section DocLines

variable {s : State} {body : List Byte} {j : CoderPage} {b : BoardPage} (tag : Nat) (hm : s.lcd.mode = .board)
  (hj : s.lcd.job = some j) (hb : s.lcd.board = some b)
include hm hj hb

theorem docLines_empty : s.docLines tag [] = s.reply tag 36 .ok 0 (.linesTaken 0) := by
  simp [State.docLines, hm, hj, hb]

variable (hne : body ≠ [])
include hne

theorem docLines_badField (h : body.length % (j.width / 8) ≠ 0 ∨
    b.density.maxLines < s.lcd.linesTaken + body.length / (j.width / 8)) : s.docLines tag body = s.reply tag 36 .badField := by
  unfold State.docLines
  rw [hm, hj, hb]
  dsimp only
  rw [if_neg hne, if_pos h]

variable (h0 : body.length % (j.width / 8) = 0)
  (hl : s.lcd.linesTaken + body.length / (j.width / 8) ≤ b.density.maxLines)
include h0 hl

theorem docLines_heldAgain {u : State} (hu : s.tryHeld = (u, false)) :
    s.docLines tag body = u.reply tag 36 .noSpace 0 (.linesTaken 0) := by
  unfold State.docLines
  rw [hm, hj, hb]
  dsimp only
  rw [if_neg hne, if_neg (by omega), hu]

theorem docLines_stored {u : State} {k : Nat} (hh : s.lcd.held = none)
    (hu : takeLines (bodyLines j.width (body.length / (j.width / 8)) body) s = (u, k, true)) :
    s.docLines tag body = u.reply tag 36 .ok 0 (.linesTaken k) := by
  unfold State.docLines
  rw [hm, hj, hb]
  dsimp only
  rw [if_neg hne, if_neg (by omega), tryHeld_none hh]
  dsimp only
  rw [hu]

theorem docLines_held {u : State} {k : Nat} (hh : s.lcd.held = none)
    (hu : takeLines (bodyLines j.width (body.length / (j.width / 8)) body) s = (u, k, false)) :
    s.docLines tag body = u.reply tag 36 .noSpace 0 (.linesTaken k) := by
  unfold State.docLines
  rw [hm, hj, hb]
  dsimp only
  rw [if_neg hne, if_neg (by omega), tryHeld_none hh]
  dsimp only
  rw [hu]

end DocLines

/-- A command that has coded lines and answers: the line coder stands as the lines left it. -/
theorem command_codes {s u : State} {f : State → State} {tag code : Nat} {r : ResultCode} {c : Nat} {b : ReplyBody}
    (h : s.inReset = false) (hr : s.reports = []) (hx : s.bli.rx = {}) (codes : OnlyCodes s u)
    (hf : f s = u.reply tag code r c b) :
    ∃ t, s.command f = .next t ∧ t.lcd = u.lcd ∧ Answered s t (s.replyNow tag code r c b) := by
  have heeded : s.heeded = s := by rw [State.heeded, ← hr, ← hx]
  have quiet : u.reports = [] := codes.reports.trans hr
  have hunting : u.bli.rx = {} := by rw [codes.link]; exact hx
  refine ⟨(u.reply tag code r c b).finish, ?_, ?_, ?_⟩
  · rw [← hf, ← congrArg f heeded]
    exact command_of_heeds s f h
  · exact (finish_lcd ((reply_reports ..).trans quiet)).trans (reply_lcd ..)
  · exact (reply_onlyAnswered u tag code r c b quiet hunting).1.of_raises codes.link

theorem boardLinesAreCoded : Claims.BoardLinesAreCoded := by
  intro s tag body j b h hr hx hm hj hb hh hw
  have heeded : s.heeded = s := by rw [State.heeded, ← hr, ← hx]
  have taken := linesTaken_unheld hj hh
  have wide := le_of_widthOk hw
  rw [exec_docLines]
  refine ⟨fun hbad => ?_, fun h0 hl hk hall => ?_⟩
  · have some_body : body ≠ [] := by
      rintro rfl
      simp at hbad
    have refused : s.heeded.docLines tag body = s.heeded.reply tag 36 .badField := by
      refine docLines_badField (s := s.heeded) tag hm hj hb some_body ?_
      rw [heeded, taken]
      exact hbad.imp_right And.right
    exact command_onlyAnswered h refused
  · obtain ⟨count, job, held, codes⟩ := takeLines_stored hj hh hk hall
    rw [length_bodyLines] at count job
    have fed : (takeLines (bodyLines j.width (body.length / (j.width / 8)) body) s).1.lcd.linesTaken =
        j.lineCount + body.length / (j.width / 8) := linesTaken_unheld job held
    have answers : s.docLines tag body =
        (takeLines (bodyLines j.width (body.length / (j.width / 8)) body) s).1.reply tag 36 .ok 0
          (.linesTaken (body.length / (j.width / 8))) := by
      by_cases hne : body = []
      · subst hne
        simpa [bodyLines, takeLines] using docLines_empty tag hm hj hb
      · refine docLines_stored tag hm hj hb hne h0 (by rwa [taken]) hh ?_
        exact Prod.ext rfl (Prod.ext count hall)
    obtain ⟨t, next, coder, answered⟩ := command_codes h hr hx codes (f := fun s => s.docLines tag body) answers
    exact ⟨t, next, coder, coder ▸ fed, answered⟩

/-! ## A line held for want of a segment (R3, R58) -/

theorem grant_none {s : State} {p : Nat} (hb : (s.page p).source = .board) (hf : s.pmm.freeList.length ≤ 64) :
    s.grant p = none := by
  have short : (s.page p).source.grantAllowed s.freeCount = false := by
    rw [hb]
    exact decide_eq_false (Nat.not_le.2 (Nat.lt_succ_of_le hf))
  rw [State.grant, short]
  rfl

/-- The line coder with a line held whole (R58). -/
def State.lineHeld (s : State) (l : HeldLine) : State := s.updLcd fun x => { x with held := some l, bits := [] }

section Held

variable {s : State} {j : CoderPage} (hc : s.current j.ref = true) (hs : (s.page j.ref.page).state = .filling)
  (hb : (s.page j.ref.page).source = .board) (h0 : (s.page j.ref.page).byteCount % 1024 = 0)
  (hf : s.pmm.freeList.length ≤ 64)
include hc hs hb h0 hf

theorem append_noSegment (b : Byte) : s.append j.ref b = (s, .noSegment) := by
  have asked : (s.current j.ref && (s.page j.ref.page).state == .filling) = true := by simp [hc, hs]
  rw [State.append, if_pos asked]
  dsimp only
  rw [if_pos h0, grant_none hb hf]

theorem storeLine_held {l : HeldLine} (hl : l.bytes ≠ []) :
    s.storeLine j l = (s.lineHeld l, false) := by
  obtain ⟨b, bs, e⟩ := List.exists_cons_of_ne_nil hl
  have left : storeBytes j.ref l.bytes s = (s, l.bytes) := by rw [e, storeBytes, append_noSegment hc hs hb h0 hf]
  rw [State.storeLine, left, e]
  dsimp only
  rw [← e]
  rfl

theorem tryHeld_again {l : HeldLine} (hj : s.lcd.job = some j) (hl : s.lcd.held = some l) (hne : l.bytes ≠ [])
    (hbits : s.lcd.bits = []) : s.tryHeld = (s, false) := by
  have same : s.lineHeld l = s := by rw [State.lineHeld, State.updLcd, ← hl, ← hbits]
  rw [State.tryHeld, hj, hl]
  dsimp only
  rw [storeLine_held hc hs hb h0 hf hne, same]

end Held

theorem packComplete_ne_nil {bits : Bits} (h : 8 ≤ bits.length) : (packComplete bits).1 ≠ [] := by
  obtain ⟨n, e⟩ := Nat.exists_eq_succ_of_ne_zero (show bits.length / 8 ≠ 0 by omega)
  rw [packComplete, e]
  exact List.cons_ne_nil _ _

/-- A block of one line (R61). -/
theorem bodyLines_one {w : Nat} {body : List Byte} (h : body.length = w / 8) : bodyLines w 1 body = [unpackBits body] := by
  rw [bodyLines, bodyLines, ← h, List.take_length]

theorem heldLineWaitsForASegment : Claims.HeldLineWaitsForASegment := by
  refine ⟨?_, ?_, ?_⟩
  · intro s tag body j b c h hm hj hb hh hw hlen hl hset hcur hfill hsrc h0 hfree bits hbits
    rw [exec_docLines]
    have wide := le_of_widthOk hw
    have one : body.length / (j.width / 8) = 1 := by rw [hlen]; exact Nat.div_self (by omega)
    have some_body : body ≠ [] := by
      rintro rfl
      simp only [List.length_nil] at hlen
      omega
    let line : HeldLine := { bytes := (packComplete bits).1, tail := (packComplete bits).2, line := some (unpackBits body) }
    have coded : s.heeded.codeLine (unpackBits body) = (s.heeded.lineHeld line, false) := by
      have set_eq : s.heeded.codeSet j.slot = some c := hset
      rw [State.codeLine, show s.heeded.lcd.job = some j from hj]
      dsimp only
      rw [set_eq]
      exact storeLine_held (s := s.heeded) (l := line) hcur hfill hsrc h0 hfree (packComplete_ne_nil hbits)
    have taken : takeLines (bodyLines j.width (body.length / (j.width / 8)) body) s.heeded =
        (s.heeded.lineHeld line, 1, false) := by
      rw [one, bodyLines_one hlen, takeLines, coded]
    refine command_onlyAnswered (u := s.lineHeld line) h
      (docLines_held (s := s.heeded) tag hm hj hb some_body (by rw [hlen]; exact Nat.mod_self _) ?_ hh taken)
    rw [linesTaken_unheld (l := s.heeded.lcd) hj hh, one]
    exact hl
  · intro s tag body j b l h hm hj hb hh hline hne hbits hw hbody hmod hl hcur hfill hsrc h0 hfree
    rw [exec_docLines]
    have again : s.heeded.tryHeld = (s.heeded, false) :=
      tryHeld_again (s := s.heeded) hcur hfill hsrc h0 hfree hj hh hne hbits
    refine command_onlyAnswered h (docLines_heldAgain (s := s.heeded) tag hm hj hb hbody hmod ?_ again)
    simpa [Lcd.linesTaken, State.heeded, hj, hh, hline] using hl
  · intro s tag j b h hm hj hb
    rw [exec_docLines]
    exact command_onlyAnswered h (docLines_empty (s := s.heeded) tag hm hj hb)

/-! ## A board page abandoned (R9, R62) -/

theorem freeChain_document (s : State) (p : Nat) : ((s.freeChain p).page p).document = (s.page p).document := by
  by_cases h : s.chain p = []
  · rw [freeChain_of_empty h]
  · rw [freeChain_of_nonempty h]
    by_cases hp : p < 256
    · exact (congrArg PageRec.document (page_setPage_self _ p _ hp)).trans rfl
    · rw [page_of_out hp, page_of_out hp]

theorem freeChain_doc (s : State) (p d : Nat) : (s.freeChain p).doc d = s.doc d := by
  by_cases h : s.chain p = []
  · rw [freeChain_of_empty h]
  · rw [freeChain_of_nonempty h]
    rfl

/-- A full discard is a freed page that leaves its document's list (R9). -/
theorem fullDiscard_eq {s : State} {r : PageRef} {d : Nat} (hc : s.current r = true)
    (hs : (s.page r.page).state = .filling) (hd : (s.page r.page).document = some d) :
    s.fullDiscard r = (s.freePage r.page).setDoc d { s.doc d with pages := (s.doc d).pages.erase r.page } := by
  have asked : (s.current r && (s.page r.page).state == .filling) = true := by simp [hc, hs]
  rw [State.fullDiscard, if_pos asked]
  dsimp only
  rw [freeChain_document, hd]
  dsimp only
  rw [freeChain_doc]
  rfl

/-- The line coder once it has left a board page and dropped what was pending of it (R58, R62). -/
def Lcd.boardPageDropped (l : Lcd) : Lcd :=
  { l with mode := .idle, job := none, board := none, held := none, bits := [], reference := whiteLine Config.columns }

/-- The state once the board page has been abandoned (R62). -/
def State.boardPageAbandoned (s : State) (j : CoderPage) (d : Nat) : State :=
  ((s.freePage j.ref.page).setDoc d
    { s.doc d with filler := .none, pages := (s.doc d).pages.erase j.ref.page }).updLcd Lcd.boardPageDropped

theorem leaveBoardPage_dropCoderPage (s : State) {d : Nat} (r : DocRec) (h64 : d < 64) :
    ((s.setDoc d r).dropCoderPage).leaveBoardPage d =
      (s.setDoc d { r with filler := .none }).updLcd Lcd.boardPageDropped := by
  have doc : ((s.setDoc d r).dropCoderPage).doc d = r := doc_setDoc_self s d r h64
  rw [State.leaveBoardPage, State.unbind, doc]
  simp [State.setDoc, State.updLcd, State.dropCoderPage, State.leaveCoderPage, tset_tset, Lcd.boardPageDropped]

section End

variable {s : State} {j : CoderPage} {b : BoardPage} (tag : Nat) (hm : s.lcd.mode = .board)
  (hj : s.lcd.job = some j) (hb : s.lcd.board = some b)
include hm hj hb

theorem endBoardPage_abandons (hc : s.current j.ref = true) (hs : (s.page j.ref.page).state = .filling)
    (hd : (s.page j.ref.page).document = some b.document) (h64 : b.document < 64) : s.endBoardPage tag true =
      (s.boardPageAbandoned j b.document).reply tag 12 .ok 0 (.boardAbandoned (s.page j.ref.page).index) := by
  unfold State.endBoardPage
  rw [hm, hj, hb]
  dsimp only
  rw [if_pos rfl, State.discardCoderPage, hj]
  dsimp only
  rw [fullDiscard_eq hc hs hd, leaveBoardPage_dropCoderPage _ _ h64]
  rfl

theorem endBoardPage_untaken (hl : j.lineCount = 0) (hh : s.lcd.held = none) :
    s.endBoardPage tag false = s.reply tag 12 .state := by
  unfold State.endBoardPage
  rw [hm, hj, hb]
  dsimp only
  rw [if_neg Bool.false_ne_true, if_pos ⟨hl, hh⟩]

theorem endBoardPage_completes (hl : 0 < j.lineCount) :
    s.endBoardPage tag false = s.completeBoardPage tag j b.document := by
  unfold State.endBoardPage
  rw [hm, hj, hb]
  dsimp only
  rw [if_neg Bool.false_ne_true, if_neg fun h => hl.ne' h.1]

end End

section Abandoned

variable (s : State) (j : CoderPage) (d : Nat)

theorem boardPageAbandoned_pmm : (s.boardPageAbandoned j d).pmm =
    { s.pmm.pageFreed j.ref.page (s.page j.ref.page).slot (s.chain j.ref.page) with
      docs := tset s.pmm.docs d { s.doc d with filler := .none, pages := (s.doc d).pages.erase j.ref.page } } := by
  rw [State.boardPageAbandoned, updLcd_pmm, State.setDoc, freePage_pmm]
  rfl

theorem boardPageAbandoned_frame : (s.boardPageAbandoned j d).bli = s.bli ∧
    (s.boardPageAbandoned j d).lcd = s.lcd.boardPageDropped ∧
    ∀ r ∈ (s.boardPageAbandoned j d).reports, r ∈ s.reports ∨ r = .memoryFreed := by
  have frees := freePage_onlyFrees s j.ref.page
  have bli := congrArg State.bli frees.frame
  have lcd := congrArg State.lcd frees.frame
  rw [State.boardPageAbandoned]
  exact ⟨bli, congrArg Lcd.boardPageDropped lcd, frees.reports⟩

end Abandoned

/-! ## A board page completed (R8, R59, R62) -/

/-- A page's record at its completion (R8). -/
def PageRec.completed (g : PageRec) (lines : Nat) : PageRec :=
  { g with state := .complete, lineCount := lines, badLines := 0, poor := false, final := true }

/-- The line coder once it has left a board page that was completed (R59, R62). -/
def Lcd.boardPageLeft (l : Lcd) : Lcd := { l with mode := .idle, job := none, board := none, held := none, bits := [] }

/-- The state once the board page has been completed (R62): its final flag is still to be reported. -/
def State.boardPageCompleted (s : State) (j : CoderPage) (d : Nat) : State :=
  (((s.setPage j.ref.page ((s.page j.ref.page).completed j.lineCount)).setDoc d
    { s.doc d with filler := .none }).updLcd Lcd.boardPageLeft).report (.pageFinal d (s.page j.ref.page).index)

/-- The final flag of a page whose document has no print entry wakes nobody (R153). -/
theorem finish_pageFinal {s : State} {d i : Nat} (hr : s.reports = [.pageFinal d i]) (ho : s.prt.order = []) :
    s.finish = { s with reports := [] }.finish := by
  have idle : { s with reports := [] }.handle (.pageFinal d i) = { s with reports := [] } := by
    simp [State.handle, State.printPageFinal, ho]
  rw [finish_one s _ hr (by rw [idle]), idle, finish_of_quiet { s with reports := [] } rfl]

/-- The end of a command that has completed a page while no print entry was queued. -/
theorem reply_finish_pageFinal {s v : State} {tag code d i : Nat} {r : ResultCode} {c : Nat} {b : ReplyBody}
    (hb : v.bli = s.heeded.bli) (ho : v.prt.order = []) (hr : v.reports = [.pageFinal d i]) :
    Answered s (v.reply tag code r c b).finish (s.replyNow tag code r c b) ∧
      (v.reply tag code r c b).finish.pmm = v.pmm ∧ (v.reply tag code r c b).finish.lcd = v.lcd := by
  have ended : (v.reply tag code r c b).finish = ({ v with reports := [] }.reply tag code r c b).finish := by
    rw [finish_pageFinal ((reply_reports ..).trans hr) (by rwa [reply_prt]), reply_setReports]
  have answered := (reply_onlyAnswered { v with reports := [] } tag code r c b rfl (by rw [hb]; rfl)).1
  rw [ended]
  refine ⟨?_, reply_finish_pmm rfl, (finish_lcd (reply_reports ..)).trans (reply_lcd ..)⟩
  simp only [Answered, State.repliesOwed, State.replyNow, hb] at answered ⊢
  exact answered

theorem reportFinal_of_document {s : State} {p d : Nat} (hd : (s.page p).document = some d) :
    s.reportFinal p = s.report (.pageFinal d (s.page p).index) := by
  rw [State.reportFinal, hd]

section Completed

variable {s u : State} {j : CoderPage} {d : Nat} (tag : Nat) (hj : u.lcd.job = some j) (hc : u.current j.ref = true)
  (hs : (u.page j.ref.page).state = .filling) (hd : (u.page j.ref.page).document = some d) (hp : j.ref.page < 256)
include hj hc hs hd hp

theorem completeCoderPage_eq : u.completeCoderPage =
    ((u.setPage j.ref.page ((u.page j.ref.page).completed j.lineCount)).report
      (.pageFinal d (u.page j.ref.page).index)).leaveCoderPage := by
  have asked : (u.current j.ref && (u.page j.ref.page).state == .filling) = true := by simp [hc, hs]
  have record := page_setPage_self u j.ref.page ((u.page j.ref.page).completed j.lineCount) hp
  have reported := reportFinal_of_document (s := u.setPage j.ref.page ((u.page j.ref.page).completed j.lineCount))
    (p := j.ref.page) (d := d) (by rw [record]; exact hd)
  rw [record] at reported
  rw [State.completeCoderPage, hj]
  dsimp only
  rw [State.completePage, if_pos asked]
  exact congrArg State.leaveCoderPage reported

/-- With its held line and its pending bits stored the board page is completed (R62). -/
theorem completeBoardPage_done (ht : s.tryHeld = (s, true)) (hu : s.padPage = (u, true)) :
    s.completeBoardPage tag j d = (u.boardPageCompleted j d).reply tag 12 .ok 0
      (.boardEnd (u.page j.ref.page).index j.lineCount (u.page j.ref.page).byteCount) := by
  have record : u.completeCoderPage.page j.ref.page = (u.page j.ref.page).completed j.lineCount := by
    rw [completeCoderPage_eq hj hc hs hd hp]
    exact page_setPage_self u j.ref.page _ hp
  rw [State.completeBoardPage, ht]
  dsimp only
  rw [hu]
  dsimp only
  rw [record, completeCoderPage_eq hj hc hs hd hp]
  rfl

theorem endBoardPage_next (h : s.inReset = false) (ht : s.heeded.tryHeld = (s.heeded, true))
    (he : s.heeded.endBoardPage tag false = s.heeded.completeBoardPage tag j d) (hu : s.heeded.padPage = (u, true))
    (hb : u.bli = s.heeded.bli) (ho : u.prt.order = []) (hr : u.reports = []) (h64 : d < 64) :
    ∃ t, exec (.boardPageEnd tag (.fields false)) s = .next t ∧
      t.page j.ref.page = (u.page j.ref.page).completed j.lineCount ∧ t.pmm.mem = u.pmm.mem ∧
      t.doc d = { u.doc d with filler := .none } ∧ t.lcd.mode = .idle ∧ t.lcd.job = none ∧
      Answered s t (s.replyNow tag 12 .ok 0
        (.boardEnd (u.page j.ref.page).index j.lineCount (u.page j.ref.page).byteCount)) := by
  have done := he.trans (completeBoardPage_done tag hj hc hs hd hp ht hu)
  have owed : (u.boardPageCompleted j d).reports = [.pageFinal d (u.page j.ref.page).index] := congrArg (· ++ _) hr
  obtain ⟨answered, pmm, lcd⟩ := reply_finish_pageFinal (s := s) (v := u.boardPageCompleted j d) (tag := tag) (code := 12)
    (r := .ok) (c := 0) (b := .boardEnd (u.page j.ref.page).index j.lineCount (u.page j.ref.page).byteCount) hb ho owed
  refine ⟨_, (commandArgs_fields s tag 12 false (fun x s => s.endBoardPage tag x) h).trans
    (congrArg (fun v : State => Host.Outcome.next v.finish) done), ?_, ?_, ?_, ?_, ?_, answered⟩
  · rw [State.page, pmm]
    exact page_setPage_self u j.ref.page _ hp
  · rw [pmm]; rfl
  · rw [State.doc, pmm]
    exact doc_setDoc_self (u.setPage j.ref.page ((u.page j.ref.page).completed j.lineCount)) d _ h64
  · rw [lcd]; rfl
  · rw [lcd]; rfl

end Completed

/-! ## The padding byte (R56, R59) -/

theorem bitsValue_zeros (bits : Bits) (k : Nat) : bitsValue (bits ++ List.replicate k false) = bitsValue bits * 2 ^ k := by
  induction k with
  | zero => simp
  | succ k ih =>
    have more : bitsValue (bits ++ List.replicate (k + 1) false) = 2 * bitsValue (bits ++ List.replicate k false) := by
      simp [bitsValue, List.replicate_succ', ← List.append_assoc, List.foldl_append]
    rw [more, ih, Nat.pow_succ]
    ring

/-- Fewer than eight pending bits are one byte, filled with zero bits (R56). -/
theorem packPadded_short {bits : Bits} (h1 : 1 ≤ bits.length) (h8 : bits.length < 8) :
    packPadded bits = [BitVec.ofNat 8 (bitsValue bits * 2 ^ (8 - bits.length))] := by
  have one : ceilDiv bits.length 8 = 1 := by unfold ceilDiv; omega
  have filled : (bits ++ List.replicate 8 false).take 8 = bits ++ List.replicate (8 - bits.length) false := by
    rw [List.take_append, List.take_of_length_le h8.le, List.take_replicate, Nat.min_eq_left (Nat.sub_le ..)]
  rw [packPadded, one, packBytes, packBytes, List.take_of_length_le h8.le, bitsByte, filled, bitsValue_zeros]

/-- Page `p` with a byte stored behind its last, within a segment (R7). -/
def State.byteStored (s : State) (p : Nat) (b : Byte) : State :=
  { s with pmm := { s.pmm with
    mem := s.pmm.mem.write (segmentAddress ((s.page p).last.getD 0) (s.page p).byteCount) b } }.setPage p
      { s.page p with byteCount := (s.page p).byteCount + 1, check := crcByte (s.page p).check b }

theorem append_within {s : State} {r : PageRef} (b : Byte) (hc : s.current r = true)
    (hs : (s.page r.page).state = .filling) (h0 : (s.page r.page).byteCount % 1024 ≠ 0) :
    s.append r b = (s.byteStored r.page b, .stored) := by
  have asked : (s.current r && (s.page r.page).state == .filling) = true := by simp [hc, hs]
  rw [State.append, if_pos asked]
  dsimp only
  rw [if_neg h0]
  rfl

/-- The state once the padding byte `b` has been stored (R59). -/
def State.padded (s : State) (j : CoderPage) (b : Byte) : State :=
  (s.byteStored j.ref.page b).updLcd fun l => { l with held := none, bits := [], job := some j }

theorem padPage_padded {s : State} {j : CoderPage} (hj : s.lcd.job = some j) (hc : s.current j.ref = true)
    (hs : (s.page j.ref.page).state = .filling) (h0 : (s.page j.ref.page).byteCount % 1024 ≠ 0)
    (h1 : 1 ≤ s.lcd.bits.length) (h8 : s.lcd.bits.length < 8) :
    s.padPage =
      (s.padded j (BitVec.ofNat 8 (bitsValue s.lcd.bits * 2 ^ (8 - s.lcd.bits.length))), true) := by
  have pending : ¬s.lcd.bits.isEmpty = true := by
    rw [List.isEmpty_iff]
    intro e
    simp [e] at h1
  rw [State.padPage, hj]
  dsimp only
  rw [if_neg pending, packPadded_short h1 h8, State.storeLine]
  simp only [storeBytes, append_within _ hc hs h0]
  rfl

theorem padPage_aligned {s : State} (h : s.lcd.bits = []) : s.padPage = (s, true) := by
  unfold State.padPage
  split
  · rfl
  · rw [h]; rfl

/-! ## BOARD_PAGE_END (R62) -/

theorem boardPageEnd_abandons {s : State} {tag : Nat} {j : CoderPage} {b : BoardPage} (h : s.inReset = false)
    (hm : s.lcd.mode = .board) (hj : s.lcd.job = some j) (hb : s.lcd.board = some b) (hscan : s.pmm.pendingScan = none)
    (hc : s.current j.ref = true) (hs : (s.page j.ref.page).state = .filling)
    (hd : (s.page j.ref.page).document = some b.document) (h64 : b.document < 64) :
    ∃ t, exec (.boardPageEnd tag (.fields true)) s = .next t ∧
      t.pmm = { s.pmm.pageFreed j.ref.page (s.page j.ref.page).slot (s.chain j.ref.page) with
        docs := tset s.pmm.docs b.document
          { s.doc b.document with filler := .none, pages := (s.doc b.document).pages.erase j.ref.page } } ∧
      t.lcd = s.lcd.boardPageDropped ∧
      Answered s t (s.replyNow tag 12 .ok 0 (.boardAbandoned (s.page j.ref.page).index)) := by
  have abandons : s.heeded.endBoardPage tag true =
      (s.heeded.boardPageAbandoned j b.document).reply tag 12 .ok 0 (.boardAbandoned (s.page j.ref.page).index) :=
    endBoardPage_abandons (s := s.heeded) tag hm hj hb hc hs hd h64
  have pmm := boardPageAbandoned_pmm s.heeded j b.document
  obtain ⟨bli, lcd, reports⟩ := boardPageAbandoned_frame s.heeded j b.document
  obtain ⟨answered, kept, same, -⟩ := reply_finish_memoryFreed (s := s) (v := s.heeded.boardPageAbandoned j b.document)
    (tag := tag) (code := 12) (r := .ok) (c := 0) (b := .boardAbandoned (s.page j.ref.page).index) bli
    (by rw [pmm]; exact hscan) (fun r hr => (reports r hr).resolve_left List.not_mem_nil)
  exact ⟨_, (commandArgs_fields s tag 12 true (fun x s => s.endBoardPage tag x) h).trans
    (congrArg (fun u : State => Host.Outcome.next u.finish) abandons), kept.trans pmm, (congrArg State.lcd same).trans lcd,
    answered⟩

theorem boardPageIsEnded : Claims.BoardPageIsEnded := by
  intro s tag j b h hm hj hb hh hscan hprt hc hs hd h64 hp
  have unheld : s.heeded.tryHeld = (s.heeded, true) := tryHeld_none (s := s.heeded) hh
  have completes (hl : 0 < j.lineCount) :
      s.heeded.endBoardPage tag false = s.heeded.completeBoardPage tag j b.document :=
    endBoardPage_completes (s := s.heeded) tag hm hj hb hl
  refine ⟨?_, fun hl hbits => ?_, fun g hl h1 h8 h0 hg => ?_, fun hl => ?_⟩
  · obtain ⟨t, next, pmm, lcd, answered⟩ := boardPageEnd_abandons (tag := tag) h hm hj hb hscan hc hs hd h64
    refine ⟨t, next, ?_, by rw [pmm]; rfl, fun k => ?_, ?_, by rw [lcd]; rfl, by rw [lcd]; rfl, answered⟩
    · rw [State.page, pmm]
      exact tget_tset_self _ _ _ _ hp
    · rw [pmm]
      refine (tget_lower s.pmm.slotUse (s.page j.ref.page).slot k).trans ?_
      split <;> rfl
    · rw [State.doc, pmm]
      exact tget_tset_self _ _ _ _ h64
  · obtain ⟨t, next, page, -, doc, mode, job, answered⟩ :=
      endBoardPage_next (s := s) (u := s.heeded) tag hj hc hs hd hp h unheld (completes hl)
        (padPage_aligned (s := s.heeded) hbits) rfl hprt rfl h64
    exact ⟨t, next, page, doc, mode, job, answered⟩
  · intro b8
    have stored : (s.heeded.padded j b8).page j.ref.page = { s.page j.ref.page with
        byteCount := (s.page j.ref.page).byteCount + 1, check := crcByte (s.page j.ref.page).check b8 } :=
      page_setPage_self _ j.ref.page _ hp
    obtain ⟨t, next, page, mem, doc, mode, job, answered⟩ :=
      endBoardPage_next (s := s) (u := s.heeded.padded j b8) tag rfl hc (by rw [stored]; exact hs) (by rw [stored]; exact hd)
        hp h unheld (completes hl) (padPage_padded (s := s.heeded) hj hc hs h0 h1 h8) rfl hprt rfl h64
    rw [stored] at page answered
    have address : segmentAddress ((s.page j.ref.page).last.getD 0) (s.page j.ref.page).byteCount =
        1024 * g + (s.page j.ref.page).byteCount % 1024 := by
      rw [hg, segmentAddress, Nat.mul_comm]
      rfl
    exact ⟨t, next, page, mem.trans (congrArg (s.pmm.mem.write · b8) address), doc, mode, job, answered⟩
  · rw [exec_boardPageEnd]
    exact commandArgs_onlyAnswered h (endBoardPage_untaken (s := s.heeded) tag hm hj hb hl hh)

/-- Settles O26: a board page opened, its lines coded or held, and its end. -/
theorem boardPagesAreOpenedFilledAndEnded : Obligations.BoardPagesAreOpenedFilledAndEnded :=
  ⟨boardPageIsOpened, boardLinesAreCoded, heldLineWaitsForASegment, boardPageIsEnded⟩

end Sys2Proof.Machine
end

section
/-!
PROOFS. The line channels' shared facts, and LINE_CONFIG's parity byte (O34). What an event does at one line is one update of
that line; what it owes beside, an evaluation, asks nothing of anybody while no job waits.
-/

namespace Sys2Proof.Machine

set_option Elab.async false

/-! ## One line's updates -/

theorem updLine_updLine (s : State) (n : LineNo) (f g : Line → Line) :
    (s.updLine n f).updLine n g = s.updLine n fun l => g (f l) := by
  simp [State.updLine]

theorem updLine_congr {s : State} {n : LineNo} {f g : Line → Line} (h : f (s.line n) = g (s.line n)) :
    s.updLine n f = s.updLine n g :=
  congrArg (fun l => { s with lines := s.lines.set n l }) h

theorem updLine_of_fixed {s : State} {n : LineNo} {f : Line → Line} (h : f (s.line n) = s.line n) : s.updLine n f = s := by
  have stands : s.lines.set n s.lines[n] = s.lines := Vector.set_getElem_self _
  exact (congrArg (fun l => { s with lines := s.lines.set n l }) h).trans (congrArg (fun v => { s with lines := v }) stands)

/-! ## Reports that ask nothing -/

/-- Reports whose handlers leave the state as it is are worked off to no effect. -/
theorem drain_idle (k : Nat) {s : State}
    (h : ∀ r ∈ s.reports, ∀ rs, { s with reports := rs }.handle r = { s with reports := rs }) :
    drain k s = { s with reports := s.reports.drop k } := by
  induction k generalizing s with
  | zero => rfl
  | succ k ih =>
    match e : s.reports with
    | [] => rw [drain_of_quiet _ s e, List.drop_nil, ← e]
    | r :: rs =>
      rw [e, List.forall_mem_cons] at h
      rw [drain, e]
      dsimp only
      rw [h.1 rs]
      exact ih h.2

theorem finish_idle {s : State}
    (h : ∀ r ∈ s.reports, ∀ rs, { s with reports := rs }.handle r = { s with reports := rs }) :
    s.finish = s.quieted.finish := by
  have clears (rs : List Report) : { s with reports := rs }.select.quieted = s.select.quieted := by
    rw [select_setReports]; rfl
  rw [State.finish, drain_idle _ h, finish_of_quiet s.quieted rfl]
  exact (clears _).trans (clears []).symm

/-- With no job waiting an evaluation binds nothing (R125). -/
theorem evaluate_idle {s : State} (h : s.dsp.order = []) : s.evaluate = s := by
  have none_ready : s.nextCandidate = none := by simp [State.nextCandidate, State.candidates, h]
  rw [State.evaluate, evaluateSteps, none_ready]
  cases s.openLine <;> rfl

theorem finish_evaluate {s : State} (hr : ∀ r ∈ s.reports, r = .evaluate) (ho : s.dsp.order = []) :
    s.finish = s.quieted.finish :=
  finish_idle fun r hm rs => by rw [hr r hm]; exact evaluate_idle (s := { s with reports := rs }) ho

/-- An event that owes evaluations alone, with no job waiting, ends with the selector's choice. -/
theorem evaluate_nothingButChoice {s : State} (hr : ∀ r ∈ s.reports, r = .evaluate) (ho : s.dsp.order = []) :
    NothingButChoice s s.finish := by
  rw [finish_evaluate hr ho]
  exact finish_nothingButChoice s.quieted rfl

/-! ## What the selector's choice leaves -/

namespace NothingButChoice

variable {s t : State} (h : NothingButChoice s t)
include h

theorem same : SameButLink s t := by
  obtain ⟨-, -, -, -, same⟩ := h
  exact same

theorem lines : t.lines = s.lines := by rw [h.same.1]
theorem line (n : LineNo) : t.line n = s.line n := by rw [State.line, h.lines]; rfl
theorem ctx (n : LineNo) : t.ctx n = s.ctx n := by rw [State.ctx, h.line]; rfl
theorem sess (n : LineNo) : t.sess n = s.sess n := by rw [State.sess, h.ctx]; rfl
theorem chg : t.chg = s.chg := by rw [h.same.1]
theorem desk (k : Nat) : t.desk k = s.desk k := by rw [State.desk, h.chg]; rfl
theorem callCounter : t.callCounter = s.callCounter := by rw [h.same.1]
theorem mem : t.pmm.mem = s.pmm.mem := by rw [h.same.1]
theorem freeList : t.pmm.freeList = s.pmm.freeList := by rw [h.same.1]
theorem flagged (k : NoticeKind) : t.flagged k = s.flagged k := by rw [State.flagged, h.2.1]; rfl
theorem repliesOwed : t.repliesOwed = s.repliesOwed := h.1

end NothingButChoice

/-! ## LINE_CONFIG (R74)

`Claims.LineConfigFollowsR74` says that a LINE_CONFIG whose parity byte is above 2 makes no configuration. The catch-all
branch of `Parity.ofCode` answers `none`, which inside the namespace `Parity` is the parity NONE and no absent value: every
byte above 2 stands for NONE, and the configuration is made. -/

/-- A LINE_CONFIG whose one field out of range is the parity byte 3. -/
def parityOutOfRange : LineConfigArgs :=
  { line := 0, enableIn := true, enableOut := true, ringCount := 2, ringOnMin := 200, ringGapMax := 8, metering := 0
    pulseOnMin := 40, pulseCp := 10, maxStep := 5, accessPrefix := [], dialToneWait := 30, answerWait := 600
    frameReply := 60, releaseGuard := 20, parity := 3, stopBits := 1, bitOrder := 0, rateDivider := 208 }

/-- The command is accepted: its configuration is loaded with parity NONE. -/
theorem lineConfig_takes_parityOutOfRange :
    ∃ c, lineConfigOf parityOutOfRange = some c ∧ c.parity = .none ∧
      ∃ t, exec (.lineConfig 0 (.fields parityOutOfRange)) {} = .next t ∧ (t.line 0).config = c :=
  ⟨_, rfl, rfl, _, rfl, by decide⟩

/-- Refutes O34: its part `LineConfigFollowsR74` fails where the parity byte is above 2. -/
theorem not_linesAreConfiguredAndControlled : ¬ Obligations.LinesAreConfiguredAndControlled := by
  rintro ⟨-, follows, -⟩
  obtain ⟨refuses, -⟩ := follows parityOutOfRange
  obtain ⟨c, taken, -⟩ := lineConfig_takes_parityOutOfRange
  cases (refuses (.inr (.inr (.inr (.inl (by decide)))))).symm.trans taken

end Sys2Proof.Machine
end

section
/-!
PROOFS. The end of a received call (O39). Its part `ReceptionEndsWithTheCall` says that every page left to the received
document stands COMPLETE or DAMAGED after the event. A state in which a page stands in two documents refutes it: when the
close is reported to the dispatcher, it can free the other document and the shared page with it.
-/

namespace Sys2Proof.Machine

set_option Elab.async false

/-- The reception record of a call that receives document 0 and prints nothing. -/
def unprintedReception : Reception :=
  { callId := 0, document := 0, rule := none, desk := 0, pool := none, priority := 2, copies := 0, hold := true, entry := none
    queueFull := false }

/-- A job in progress that sends document `d` to the destinations `dests`. -/
def jobOf (d : Nat) (dests : List Dest) : Job :=
  { tag := 0, seq := 0, document := d, desk := 0, priority := 0, maxAttempts := 1, redial := 0, submitTime := 0
    dests := dests }

/-- A received call on line 0 between two pages. -/
def receivedCtx : Ctx := { dir := .inbound, sess := some { role := .callee, stage := .waitHead } }

/-- Line 0 receives document 0 while line 1 is idle. Page 5 stands both in document 0 and in document 1, which waits for
its job's one destination with no other hold. -/
def sharedPage : State :=
  { pmm := { pages := tset (Vector.replicate 256 {}) 5 { state := .complete, document := some 0, index := 1, final := true }
             docs := tset (tset (Vector.replicate 64 {}) 0
               { state := .opened, origin := .received, pages := [5], boardHold := true, sendHold := 1, filler := .lch 0 }) 1
               { state := .closed, pages := [5], sendHold := 1 } }
    lines := (Vector.replicate 4 {}).set 0 { state := .receiving, ctx := some receivedCtx } |>.set 1 { state := .idle }
    dsp := { jobs := tset (tset (Vector.replicate 32 none) 0 (some (jobOf 0 []))) 1 (some (jobOf 1 [{ dial := [] }]))
             order := [0, 1] }
    rtr := { reception := (Vector.replicate 4 none).set 0 (some unprintedReception) } }

/-- Document 0's close is reported to the dispatcher, whose evaluation finds no route for document 1's destination: the job
is over, document 1 is freed, and page 5 with it. -/
theorem carrierLost_frees_sharedPage :
    ∃ t, exec (.carrierLost 0) sharedPage = .next t ∧ (t.page 5).state = .free :=
  ⟨_, rfl, by decide⟩

/-- Refutes O39: its part `ReceptionEndsWithTheCall` fails where a page of the received document stands in another
document too, which the dispatcher frees when the close is reported to it. -/
theorem not_callsAreReleasedAndRecorded : ¬ Obligations.CallsAreReleasedAndRecorded := by
  rintro ⟨-, ends, -⟩
  obtain ⟨t, next, -, -, -, -, held, -⟩ := ends sharedPage 0 receivedCtx (.carrierLost 0) .carrierLost unprintedReception
    rfl rfl rfl rfl rfl rfl rfl rfl rfl rfl (by decide) nofun (by decide)
  obtain ⟨-, -, -, stands⟩ := held (by decide) rfl
  obtain ⟨complete, -⟩ := stands 5 (by decide)
  obtain ⟨u, next', freed⟩ := carrierLost_frees_sharedPage
  cases next.symm.trans next'
  exact absurd (complete.symm.trans freed) (by decide)

end Sys2Proof.Machine
end

section
/-!
PROOFS. Ringing and answering (O35). A qualified burst makes one update of its line, with and without the answer test.
-/

namespace Sys2Proof.Machine

set_option Elab.async false

/-! ## Ringing and answering (R79, R86, R87) -/

/-- A line that rings with the record `r`: its gap timer runs, and no burst is being qualified (R86). -/
def Line.ringsWith (l : Line) (r : RingRecord) : Line :=
  { l with state := .ringing, ringQual := none, ringGap := some l.config.ringGapMax, ringing := some r }

/-- A line that answers the call `id` (R87): hook closed, loop check timed, context filled from the ringing record. -/
def Line.answers (l : Line) (id : Nat) (r : RingRecord) : Line :=
  { l with
    state := .answering, hookClosed := true, ringQual := none, ringGap := none, ringing := none, loopTimer := some 300
    ctx := some { callId := id, dir := .inbound, start := r.time, clockUnset := r.unset, reservation := true } }

section AtOneLine

variable {s : State} {n : LineNo} {f : State → State} {F G : Line → Line}

theorem heed_gives {u : State} (h : s.inReset = false) (hf : f s.quieted = u) : s.heed f = .next u.finish :=
  hf ▸ heed_of_heeds s f h

/-- A row that makes one update of a line, and the same update by another function. -/
theorem heed_updLine (h : s.inReset = false) (hf : f s.quieted = s.quieted.updLine n F) (hF : F (s.line n) = G (s.line n)) :
    ∃ t, s.heed f = .next t ∧ NothingButChoice (s.updLine n G) t :=
  heed_nothingButChoice h (hf.trans (updLine_congr hF))

theorem heed_line (h : s.inReset = false) (hf : f s.quieted = s.quieted.updLine n F) :
    ∃ t, s.heed f = .next t ∧ t.line n = F (s.line n) ∧ NothingButChoice (s.updLine n F) t :=
  have ⟨t, runs, c⟩ := heed_nothingButChoice (u := s.updLine n F) h hf
  ⟨t, runs, (c.line n).trans (line_updLine_self ..), c⟩

theorem pin_updLine {set : State → State} (h : s.inReset = false) (hf : f (set s.quieted) = s.quieted.updLine n F)
    (hF : F (s.line n) = G (s.line n)) : ∃ t, s.pin set f = .next t ∧ NothingButChoice (s.updLine n G) t :=
  pin_nothingButChoice h (hf.trans (updLine_congr hF))

end AtOneLine

section Ringing

variable {s : State} {n : LineNo} {r : RingRecord}

/-- A qualified burst makes `r` the ringing record (R86): the first one in IDLE, a further one in RINGING. -/
def State.rings (s : State) (n : LineNo) (r : RingRecord) : Prop :=
  (∃ q, (s.line n).state = .ringing ∧ (s.line n).ringing = some q ∧ r = { q with bursts := q.bursts + 1 }) ∨
    (s.line n).state = .idle ∧ r = { time := s.now, bursts := 1, reason := none, unset := !s.chg.clock.set }

/-- The line with the burst that has been qualified on it, before the answer test. -/
theorem burst_eq (h : s.rings n r) : s.burst n = (s.enterState n .ringing).afterBurst n r := by
  rcases h with ⟨q, hs, hq, rfl⟩ | ⟨hs, rfl⟩
  · have stands : s.enterState n .ringing = s :=
      updLine_of_fixed (show { s.line n with state := .ringing } = s.line n by rw [← hs])
    rw [stands, State.burst, hs, hq]
  · rw [State.burst, hs]

theorem burst_merged : (s.enterState n .ringing).updLine n (fun l =>
    { l with ringQual := none, ringGap := some l.config.ringGapMax, ringing := some r }) = s.updLine n (·.ringsWith r) :=
  updLine_updLine ..

theorem afterBurst_counts (h : r.bursts < (s.line n).config.ringCount) :
    (s.enterState n .ringing).afterBurst n r = s.updLine n (·.ringsWith r) := by
  rw [State.afterBurst, burst_merged, line_updLine_self]
  exact if_pos h

theorem answerTest_ringsWith : (s.updLine n (·.ringsWith r)).answerTest n = s.answerTest n := by
  rw [State.answerTest, line_updLine_self]
  rfl

theorem enterAnswering_eq : s.enterAnswering n r =
    { s.reserve with callCounter := wrap16 s.callCounter }.updLine n (·.answers s.callCounter r) := rfl

theorem enterAnswering_ringsWith : (s.updLine n (·.ringsWith r)).enterAnswering n r =
    { s.reserve with callCounter := wrap16 s.callCounter }.updLine n (·.answers s.callCounter r) := by
  rw [enterAnswering_eq]
  exact updLine_updLine { s.reserve with callCounter := wrap16 s.callCounter } n (·.ringsWith r) (·.answers s.callCounter r)

section Tested

variable (h : (s.line n).config.ringCount ≤ r.bursts)
include h

theorem afterBurst_fails {f : AnswerFail} (hf : s.answerTest n = some f) :
    (s.enterState n .ringing).afterBurst n r = s.updLine n (·.ringsWith { r with reason := some f }) := by
  rw [State.afterBurst, burst_merged, line_updLine_self, answerTest_ringsWith, hf]
  exact (if_neg (Nat.not_lt.2 h)).trans (updLine_updLine ..)

theorem afterBurst_answers (hf : s.answerTest n = none) :
    (s.enterState n .ringing).afterBurst n r =
      { s.reserve with callCounter := wrap16 s.callCounter }.updLine n (·.answers s.callCounter r) := by
  rw [State.afterBurst, burst_merged, line_updLine_self, answerTest_ringsWith, hf]
  exact (if_neg (Nat.not_lt.2 h)).trans enterAnswering_ringsWith

end Tested

/-- The first condition of the answer test that fails (R86). -/
theorem answerTest_fails {f : AnswerFail} (h : if (s.line n).config.enableIn = false then f = AnswerFail.notEnabled
    else if 64 ≤ s.chg.reservations + s.chg.queue.length then f = .noRecordSlot
    else if s.freeCount < 32 then f = .noMemory
    else s.codeSet 0 = none ∧ s.codeSet 1 = none ∧ f = .noCodeSet) : s.answerTest n = some f := by
  have place : s.placeFree = decide (¬64 ≤ s.chg.reservations + s.chg.queue.length) :=
    decide_eq_decide.2 Nat.not_le.symm
  rw [State.answerTest, place, Config.answerNeeds]
  split at h
  · simp_all
  · split at h
    · simp_all
    · split at h
      · simp_all
      · simp_all [State.loaded]

theorem answerTest_passes (he : (s.line n).config.enableIn = true) (hp : s.chg.reservations + s.chg.queue.length < 64)
    (hm : 32 ≤ s.freeCount) (hc : (s.codeSet 0).isSome = true ∨ (s.codeSet 1).isSome = true) : s.answerTest n = none := by
  have place : s.placeFree = true := decide_eq_true hp
  have memory : ¬s.freeCount < Config.answerNeeds := Nat.not_lt.2 hm
  rcases hc with hc | hc <;> simp [State.answerTest, he, place, memory, State.loaded, hc]

end Ringing

theorem ringBurstsAreQualified : Claims.RingBurstsAreQualified := by
  intro s n h
  rw [exec_ringInputChange, exec_ringInputChange, exec_ringBurstQualified]
  refine ⟨fun hi hs => ?_, ?_, fun hq hs hc => ?_, fun r hq hs hr hc => ?_⟩
  · have heeds : (s.line n).state.heedsRing = true := by rcases hs with hs | hs <;> rw [hs] <;> rfl
    refine pin_updLine h (updLine_updLine ..) ?_
    simp only [hi, heeds, Bool.not_true, Bool.not_false, Bool.and_true, Bool.false_eq_true, if_true, if_false]
  · exact pin_updLine h (updLine_updLine ..) rfl
  · have rings : s.quieted.rings n _ := .inr ⟨hs, rfl⟩
    exact heed_updLine h ((if_pos hq).trans ((burst_eq rings).trans (afterBurst_counts hc))) rfl
  · have rings : s.quieted.rings n _ := .inl ⟨r, hs, hr, rfl⟩
    refine heed_updLine h ((if_pos hq).trans ((burst_eq rings).trans (afterBurst_counts hc))) ?_
    rw [Line.ringsWith, hs]

theorem answerTestDecidesAtRingCount : Claims.AnswerTestDecidesAtRingCount := by
  intro s n r h hq hr hc
  rw [exec_ringBurstQualified]
  have rings : s.quieted.rings n r := hr
  refine ⟨fun he hp hm hs => ?_, fun f hf => ?_⟩
  · have passes : s.quieted.answerTest n = none := answerTest_passes he hp hm hs
    obtain ⟨t, next, c⟩ := heed_next h ((if_pos hq).trans ((burst_eq rings).trans (afterBurst_answers hc passes))) rfl
    have at_n := (c.line n).trans (line_updLine_self ..)
    refine ⟨t, next, by rw [at_n]; rfl, by rw [at_n]; rfl, by rw [at_n]; rfl, by rw [at_n]; rfl, by rw [at_n]; rfl,
      c.chg, c.callCounter, c.mem, fun m hm => (c.line m).trans (line_updLine_ne _ _ _ _ hm.symm)⟩
  · have fails : s.quieted.answerTest n = some f := answerTest_fails hf
    exact heed_updLine h ((if_pos hq).trans ((burst_eq rings).trans (afterBurst_fails (s := s.quieted) hc fails))) rfl

theorem line_report (s : State) (r : Report) (n : LineNo) : (s.report r).line n = s.line n := rfl

theorem line_enterIdle (s : State) (n : LineNo) : (s.enterIdle n).line n =
    { s.line n with
      state := .idle
      ringQual := if (s.line n).ringInput then some ((s.line n).ringQual.getD (s.line n).config.ringOnMin) else none } := by
  rw [State.enterIdle, line_report, line_updLine_self]

theorem ringingIsAbandoned : Claims.RingingIsAbandoned := by
  intro s n r h ho hg hs hr
  rw [exec_ringGapExpiry]
  let raised := (s.quieted.updLine n fun l => { l with ringGap := none, ringing := none }).raise
    (.missedCall n r.time r.bursts r.reason)
  have abandons : s.quieted.abandonRinging n = raised.enterIdle n := by
    rw [State.abandonRinging, show (s.quieted.line n).state = .ringing from hs, show (s.quieted.line n).ringing = some r from hr]
  have stands : raised.line n = { s.line n with ringGap := none, ringing := none } := by
    rw [State.line, raise_lines]
    exact line_updLine_self ..
  have owed : ∀ q ∈ (raised.enterIdle n).reports, q = .evaluate := by simp [State.enterIdle, State.report, raised, State.quieted]
  have waits : (raised.enterIdle n).dsp.order = [] := (congrArg Dsp.order (raise_dsp ..)).trans ho
  have c : NothingButChoice (raised.enterIdle n) (raised.enterIdle n).finish := evaluate_nothingButChoice owed waits
  refine ⟨_, heed_gives h ((if_pos hg).trans abandons), ?_, ?_, ?_, ?_⟩
  · rw [c.line, line_enterIdle, stands]
  · exact (c.flagged _).trans (flagged_raise ..)
  · exact c.repliesOwed.trans (repliesOwed_raise ..)
  · exact c.chg.trans (raise_chg ..)

/-- Settles O35: bursts qualified, the answer test made or not, and ringing abandoned. -/
theorem ringingIsAnsweredOrAbandoned : Obligations.RingingIsAnsweredOrAbandoned :=
  ⟨ringBurstsAreQualified, answerTestDecidesAtRingCount, ringingIsAbandoned⟩

end Sys2Proof.Machine
end

section
/-!
PROOFS. Dialling (O38). The next dial character is one update of its line, `Line.dialsOn`, with an equation per kind of
character.
-/

namespace Sys2Proof.Machine

set_option Elab.async false

/-- The line with its next dial character taken (R84). -/
def Line.dialsOn (l : Line) : Line :=
  match l.dial with
  | [] => { l with state := .awaitAnswer, dialWait := none, answerWait := some l.config.answerWait }
  | c :: cs =>
    if c = charP then { l with dial := cs, dialWait := some .pause, pause := some 20 }
    else if c = charW then { l with dial := cs, dialWait := some .tone, dialToneWait := some l.config.dialToneWait }
    else { l with dial := cs, dialWait := some .carried, tx := l.tx ++ [.dialDigit c] }

/-- The line with a dial tone taken in SEIZED and the dialling begun (R83, R84). -/
def Line.beginsDialling (l : Line) : Line :=
  { l with
    state := .dialing, dialToneWait := none, toneSeen := false
    dial := l.config.accessPrefix ++ (l.ctx.map (·.dial)).getD [] : Line }.dialsOn

section Characters

variable {l : Line} {c : Byte} {cs : Text}

theorem dialsOn_end (h : l.dial = []) :
    l.dialsOn = { l with state := .awaitAnswer, dialWait := none, answerWait := some l.config.answerWait } := by
  rw [Line.dialsOn, h]

theorem dialsOn_pause (h : l.dial = charP :: cs) :
    l.dialsOn = { l with dial := cs, dialWait := some .pause, pause := some 20 } := by
  rw [Line.dialsOn, h]
  rfl

theorem dialsOn_wait (h : l.dial = charW :: cs) :
    l.dialsOn = { l with dial := cs, dialWait := some .tone, dialToneWait := some l.config.dialToneWait } := by
  rw [Line.dialsOn, h]
  rfl

theorem dialsOn_key (h : l.dial = c :: cs) (hk : isKeyChar c = true) :
    l.dialsOn = { l with dial := cs, dialWait := some .carried, tx := l.tx ++ [.dialDigit c] } := by
  have notP : c ≠ charP := by rintro rfl; cases hk
  have notW : c ≠ charW := by rintro rfl; cases hk
  rw [Line.dialsOn, h]
  exact (if_neg notP).trans (if_neg notW)

end Characters

section Dialling

variable (s : State) (n : LineNo)

theorem dialNext_eq : s.dialNext n = s.updLine n Line.dialsOn := by
  match h : (s.line n).dial with
  | [] =>
    rw [State.dialNext, h]
    exact updLine_congr (dialsOn_end h).symm
  | c :: cs =>
    rw [State.dialNext, h]
    dsimp only
    split
    · next hp =>
      subst hp
      exact (updLine_updLine ..).trans (updLine_congr (dialsOn_pause h).symm)
    · split
      · next hw =>
        subst hw
        exact (updLine_updLine ..).trans (updLine_congr (dialsOn_wait h).symm)
      · next hp hw =>
        rw [State.sendChars, updLine_updLine, updLine_updLine]
        refine updLine_congr ?_
        rw [Line.dialsOn, h]
        exact ((if_neg hp).trans (if_neg hw)).symm

theorem enterDialing_eq : s.enterDialing n = s.updLine n Line.beginsDialling := by
  rw [State.enterDialing, dialNext_eq, updLine_updLine]
  rfl

end Dialling

/-- What the line is once its first character, a key, is sent (R84). -/
theorem beginsDialling_key {l : Line} {x : Ctx} {c : Byte} {cs : Text} (hx : l.ctx = some x)
    (hd : l.config.accessPrefix ++ x.dial = c :: cs) (hk : isKeyChar c = true) :
    l.beginsDialling = { l with
      state := .dialing, dialToneWait := none, toneSeen := false, dial := cs, dialWait := some .carried
      tx := l.tx ++ [.dialDigit c] } := by
  refine dialsOn_key ?_ hk
  rw [← hd, hx]
  rfl

theorem dialToneBeginsDialling : Claims.DialToneBeginsDialling := by
  intro s n x c cs h hs hx
  rw [exec_dialTone]
  refine ⟨fun hl hd hk => ?_, fun hl => ?_⟩
  · have takes : s.quieted.dialToneHeard n = s.quieted.enterDialing n := by
      rw [State.dialToneHeard, show (s.quieted.line n).state = .seized from hs]
      exact if_pos hl
    exact heed_updLine h (takes.trans (enterDialing_eq ..)) (beginsDialling_key hx hd hk)
  · have unseen : ¬(s.line n).loopFound = true := by rw [hl]; nofun
    refine heed_nothingButChoice h ?_
    rw [State.dialToneHeard, show (s.quieted.line n).state = .seized from hs]
    exact if_neg unseen

/-- Dialling goes on at a pause's end and when the link has carried a digit: the next character is taken. -/
theorem dialling_exec {s : State} {n : LineNo} {e : Instr} {rest : List PumpChar} {G : Line → Line} (h : s.inReset = false)
    (hs : (s.line n).state = .dialing)
    (he : e = .pauseExpiry n ∧ (s.line n).pause.isSome = true ∧ rest = (s.line n).tx ∨
      e = .pumpCharacterSent n ∧ (s.line n).dialWait = some .carried ∧ (s.line n).pause = none ∧
        rest.any PumpChar.isDialDigit = false ∧ ∃ p, (s.line n).tx = p :: rest)
    (hG : { s.line n with pause := none, tx := rest : Line }.dialsOn = G (s.line n)) :
    ∃ t, exec e s = .next t ∧ NothingButChoice (s.updLine n G) t := by
  rcases he with ⟨rfl, hp, rfl⟩ | ⟨rfl, hw, hp, hd, p, ht⟩
  · rw [exec_pauseExpiry]
    exact heed_updLine h ((if_pos hp).trans ((dialNext_eq ..).trans (updLine_updLine ..))) hG
  · rw [exec_pumpCharacterSent]
    have goes : s.quieted.characterSent n = (s.quieted.updLine n fun l => { l with tx := rest }).dialNext n := by
      rw [State.characterSent, show (s.quieted.line n).tx = p :: rest from ht]
      exact if_pos ⟨hs, hw, hd⟩
    refine heed_updLine h (goes.trans ((dialNext_eq ..).trans (updLine_updLine ..))) (Eq.trans ?_ hG)
    rw [← hp]

theorem diallingGoesOn : Claims.DiallingGoesOn := by
  intro s n e rest h hs he
  refine ⟨fun hd => dialling_exec h hs he (dialsOn_end hd), fun c cs hd => ⟨fun hk => ?_, ?_, ?_⟩⟩
  · exact dialling_exec h hs he (dialsOn_key hd hk)
  · rintro rfl
    exact dialling_exec h hs he (dialsOn_pause hd)
  · rintro rfl
    exact dialling_exec h hs he (dialsOn_wait hd)

/-- Settles O38: the first character at the dial tone, and each next one by its kind. -/
theorem callsAreDialled : Obligations.CallsAreDialled := ⟨dialToneBeginsDialling, diallingGoesOn⟩

end Sys2Proof.Machine
end

section
/-!
PROOFS. Page bytes going out (O41). The operations of a session on its own line, each as one update of that line; the
codec's next byte and the values of PAGE_TAIL rest on the codec and the negotiated parameters alone.
-/

namespace Sys2Proof.Machine

set_option Elab.async false

/-! ## A session's operations on its line -/

/-- The line with its session record updated. -/
def Line.onSess (l : Line) (f : Session → Session) : Line :=
  { l with ctx := l.ctx.map fun c => { c with sess := c.sess.map f } }

/-- The line with its data phase, if any, ended (R78, R70). -/
def Line.endsPhase (l : Line) : Line :=
  match l.phase with
  | none => l
  | some p =>
    { l with
      tx := l.tx ++ [.dataStop], phase := none, renewed := false, pace := none
      codec := if p.dir == .receive && p.ready then l.codec.finish else l.codec }

/-- The line with the frame `f` sent as a request (R98). -/
def Line.requests (l : Line) (f : Frame) : Line :=
  { l.onSess fun y => { y with request := some { frame := f, sent := 1 }, expiries := 0 } with
    tx := l.tx ++ f.chars, frameReply := some l.config.frameReply }

/-- The line in a stage with a watch (R99). -/
def Line.watches (l : Line) (g : Stage) : Line :=
  { l.onSess fun y => { y with stage := g, expiries := 0 } with frameReply := some l.config.frameReply }

/-- The line with nothing left to carry and the pace interval over. -/
def Line.freed (l : Line) : Line := { l with tx := [], pace := none }

/-- The line with a page byte handed to a free link (R73, R78). -/
def Line.sendsByte (l : Line) (b : Byte) : Line :=
  { l with tx := l.tx ++ [.data b], codec := l.codec.handed b, pace := some 8 }

/-- The line with its page sent (R105): the phase ended, and PAGE_TAIL with the values `v` as a request. -/
def Line.sendsTail (l : Line) (v : Nat × Nat × BitVec 16) : Line :=
  (l.endsPhase.onSess fun y => { y with stage := .waitAck, recoded := y.recoded + l.codec.replaced }).requests
    (.pageTail v.1 v.2.1 v.2.2)

section Operations

variable {s : State} {n : LineNo} {l : Line} {x : Ctx} {y : Session}

theorem ctx_of_line (h : (s.line n).ctx = some x) : s.ctx n = x := by
  rw [State.ctx, h]
  rfl

theorem sess_of_line (h : (s.line n).ctx = some x) (hy : x.sess = some y) : s.sess n = y := by
  rw [State.sess, ctx_of_line h, hy]
  rfl

theorem onSess_eq (f : Session → Session) (h : l.ctx = some x) (hy : x.sess = some y) :
    l.onSess f = { l with ctx := some { x with sess := some (f y) } } := by
  simp only [Line.onSess, h, Option.map_some, hy]

theorem onSess_onSess (l : Line) (f g : Session → Session) : (l.onSess f).onSess g = l.onSess fun y => g (f y) := by
  simp only [Line.onSess, Option.map_map, Function.comp_def]

theorem updSess_eq (s : State) (n : LineNo) (f : Session → Session) : s.updSess n f = s.updLine n (·.onSess f) := rfl

theorem endPhase_eq (s : State) (n : LineNo) : s.endPhase n = s.updLine n Line.endsPhase := by
  match h : (s.line n).phase with
  | none =>
    have still : (s.line n).endsPhase = s.line n := by rw [Line.endsPhase, h]
    rw [updLine_of_fixed still, State.endPhase, State.stopPhase, h]
    rfl
  | some p =>
    have stops : s.stopPhase n = s.updLine n fun l =>
        { l with tx := l.tx ++ [.dataStop], phase := none, renewed := false, pace := none } := by
      rw [State.stopPhase, h]
      exact updLine_updLine ..
    rw [State.endPhase, stops, h]
    dsimp only
    split
    · next ends =>
      refine (updLine_updLine ..).trans (updLine_congr ?_)
      rw [Line.endsPhase, h]
      dsimp only
      rw [if_pos ends]
    · next goes =>
      refine updLine_congr ?_
      rw [Line.endsPhase, h]
      dsimp only
      rw [if_neg goes]

theorem endsPhase_sending {p : DataPhase} (h : l.phase = some p) (hd : p.dir = .send) :
    l.endsPhase = { l with tx := l.tx ++ [.dataStop], phase := none, renewed := false, pace := none } := by
  rw [Line.endsPhase, h]
  dsimp only
  rw [hd]
  rfl

theorem sendRequest_eq (s : State) (n : LineNo) (f : Frame) : s.sendRequest n f = s.updLine n (·.requests f) := by
  rw [State.sendRequest, State.startReply, State.sendFrame, State.sendChars, updSess_eq, updLine_updLine, updLine_updLine]
  rfl

theorem enterWatch_eq (s : State) (n : LineNo) (g : Stage) : s.enterWatch n g = s.updLine n (·.watches g) := by
  rw [State.enterWatch, State.startReply, State.enterStage, updSess_eq, updSess_eq, updLine_updLine, updLine_updLine]
  refine updLine_congr ?_
  rw [onSess_onSess]
  rfl

theorem sendsTail_eq {p : DataPhase} (hp : l.phase = some p) (hd : p.dir = .send) (h : l.ctx = some x) (hy : x.sess = some y)
    (v : Nat × Nat × BitVec 16) :
    l.sendsTail v = { l with
      phase := none, renewed := false, pace := none, frameReply := some l.config.frameReply
      tx := l.tx ++ [.dataStop] ++ (Frame.pageTail v.1 v.2.1 v.2.2).chars
      ctx := some { x with
        sess := some { y with
          stage := .waitAck, recoded := y.recoded + l.codec.replaced, expiries := 0
          request := some { frame := .pageTail v.1 v.2.1 v.2.2, sent := 1 } } } } := by
  rw [Line.sendsTail, endsPhase_sending hp hd, Line.requests, onSess_onSess, onSess_eq (x := x) (y := y) _ (by exact h) hy]
  rfl

/-! ## The codec's next byte (R72, R73) -/

theorem nextByte_updLine {F : Line → Line} (hq : (F (s.line n)).codec = (s.line n).codec)
    (hx : ((F (s.line n)).ctx.getD {}).params = (s.ctx n).params) : (s.updLine n F).nextByte n = s.nextByte n := by
  unfold State.nextByte State.sendStream State.recodeStream State.boundSet State.ctx
  rw [line_updLine_self, hq, hx]
  rfl

theorem tailValues_updLine {F : Line → Line} (hq : (F (s.line n)).codec = (s.line n).codec) :
    (s.updLine n F).tailValues n = s.tailValues n := by
  unfold State.tailValues
  rw [line_updLine_self, hq]
  rfl

section Sending

variable {p : DataPhase} (hp : (s.line n).phase = some p) (hd : p.dir = .send) (hr : p.ready = true)
  (hs : (s.sess n).stage = .sendingData) (ht : (s.line n).tx = [])
include hp hd hr hs ht

theorem sendProgress_byte {b : Byte} (hb : s.nextByte n = some b) (hf : (s.line n).pace = none) :
    s.sendProgress n = s.updLine n (·.sendsByte b) := by
  have free : (s.line n).pace.isNone = true := by rw [hf]; rfl
  rw [State.sendProgress, hp]
  refine (if_pos ⟨hd, hr, hs, ht⟩).trans ?_
  rw [hb]
  refine (if_pos free).trans ?_
  rw [State.sendChars, State.updCodec, updLine_updLine, updLine_updLine]
  rfl

theorem sendProgress_tail (hb : s.nextByte n = none) :
    s.sendProgress n = s.updLine n (·.sendsTail (s.tailValues n)) := by
  rw [State.sendProgress, hp]
  refine (if_pos ⟨hd, hr, hs, ht⟩).trans ?_
  rw [hb]
  exact (sendRequest_eq ..).trans (by rw [endPhase_eq, updSess_eq, updLine_updLine, updLine_updLine]; rfl)

end Sending

end Operations

/-- With the link free and the pace interval over the send data phase goes on, on the line as the event leaves it. -/
theorem sending_exec {s : State} {n : LineNo} {e : Instr} {F : Line → Line} (h : s.inReset = false)
    (hs : (s.line n).state = .sending)
    (he : e = .pumpCharacterSent n ∧ (∃ ch, (s.line n).tx = [ch]) ∧ (s.line n).pace = none ∨
      e = .paceIntervalExpiry n ∧ (s.line n).tx = [] ∧ (s.line n).pace.isSome = true)
    (hF : (s.quieted.updLine n Line.freed).sendProgress n = (s.quieted.updLine n Line.freed).updLine n F) :
    ∃ t, exec e s = .next t ∧ NothingButChoice (s.updLine n fun l => F l.freed) t := by
  rcases he with ⟨rfl, ⟨ch, ht⟩, hp⟩ | ⟨rfl, ht, hp⟩
  · rw [exec_pumpCharacterSent]
    have frees : (s.quieted.updLine n fun l => { l with tx := [] }) = s.quieted.updLine n Line.freed :=
      updLine_congr (s := s.quieted) (by rw [Line.freed, ← show (s.quieted.line n).pace = none from hp])
    have carries : s.quieted.characterSent n = (s.quieted.updLine n fun l => { l with tx := [] }).sendProgress n := by
      rw [State.characterSent, show (s.quieted.line n).tx = [ch] from ht]
      refine if_neg fun dials => ?_
      cases dials.1.symm.trans hs
    rw [frees, hF, updLine_updLine] at carries
    exact heed_nothingButChoice h carries
  · rw [exec_paceIntervalExpiry]
    have frees : (s.quieted.updLine n fun l => { l with pace := none }) = s.quieted.updLine n Line.freed :=
      updLine_congr (s := s.quieted) (by rw [Line.freed, ← show (s.quieted.line n).tx = [] from ht])
    have paces : s.quieted.paceEnds n = (s.quieted.updLine n fun l => { l with pace := none }).sendProgress n := if_pos hp
    rw [frees, hF, updLine_updLine] at paces
    exact heed_nothingButChoice h paces

/-- Settles O41: the next byte on a free link, or PAGE_TAIL after the last. -/
theorem pageBytesAreSent : Obligations.PageBytesAreSent := by
  intro s n x y p e h hx hy hg hp hd hr hs he
  have line : (s.quieted.updLine n Line.freed).line n = (s.line n).freed := line_updLine_self ..
  have stage : ((s.quieted.updLine n Line.freed).sess n).stage = .sendingData := by
    rw [sess_of_line (by rw [line]; exact hx) hy, hg]
  have phase : ((s.quieted.updLine n Line.freed).line n).phase = some p := by rw [line]; exact hp
  have free : ((s.quieted.updLine n Line.freed).line n).tx = [] := by rw [line]; rfl
  have paced : ((s.quieted.updLine n Line.freed).line n).pace = none := by rw [line]; rfl
  have next : (s.quieted.updLine n Line.freed).nextByte n = s.nextByte n := nextByte_updLine (s := s.quieted) rfl rfl
  have tail : (s.quieted.updLine n Line.freed).tailValues n = s.tailValues n := tailValues_updLine (s := s.quieted) rfl
  refine ⟨fun b hb => ?_, fun hb => ?_⟩
  · exact sending_exec h hs he (sendProgress_byte phase hd hr stage free (next.trans hb) paced)
  · obtain ⟨t, runs, c⟩ := sending_exec h hs he (sendProgress_tail phase hd hr stage free (next.trans hb))
    have ends : t.line n = (s.line n).freed.sendsTail (s.tailValues n) :=
      ((c.line n).trans (line_updLine_self ..)).trans (by rw [tail])
    rw [sendsTail_eq (l := (s.line n).freed) hp hd hx hy] at ends
    have sess := sess_of_line (congrArg Line.ctx ends) rfl
    exact ⟨t, runs, by rw [ends]; exact ⟨rfl, by rw [sess], rfl, by rw [sess], by rw [sess], rfl⟩⟩

end Sys2Proof.Machine
end

section
/-!
PROOFS. Session frames from the pump (O42). FRAME_BEGIN and the data characters are updates of their line; FRAME_END and
the delivery of a whole frame close an open body and have the frame arrive.
-/

namespace Sys2Proof.Machine

set_option Elab.async false

/-- A session line with a fresh frame body, where data flowed (R77, R110). -/
def Line.opensFrame (l : Line) : Line := { l.endsPhase.watches .waitTail with frame := some {} }

section Opening

variable {s : State} {n : LineNo} {x : Ctx} {y : Session} {st : Nat}

theorem openFrame_receiving (ht : (s.line n).state.takesFrames = true)
    (hp : (s.line n).phase = some { dir := .receive, step := st, ready := true }) :
    s.openFrame n = s.updLine n Line.opensFrame := by
  rw [State.openFrame, if_pos ht, hp]
  dsimp only
  rw [enterWatch_eq, endPhase_eq, updLine_updLine, updLine_updLine]
  rfl

theorem opensFrame_eq {l : Line} (hp : l.phase = some { dir := .receive, step := st, ready := true }) (h : l.ctx = some x)
    (hy : x.sess = some y) :
    l.opensFrame = { l with
      tx := l.tx ++ [.dataStop], phase := none, renewed := false, pace := none, codec := l.codec.finish
      frameReply := some l.config.frameReply, frame := some {}
      ctx := some { x with sess := some { y with stage := .waitTail, expiries := 0 } } } := by
  have ends : l.endsPhase = { l with
      tx := l.tx ++ [.dataStop], phase := none, renewed := false, pace := none, codec := l.codec.finish } := by
    rw [Line.endsPhase, hp]
    rfl
  rw [Line.opensFrame, ends, Line.watches, onSess_eq (x := x) (y := y) _ (by exact h) hy]

end Opening

theorem frameBodiesAreAssembled : Claims.FrameBodiesAreAssembled := by
  refine ⟨fun s n h ht hp => ?_, fun s n x y st h ht hx hy hp => ?_, fun s n f b e h hf => ?_, fun s n f h hf hm => ?_⟩
  · rw [exec_frameBegin]
    refine heed_nothingButChoice h ((if_pos ht).trans ?_)
    rw [show (s.quieted.line n).phase = none from hp]
    rfl
  · rw [exec_frameBegin]
    obtain ⟨t, runs, opens, -⟩ := heed_line h (openFrame_receiving (s := s.quieted) ht hp)
    have line := opens.trans (opensFrame_eq hp hx hy)
    have sess := sess_of_line (congrArg Line.ctx line) rfl
    exact ⟨t, runs, by rw [line]; exact ⟨rfl, rfl, rfl, rfl, by rw [sess], rfl⟩⟩
  · rw [exec_dataCharacterReceived]
    refine heed_nothingButChoice h ?_
    rw [State.takeData, show (s.quieted.line n).frame = some f from hf]
    dsimp only
    split
    · rfl
    · rfl
  · rw [exec_frameEnd]
    refine heed_nothingButChoice h ?_
    rw [State.closeFrame, show (s.quieted.line n).frame = some f from hf]
    exact if_pos hm

/-- A frame's own row has it delivered. -/
theorem exec_frame (f : Frame) (n : LineNo) (s : State) : exec (f.instr n) s = s.heed fun s => s.deliver n f := by
  cases f <;> rfl

theorem frameEndDeliversTheFrame : Claims.FrameEndDeliversTheFrame := by
  intro s n b h hb hm
  have body : (s.quieted.line n).frame = some b := hb
  have unmarked : ¬b.marked = true := by rw [hm]; nofun
  rw [exec_frameEnd]
  refine ⟨fun f hf => ?_, fun hf => heed_nothingButChoice h ?_⟩
  · have opened : ¬(s.quieted.line n).frame.isNone = true := by rw [body]; nofun
    have arrives : s.quieted.closeFrame n = s.quieted.deliver n f := by
      rw [State.deliver, if_neg opened, State.closeFrame, body]
      dsimp only
      rw [if_neg unmarked, hf]
    rw [exec_frame]
    exact (heed_gives h arrives).trans (heed_gives h rfl).symm
  · rw [State.closeFrame, body]
    dsimp only
    rw [if_neg unmarked, hf]
    rfl

/-- Settles O42: the frame body, and its end as the frame delivered. -/
theorem framesAreAssembledAndDelivered : Obligations.FramesAreAssembledAndDelivered :=
  ⟨frameBodiesAreAssembled, frameEndDeliversTheFrame⟩

end Sys2Proof.Machine
end

section
/-!
PROOFS. Segments granted and bytes appended (O43): a grant takes the head of the free list, and a byte is stored in the
page's last segment.
-/

namespace Sys2Proof.Machine

set_option Elab.async false

/-! ## MEMORY_LOW after a grant (R19) -/

theorem lowCheck_low {s : State} (ha : s.pmm.memLowArmed = true) (hl : s.freeCount < 128) :
    s.lowCheck = { s with pmm := { s.pmm with memLowArmed := false } }.raise (.memoryLow s.freeCount) := by
  have low : (s.pmm.memLowArmed && decide (s.freeCount < Config.lowThreshold)) = true := by rw [ha]; exact decide_eq_true hl
  rw [State.lowCheck, if_pos low]

theorem lowCheck_still {s : State} (h : s.pmm.memLowArmed = false ∨ 128 ≤ s.freeCount) : s.lowCheck = s := by
  have still : (s.pmm.memLowArmed && decide (s.freeCount < Config.lowThreshold)) = false := by
    rcases h with h | h
    · rw [h, Bool.false_and]
    · rw [decide_eq_false (Nat.not_lt.2 h), Bool.and_false]
  rw [State.lowCheck, still]
  rfl

theorem lowCheck_pmm (s : State) :
    s.lowCheck.pmm = { s.pmm with memLowArmed := s.pmm.memLowArmed && decide (128 ≤ s.freeCount) } := by
  by_cases h : s.pmm.memLowArmed = true ∧ s.freeCount < 128
  · obtain ⟨ha, hl⟩ := h
    rw [lowCheck_low ha hl, raise_pmm, decide_eq_false (Nat.not_le.2 hl), Bool.and_false]
  · have still : s.pmm.memLowArmed = false ∨ 128 ≤ s.freeCount := by
      rw [not_and, Nat.not_lt] at h
      exact or_iff_not_imp_left.2 fun ha => h (by simpa using ha)
    have stays : (s.pmm.memLowArmed && decide (128 ≤ s.freeCount)) = s.pmm.memLowArmed := by
      rcases still with h | h <;> simp [h]
    rw [lowCheck_still still, stays]

/-- What a possible MEMORY_LOW leaves. -/
theorem lowCheck_kept (s : State) : s.lowCheck.lines = s.lines ∧ s.lowCheck.lcd = s.lcd ∧
    s.lowCheck.repliesOwed = s.repliesOwed := by
  unfold State.lowCheck
  split
  · exact ⟨raise_lines .., raise_lcd .., repliesOwed_raise ..⟩
  · exact ⟨rfl, rfl, rfl⟩

/-- A kind that the mask enables is queued while there is room (R188). -/
theorem raise_queued {s : State} (b : NoticeBody) (tag : Nat) (he : s.bli.enabled b.kind = true)
    (hl : s.bli.notices.length < 32) :
    (s.raise b tag).bli.notices = s.bli.notices ++ [{ tag := tag, body := b, time := s.now }] := by
  have queues : (s.bli.enabled b.kind && decide (s.bli.notices.length < Config.noticePlaces)) = true := by
    rw [he]
    exact decide_eq_true hl
  unfold State.raise
  exact congrArg (fun u : State => u.bli.notices) (if_pos queues)

/-! ## Grants (R1, R3) -/

/-- The links once segment `g` joins page `p`'s chain as its last. -/
def State.linksWith (s : State) (p g : Nat) : Vector (Option Nat) 2048 :=
  tset (match (s.page p).last with
    | some l => tset s.pmm.links l (some g)
    | none => s.pmm.links) g none

/-- A page record with the segment `g` as its last. -/
def PageRec.takes (r : PageRec) (g : Nat) : PageRec := { r with first := some (r.first.getD g), last := some g }

/-- The state once segment `g`, the head of a free list, is page `p`'s. -/
def State.granted (s : State) (p g : Nat) (rest : List Nat) : State :=
  { s with pmm := { s.pmm with links := s.linksWith p g, freeList := rest } }.setPage p ((s.page p).takes g)

section Grant

variable {s : State} {p g : Nat} {rest : List Nat}

theorem grant_refused (h : (s.page p).source = .received ∧ s.pmm.freeList = [] ∨
    (s.page p).source ≠ .received ∧ s.pmm.freeList.length ≤ 64) : s.grant p = none := by
  have short : (s.page p).source.grantAllowed s.freeCount = false := by
    rcases h with ⟨hs, hf⟩ | ⟨hs, hf⟩
    · rw [hs, State.freeCount, hf]
      rfl
    · have few : decide (Config.scanGrantNeeds ≤ s.freeCount) = false := decide_eq_false (Nat.not_le.2 (Nat.lt_succ_of_le hf))
      match e : (s.page p).source with
      | .received => exact absurd e hs
      | .scan => exact few
      | .board => exact few
  rw [State.grant, short]
  rfl

theorem grant_head (hf : s.pmm.freeList = g :: rest) (h : (s.page p).source = .received ∨ 64 ≤ rest.length) :
    s.grant p = some (s.granted p g rest).lowCheck := by
  have count : s.freeCount = rest.length + 1 := congrArg List.length hf
  have allowed : (s.page p).source.grantAllowed s.freeCount = true := by
    rw [count]
    match e : (s.page p).source with
    | .received => exact decide_eq_true (Nat.le_add_left 1 rest.length)
    | .scan | .board => exact decide_eq_true (Nat.succ_le_succ (h.resolve_left (by rw [e]; nofun)))
  rw [State.grant, if_pos allowed, hf]
  rfl

/-- A grant succeeds with the head of the free list. -/
theorem grant_granted {u : State} (hg : s.grant p = some u) : ∃ g rest, u = (s.granted p g rest).lowCheck := by
  unfold State.grant at hg
  split at hg
  · split at hg
    · cases hg
    · exact ⟨_, _, (Option.some.inj hg).symm⟩
  · cases hg

theorem lowCheck_page (s : State) (q : Nat) : s.lowCheck.page q = s.page q := by
  rw [State.page, lowCheck_pmm]
  rfl

theorem granted_page_ne {q : Nat} (h : q ≠ p) : (s.granted p g rest).page q = s.page q := page_setPage_ne _ _ _ _ h.symm

theorem linksWith_granted (hg : g < 2048) : tget (s.linksWith p g) g none = none := tget_tset_self _ _ _ _ hg

theorem linksWith_last {l : Nat} (hl : (s.page p).last = some l) (h : l < 2048) (hne : l ≠ g) :
    tget (s.linksWith p g) l none = some g := by
  rw [State.linksWith, hl, tget_tset_ne _ _ _ _ _ hne.symm]
  exact tget_tset_self _ _ _ _ h

theorem linksWith_other {k : Nat} (hk : k ≠ g) (hl : (s.page p).last ≠ some k) :
    tget (s.linksWith p g) k none = tget s.pmm.links k none := by
  rw [State.linksWith, tget_tset_ne _ _ _ _ _ hk.symm]
  match e : (s.page p).last with
  | none => rfl
  | some l => exact tget_tset_ne _ _ _ _ _ fun same => hl (by rw [e, same])

end Grant

theorem segmentsAreGranted : Claims.SegmentsAreGranted := by
  refine ⟨fun s p h => grant_refused h, fun s p g rest hp hg hf h => ⟨_, grant_head hf h, ?_⟩⟩
  have pmm := lowCheck_pmm (s.granted p g rest)
  have links : (s.granted p g rest).lowCheck.pmm.links = s.linksWith p g := by rw [pmm]; rfl
  refine ⟨by rw [pmm]; rfl, by rw [pmm]; rfl, (lowCheck_page ..).trans (page_setPage_self _ _ _ hp),
    fun q hq => (lowCheck_page ..).trans (granted_page_ne hq), ?_, fun l hl h hne => ?_, fun k hk hl => ?_, by rw [pmm]; rfl,
    fun ha hl => ?_, fun hs => ?_⟩
  · rw [links, linksWith_granted hg]
  · rw [links, linksWith_last hl h hne]
  · rw [links, linksWith_other hk hl]
  · rw [lowCheck_low (s := s.granted p g rest) ha hl]
    exact ⟨flagged_raise .., fun hm hn => raise_queued (.memoryLow rest.length) 0 hm hn⟩
  · rw [lowCheck_still (s := s.granted p g rest) hs]
    rfl

/-! ## Bytes (R7) -/

section Append

variable {s u : State} {r : PageRef} (b : Byte) (hc : s.current r = true) (hs : (s.page r.page).state = .filling)
  (h0 : (s.page r.page).byteCount % 1024 = 0)
include hc hs h0

theorem append_refused (hg : s.grant r.page = none) : s.append r b = (s, .noSegment) := by
  have asked : (s.current r && (s.page r.page).state == .filling) = true := by simp [hc, hs]
  rw [State.append, if_pos asked]
  dsimp only
  rw [if_pos h0, hg]

theorem append_granted (hg : s.grant r.page = some u) : s.append r b = (u.byteStored r.page b, .stored) := by
  have asked : (s.current r && (s.page r.page).state == .filling) = true := by simp [hc, hs]
  rw [State.append, if_pos asked]
  dsimp only
  rw [if_pos h0, hg]
  rfl

end Append

/-- A page that is being filled has a record. -/
theorem lt_of_filling {s : State} {p : Nat} (h : (s.page p).state = .filling) : p < 256 := by
  by_contra out
  rw [page_of_out out] at h
  cases h

theorem byteStored_page_ne {s : State} {p q : Nat} {b : Byte} (h : q ≠ p) : (s.byteStored p b).page q = s.page q :=
  page_setPage_ne _ _ _ _ h.symm

theorem segmentAddress_eq (seg off : Nat) : segmentAddress seg off = 1024 * seg + off % 1024 := by
  rw [segmentAddress, Nat.mul_comm]

theorem byteStored_mem {s : State} {p g : Nat} (b : Byte) (hl : (s.page p).last = some g) :
    (s.byteStored p b).pmm.mem = s.pmm.mem.write (1024 * g + (s.page p).byteCount % 1024) b := by
  rw [← segmentAddress_eq, ← Option.getD_some (a := g) (b := 0), ← hl]
  rfl

theorem bytesAreAppended : Claims.BytesAreAppended := by
  intro s r b hc hp hs
  refine ⟨fun g h0 hl => ⟨_, append_within b hc hs h0, byteStored_mem b hl, rfl, page_setPage_self _ _ _ hp,
    fun q hq => byteStored_page_ne hq⟩, fun h0 hg => append_refused b hc hs h0 hg, fun u g h0 hg hl => ?_⟩
  obtain ⟨g', rest, rfl⟩ := grant_granted hg
  have record : ((s.granted r.page g' rest).lowCheck).page r.page = (s.page r.page).takes g' := by
    rw [lowCheck_page, State.granted, page_setPage_self _ _ _ hp]
  have stored := byteStored_mem b hl
  rw [record, show ((s.page r.page).takes g').byteCount % 1024 = 0 from h0, Nat.add_zero] at stored
  refine ⟨_, append_granted b hc hs h0 hg, stored, rfl, (page_setPage_self _ _ _ hp).trans ?_⟩
  rw [record]
  rfl

end Sys2Proof.Machine
end

section
/-!
PROOFS. Page characters received, and DATA_READY (O43). A character is appended to the page, or damages it for want of a
segment, and is verified by the codec either way.
-/

namespace Sys2Proof.Machine

set_option Elab.async false

/-! ## Final flags that nobody waits for -/

/-- With no print entry queued an event that owes final flags alone ends with the selector's choice (R153). -/
theorem pageFinal_nothingButChoice {s : State} (hr : ∀ r ∈ s.reports, ∃ d i, r = .pageFinal d i) (ho : s.prt.order = []) :
    NothingButChoice s s.finish := by
  have idle : ∀ r ∈ s.reports, ∀ rs, { s with reports := rs }.handle r = { s with reports := rs } := by
    intro r hm rs
    obtain ⟨d, i, rfl⟩ := hr r hm
    simp [State.handle, State.printPageFinal, ho]
  rw [finish_idle idle]
  exact finish_nothingButChoice s.quieted rfl

theorem reportFinal_reports {s : State} (p : Nat) (h : s.reports = []) :
    ∀ r ∈ (s.reportFinal p).reports, ∃ d i, r = .pageFinal d i := by
  unfold State.reportFinal
  split
  · next d _ =>
    intro r hm
    rw [State.report, h] at hm
    exact ⟨_, _, List.mem_singleton.1 hm⟩
  · rw [h]
    nofun

/-- What a report of a final flag leaves: everything but the reports owed. -/
theorem reportFinal_eq (s : State) (p : Nat) : s.reportFinal p = { s with reports := (s.reportFinal p).reports } := by
  unfold State.reportFinal
  split <;> rfl

theorem reportFinal_line (s : State) (p : Nat) (n : LineNo) : (s.reportFinal p).line n = s.line n := by
  rw [reportFinal_eq]
  rfl

theorem reportFinal_prt (s : State) (p : Nat) : (s.reportFinal p).prt = s.prt := by
  rw [reportFinal_eq]

theorem reportFinal_page (s : State) (p q : Nat) : (s.reportFinal p).page q = s.page q := by
  rw [reportFinal_eq]
  rfl

theorem reportFinal_pmm (s : State) (p : Nat) : (s.reportFinal p).pmm = s.pmm := by
  rw [reportFinal_eq]

theorem reportFinal_repliesOwed (s : State) (p : Nat) : (s.reportFinal p).repliesOwed = s.repliesOwed := by
  rw [reportFinal_eq]
  rfl

theorem reportFinal_codeSet (s : State) (p k : Nat) : (s.reportFinal p).codeSet k = s.codeSet k := by
  rw [reportFinal_eq]
  rfl

/-! ## A received character (R7, R70, R109) -/

/-- A page record damaged with the counts of the codec `q` (R8, R109). -/
def PageRec.damagedBy (g : PageRec) (q : Codec) : PageRec :=
  { g with state := .damaged, lineCount := min q.found g.density.maxLines, badLines := min q.bad 65535, final := true }

section Characters

variable {s : State} {n : LineNo} {x : Ctx} {y : Session} {r : PageRef} {k : Nat} {set : CodeSet} {b : Byte} {e : Bool} {st : Nat}

theorem verifyChar_eq (hq : (s.line n).codec.slot = some k) (hs : s.codeSet k = some set) (hx : (s.line n).ctx = some x) :
    s.verifyChar n b e = s.updCodec n fun q => q.verifyByte set x.params.coding.isDiff x.params.width b e := by
  rw [State.verifyChar, State.boundSet, hq, Option.bind_some, hs, ctx_of_line hx]

theorem damageReceived_eq (hc : s.current r = true) (hs : (s.page r.page).state = .filling) :
    s.damageReceived n r = (s.setPage r.page ((s.page r.page).damagedBy (s.line n).codec)).reportFinal r.page := by
  have asked : (s.current r && (s.page r.page).state == .filling) = true := by simp [hc, hs]
  rw [State.damageReceived, State.damagePage, if_pos asked]
  rfl

section Receiving

variable (hx : (s.line n).ctx = some x) (hy : x.sess = some y) (hr : y.page = some r)
include hx hy hr

theorem receiveByte_stored {u : State} (ha : s.append r b = (u, .stored)) : s.receiveByte n b e = u.verifyChar n b e := by
  rw [State.receiveByte, sess_of_line hx hy, hr]
  dsimp only
  rw [ha]

theorem receiveByte_damages (ha : s.append r b = (s, .noSegment)) :
    s.receiveByte n b e = ((s.updSess n fun t => { t with memExhausted := true }).damageReceived n r).verifyChar n b e := by
  rw [State.receiveByte, sess_of_line hx hy, hr]
  dsimp only
  rw [ha]

end Receiving

theorem dataCharacter_exec (h : s.inReset = false) (hf : (s.line n).frame = none)
    (hp : (s.line n).phase = some { dir := .receive, step := st, ready := true }) {u : State}
    (hu : s.quieted.receiveByte n b e = u) : exec (.dataCharacterReceived n b e) s = .next u.finish := by
  rw [exec_dataCharacterReceived]
  refine heed_gives h ?_
  rw [State.takeData, show (s.quieted.line n).frame = none from hf,
    show (s.quieted.line n).phase = some { dir := .receive, step := st, ready := true } from hp]
  exact hu

end Characters

theorem receivedByteIsAppended : Claims.ReceivedByteIsAppended := by
  intro s n x y r k set b e st h hx hy hr hf hp hc hs h0 hk hset
  have receives : s.quieted.receiveByte n b e = (s.quieted.byteStored r.page b).updCodec n
      fun q => q.verifyByte set x.params.coding.isDiff x.params.width b e :=
    (receiveByte_stored (s := s.quieted) hx hy hr (append_within b hc hs h0)).trans
      (verifyChar_eq (s := s.quieted.byteStored r.page b) hk hset hx)
  have c := finish_nothingButChoice ((s.quieted.byteStored r.page b).updCodec n
      fun q => q.verifyByte set x.params.coding.isDiff x.params.width b e) rfl
  refine ⟨_, dataCharacter_exec h hf hp receives, ?_, c.mem, fun q hq => ?_, (c.line n).trans (line_updLine_self ..),
    fun m hm => (c.line m).trans (line_updLine_ne _ _ _ _ hm.symm), c.freeList, c.repliesOwed⟩
  · exact (c.page r.page).trans (page_setPage_self _ _ _ (lt_of_filling hs))
  · exact (c.page q).trans (byteStored_page_ne (s := s.quieted) hq)

theorem receivedByteTakesASegment : Claims.ReceivedByteTakesASegment := by
  intro s n x y r k set b e st h hx hy hr hf hp hc hlt hs hsrc h0 hk hset ho
  refine ⟨fun g rest hfree => ?_, fun hfree => ?_⟩
  · let v := (s.quieted.granted r.page g rest).lowCheck
    obtain ⟨lines, lcd, replies⟩ := lowCheck_kept (s.quieted.granted r.page g rest)
    have line (m : LineNo) : v.line m = s.line m := by
      rw [State.line, lines]
      rfl
    have code : v.codeSet k = s.codeSet k := by
      rw [State.codeSet, lcd]
      rfl
    have record : v.page r.page = (s.page r.page).takes g :=
      (lowCheck_page ..).trans (page_setPage_self _ _ _ hlt)
    have free : v.pmm.freeList = rest := by
      rw [lowCheck_pmm]
      rfl
    have mem : v.pmm.mem = s.pmm.mem := by
      rw [lowCheck_pmm]
      rfl
    have grants : s.quieted.grant r.page = some v := grant_head hfree (.inl hsrc)
    have receives : s.quieted.receiveByte n b e = (v.byteStored r.page b).updCodec n
        fun q => q.verifyByte set x.params.coding.isDiff x.params.width b e :=
      (receiveByte_stored (s := s.quieted) hx hy hr (append_granted b hc hs h0 grants)).trans
        (verifyChar_eq (s := v.byteStored r.page b) ((congrArg (·.codec.slot) (line n)).trans hk) (code.trans hset)
          ((congrArg Line.ctx (line n)).trans hx))
    have c := finish_nothingButChoice ((v.byteStored r.page b).updCodec n
      fun q => q.verifyByte set x.params.coding.isDiff x.params.width b e) (lowCheck_reports _)
    have stored := byteStored_mem (s := v) (p := r.page) (g := g) b (by rw [record]; rfl)
    rw [record, show ((s.page r.page).takes g).byteCount % 1024 = 0 from h0, Nat.add_zero, mem] at stored
    refine ⟨_, dataCharacter_exec h hf hp receives, c.freeList.trans free, ?_, c.mem.trans stored, fun q hq => ?_, ?_,
      fun m hm => ?_, c.repliesOwed.trans replies⟩
    · refine (c.page r.page).trans ((page_setPage_self _ _ _ hlt).trans ?_)
      rw [record]
      rfl
    · exact (c.page q).trans ((byteStored_page_ne hq).trans ((lowCheck_page ..).trans (granted_page_ne hq)))
    · exact (c.line n).trans ((line_updLine_self ..).trans (by rw [← line n]; rfl))
    · exact (c.line m).trans ((line_updLine_ne _ _ _ _ hm.symm).trans (line m))
  · let w := s.quieted.updSess n fun t => { t with memExhausted := true }
    have line : w.line n = { s.line n with ctx := some { x with sess := some { y with memExhausted := true } } } :=
      (line_updLine_self ..).trans (onSess_eq (fun t => { t with memExhausted := true }) hx hy)
    let d := (w.setPage r.page ((w.page r.page).damagedBy (w.line n).codec)).reportFinal r.page
    have refused : s.quieted.grant r.page = none := grant_refused (.inl ⟨hsrc, hfree⟩)
    have damages : w.damageReceived n r = d := damageReceived_eq hc hs
    have codec : (w.line n).codec = (s.line n).codec := by rw [line]
    have dline : d.line n = w.line n := reportFinal_line ..
    have verifies : d.verifyChar n b e = d.updCodec n
        fun q => q.verifyByte set x.params.coding.isDiff x.params.width b e :=
      verifyChar_eq (x := { x with sess := some { y with memExhausted := true } }) (by rw [dline, codec]; exact hk)
        ((reportFinal_codeSet ..).trans hset) (by rw [dline, line])
    have receives : s.quieted.receiveByte n b e = d.updCodec n
        fun q => q.verifyByte set x.params.coding.isDiff x.params.width b e :=
      (receiveByte_damages (s := s.quieted) hx hy hr (append_refused b hc hs h0 refused)).trans
        ((congrArg (State.verifyChar · n b e) damages).trans verifies)
    have c : NothingButChoice (d.updCodec n _) (d.updCodec n _).finish := pageFinal_nothingButChoice
      (s := d.updCodec n fun q => q.verifyByte set x.params.coding.isDiff x.params.width b e)
      (reportFinal_reports _ rfl) ((congrArg Prt.order (reportFinal_prt ..)).trans ho)
    have ends := (c.line n).trans (line_updLine_self ..)
    rw [dline, line] at ends
    have sess := sess_of_line (congrArg Line.ctx ends) rfl
    refine ⟨_, dataCharacter_exec h hf hp receives, ?_, ?_, by rw [sess], by rw [sess], by rw [ends], by rw [ends], ?_⟩
    · refine (c.page r.page).trans ((reportFinal_page ..).trans ((page_setPage_self _ _ _ hlt).trans ?_))
      rw [codec]
      rfl
    · exact c.mem.trans (show d.pmm.mem = _ by rw [reportFinal_pmm]; rfl)
    · exact c.repliesOwed.trans (show d.repliesOwed = _ by rw [reportFinal_repliesOwed]; rfl)

/-! ## DATA_READY (R78, R105, R107) -/

/-- Every phase not begun awaits its training but a renewed send phase whose DATA_START has still to go out (R78, R106). -/
theorem awaiting_of {l : Line} {p : DataPhase} (hp : l.phase = some p) (hr : p.ready = false)
    (h : p.dir = .receive ∨ l.renewed = false ∨ ∀ st d, PumpChar.dataStart st d ∉ l.tx) : l.awaiting = some p := by
  have waits : (p.ready || (p.dir == .send && l.renewed && l.tx.any PumpChar.isDataStart)) = false := by
    rcases h with h | h | h
    · rw [hr, h]
      rfl
    · rw [hr, h, Bool.and_false]
      rfl
    · have gone : l.tx.any PumpChar.isDataStart = false := by
        refine List.any_eq_false.2 fun ch hm => ?_
        cases ch with
        | dataStart st d => exact absurd hm (h st d)
        | _ => nofun
      rw [hr, gone, Bool.and_false]
      rfl
  rw [Line.awaiting, hp]
  dsimp only
  rw [waits]
  rfl

/-- The line with its phase begun, in the stage `g` (R78). -/
def Line.begins (l : Line) (p : DataPhase) (g : Stage) : Line :=
  { l with phase := some { p with ready := true }, frameReply := none : Line }.onSess fun y => { y with stage := g }

section Begins

variable {s : State} {n : LineNo} {p : DataPhase} (h : (s.line n).awaiting = some p)
include h

theorem phaseReady_send (hd : p.dir = .send) :
    s.phaseReady n = (s.updLine n (·.begins p .sendingData)).sendProgress n := by
  obtain ⟨dir, step, ready⟩ := p
  subst hd
  rw [State.phaseReady, h]
  dsimp only
  rw [State.stopReply, State.enterStage, updSess_eq, updLine_updLine, updLine_updLine]
  rfl

theorem phaseReady_receive (hd : p.dir = .receive) : s.phaseReady n = s.updLine n (·.begins p .receivingData) := by
  obtain ⟨dir, step, ready⟩ := p
  subst hd
  rw [State.phaseReady, h]
  dsimp only
  rw [State.stopReply, State.enterStage, updSess_eq, updLine_updLine, updLine_updLine]
  rfl

end Begins

theorem begins_eq {l : Line} {x : Ctx} {y : Session} (p : DataPhase) (g : Stage) (hx : l.ctx = some x) (hy : x.sess = some y) :
    l.begins p g = { l with
      phase := some { p with ready := true }, frameReply := none
      ctx := some { x with sess := some { y with stage := g } } } :=
  onSess_eq (l := { l with phase := some { p with ready := true }, frameReply := none }) _ hx hy

theorem dataReadyStartsThePhase : Claims.DataReadyStartsThePhase := by
  intro s n x y st h hx hy
  rw [exec_dataReady]
  refine ⟨fun hp => ?_, fun b hp ht hf hb => ?_⟩
  · have waits : (s.quieted.line n).awaiting = some _ := awaiting_of hp rfl (.inl rfl)
    exact heed_updLine h (phaseReady_receive waits rfl) (begins_eq _ _ hx hy)
  · have waits : (s.quieted.line n).awaiting = some _ :=
      awaiting_of hp rfl (.inr (.inr fun st d hm => by rw [show (s.quieted.line n).tx = [] from ht] at hm; cases hm))
    let F : Line → Line := (·.begins { dir := .send, step := st, ready := false } .sendingData)
    have fills : F (s.line n) = _ := begins_eq _ _ hx hy
    have line : (s.quieted.updLine n F).line n = F (s.line n) := line_updLine_self ..
    have stage : ((s.quieted.updLine n F).sess n).stage = .sendingData := by
      rw [sess_of_line (congrArg Line.ctx (line.trans fills)) rfl]
    have codec : (F (s.line n)).codec = (s.line n).codec := by rw [fills]
    have params : ((F (s.line n)).ctx.getD {}).params = (s.ctx n).params := by
      rw [fills, ctx_of_line hx]
      rfl
    have next : (s.quieted.updLine n F).nextByte n = some b := (nextByte_updLine (s := s.quieted) codec params).trans hb
    have sends := sendProgress_byte (by rw [line, fills]) rfl rfl stage (by rw [line, fills]; exact ht) next
      (by rw [line, fills]; exact hf)
    refine heed_updLine h ((phaseReady_send waits rfl).trans (sends.trans (updLine_updLine ..))) ?_
    rw [fills, Line.sendsByte, ht]
    rfl

/-- Settles O43: grants and appends, the characters received by them, and DATA_READY. -/
theorem dataPhasesStartAndReceive : Obligations.DataPhasesStartAndReceive :=
  ⟨receivedByteIsAppended, receivedByteTakesASegment, segmentsAreGranted, bytesAreAppended, dataReadyStartsThePhase⟩

end Sys2Proof.Machine
end

section
/-!
PROOFS. The calls in progress while the blocks go on (O36, O37, O40, O44). What the end of a call owes the other blocks is
worked off after it: documents close and are freed, jobs end, prints and scans resume, and waiting destinations are bound.
`GoesOn s t` says that none of this touches a line that is not IDLE, or an account but for its count of active calls.
-/

namespace Sys2Proof.Machine

set_option Elab.async false

/-- From `s` to `t` the accounts stand but for their counts of active calls, and the board link but for notices raised. -/
structure AccountsStand (s t : State) : Prop where
  desk : ∀ k, t.desk k = { s.desk k with active := (t.desk k).active }
  link : RaisesOnly s t
  flags : ∀ k, s.flagged k = true → t.flagged k = true

/-- From `s` to `t` the other blocks have gone on: accounts and board link stand, and so does every line that is not IDLE.
A preorder, so that the proof of an operation follows the operation's own composition. -/
structure GoesOn (s t : State) : Prop extends AccountsStand s t where
  line : ∀ n, (s.line n).state ≠ .idle → t.line n = s.line n

/-- The fields that `GoesOn` reads. -/
def State.callSide (s : State) := (s.lines, s.chg.desks, s.bli)

theorem AccountsStand.refl (s : State) : AccountsStand s s := ⟨fun _ => rfl, rfl, fun _ => id⟩

theorem AccountsStand.trans {s u t : State} (h : AccountsStand s u) (k : AccountsStand u t) : AccountsStand s t :=
  ⟨fun d => by rw [k.desk d, h.desk d], h.link.trans k.link, fun i => k.flags i ∘ h.flags i⟩

theorem RaisesOnly.repliesOwed {s t : State} (h : RaisesOnly s t) : t.repliesOwed = s.repliesOwed := by
  rw [State.repliesOwed, h]
  rfl

theorem AccountsStand.raise (s : State) (b : NoticeBody) (tag : Nat) : AccountsStand s (s.raise b tag) :=
  ⟨fun d => by rw [State.desk, raise_chg]; rfl, raise_raisesOnly s b tag, fun _ => flagged_raise_of_flagged b tag⟩

theorem AccountsStand.updLine (s : State) (n : LineNo) (f : Line → Line) : AccountsStand s (s.updLine n f) :=
  ⟨fun _ => rfl, rfl, fun _ => id⟩

/-- A desk's count of active calls changes, and nothing else of it. -/
theorem AccountsStand.countCall (s : State) (k : Nat) (p : Option Nat) (f : Nat → Nat) :
    AccountsStand s (s.countCall k p f) := by
  have counts (u : State) (k : Nat) : AccountsStand u (u.updDesk k fun d => { d with active := f d.active }) := by
    refine ⟨fun e => ?_, rfl, fun _ => id⟩
    by_cases hk : k = e
    · subst hk
      by_cases h16 : k < 16
      · rw [desk_updDesk_self _ _ _ h16]
      · rw [show (u.updDesk k _).desk k = {} from dif_neg h16, show u.desk k = {} from dif_neg h16]
    · rw [desk_updDesk_ne _ _ _ _ hk]
  unfold State.countCall
  dsimp only
  split
  exacts [(counts s k).trans (counts _ _), counts s k]

namespace GoesOn

variable {s₀ s t : State}

theorem refl (s : State) : GoesOn s s := ⟨.refl s, fun _ _ => rfl⟩

theorem trans (h : GoesOn s₀ s) (k : GoesOn s t) : GoesOn s₀ t :=
  ⟨h.toAccountsStand.trans k.toAccountsStand, fun n hn => by
    have same := h.line n hn
    rw [k.line n (by rwa [same]), same]⟩

/-- A change of fields that `GoesOn` does not read. -/
theorem quiet (h : GoesOn s₀ s) (e : t.callSide = s.callSide := by rfl) : GoesOn s₀ t := by
  simp only [State.callSide, Prod.mk.injEq] at e
  obtain ⟨hl, hd, hb⟩ := e
  refine h.trans ⟨⟨fun k => ?_, by rw [RaisesOnly, hb], fun k => ?_⟩, fun n _ => ?_⟩
  · rw [State.desk, State.desk, hd]
  · rw [State.flagged, State.flagged, hb]; exact id
  · rw [State.line, State.line, hl]

/-- The state of an answer that carries a value beside it. -/
theorem of_fst {α : Type} {x : State × α} {a : α} (h : GoesOn s₀ x.1) (e : x = (t, a)) : GoesOn s₀ t := by
  rw [e] at h; exact h

theorem foldl {α : Type} {f : State → α → State} (h : GoesOn s₀ s) (l : List α)
    (hf : ∀ t a, GoesOn s₀ t → GoesOn s₀ (f t a)) : GoesOn s₀ (l.foldl f s) :=
  List.foldlRecOn l f h fun t ht a _ => hf t a ht

theorem raise {b : NoticeBody} {tag : Nat} (h : GoesOn s₀ s) : GoesOn s₀ (s.raise b tag) :=
  h.trans ⟨.raise s b tag, fun n _ => by rw [State.line, raise_lines]; rfl⟩

theorem report {r : Report} (h : GoesOn s₀ s) : GoesOn s₀ (s.report r) := h.quiet
theorem setDoc {d : Nat} {r : DocRec} (h : GoesOn s₀ s) : GoesOn s₀ (s.setDoc d r) := h.quiet
theorem setJob {j : Nat} {r : Option Job} (h : GoesOn s₀ s) : GoesOn s₀ (s.setJob j r) := h.quiet
theorem setDsp {q : Dsp} (h : GoesOn s₀ s) : GoesOn s₀ { s with dsp := q } := h.quiet
theorem setDest {j d : Nat} {x : Dest} (h : GoesOn s₀ s) : GoesOn s₀ (s.setDest j d x) := h.quiet
theorem setEntry {e : Nat} {r : Option Entry} (h : GoesOn s₀ s) : GoesOn s₀ (s.setEntry e r) := h.quiet
theorem updPrt {f : Prt → Prt} (h : GoesOn s₀ s) : GoesOn s₀ (s.updPrt f) := h.quiet
theorem updLcd {f : Lcd → Lcd} (h : GoesOn s₀ s) : GoesOn s₀ (s.updLcd f) := h.quiet
theorem updScn {f : Scn → Scn} (h : GoesOn s₀ s) : GoesOn s₀ (s.updScn f) := h.quiet
theorem setReception {n : LineNo} {r : Option Reception} (h : GoesOn s₀ s) : GoesOn s₀ (s.setReception n r) := h.quiet

/-! ### The page memory manager -/

theorem freeChain {p : Nat} (h : GoesOn s₀ s) : GoesOn s₀ (s.freeChain p) := by
  unfold State.freeChain
  split
  exacts [h, h.quiet]

theorem freePage {p : Nat} (h : GoesOn s₀ s) : GoesOn s₀ (s.freePage p) := h.freeChain.quiet

theorem lowCheck (h : GoesOn s₀ s) : GoesOn s₀ s.lowCheck := by
  unfold State.lowCheck
  split
  exacts [h.quiet.raise, h]

theorem grant {p : Nat} (h : GoesOn s₀ s) (e : s.grant p = some t) : GoesOn s₀ t := by
  obtain ⟨g, rest, rfl⟩ := grant_granted e
  exact h.quiet.lowCheck

theorem append {r : PageRef} {b : Byte} (h : GoesOn s₀ s) : GoesOn s₀ (s.append r b).1 := by
  unfold State.append
  dsimp only
  split
  · split
    · exact h
    · rename_i u e
      split at e
      · exact (h.grant e).quiet
      · cases e
        exact h.quiet
  · exact h

theorem openPage {q : OpenRequest} (h : GoesOn s₀ s) : GoesOn s₀ (s.openPage q).1 := by
  unfold State.openPage
  dsimp only
  split
  · exact h
  · split
    · exact h
    · split
      exacts [h, h.quiet]

theorem reportFinal {p : Nat} (h : GoesOn s₀ s) : GoesOn s₀ (s.reportFinal p) := by
  rw [reportFinal_eq]
  exact h.quiet

theorem completePage {r : PageRef} {n bad : Nat} {poor : Bool} (h : GoesOn s₀ s) :
    GoesOn s₀ (s.completePage r n bad poor) := by
  unfold State.completePage
  dsimp only
  split
  exacts [h.quiet.reportFinal, h]

theorem damagePage {r : PageRef} {n bad : Nat} (h : GoesOn s₀ s) : GoesOn s₀ (s.damagePage r n bad) := by
  unfold State.damagePage
  dsimp only
  split
  exacts [h.quiet.reportFinal, h]

theorem fullDiscard {r : PageRef} (h : GoesOn s₀ s) : GoesOn s₀ (s.fullDiscard r) := by
  unfold State.fullDiscard
  dsimp only
  split
  · split
    exacts [h.freeChain.quiet, h.freeChain.quiet]
  · exact h

theorem acquire {k : ReaderKind} {p : Nat} (h : GoesOn s₀ s) : GoesOn s₀ (s.acquire k p).1 := by
  unfold State.acquire
  dsimp only
  split
  exacts [h.quiet, h]

theorem release {k : ReaderKind} {r : PageRef} (h : GoesOn s₀ s) : GoesOn s₀ (s.release k r) := by
  unfold State.release
  dsimp only
  split
  · split
    exacts [h.quiet.freePage, h.quiet]
  · exact h

theorem dropPage {p : Nat} (h : GoesOn s₀ s) : GoesOn s₀ (s.dropPage p) := by
  unfold State.dropPage
  split
  exacts [h.freePage, h.quiet]

theorem freeDoc {d : Nat} (h : GoesOn s₀ s) : GoesOn s₀ (s.freeDoc d) := by
  have dropped := h.foldl (s.doc d).pages fun _ p ht => ht.dropPage (p := p)
  unfold State.freeDoc
  dsimp only
  split
  exacts [dropped.quiet, dropped.quiet]

theorem freeTest {d : Nat} (h : GoesOn s₀ s) : GoesOn s₀ (s.freeTest d) := by
  unfold State.freeTest
  split
  exacts [h.freeDoc, h]

theorem closeDoc {d : Nat} (h : GoesOn s₀ s) : GoesOn s₀ (s.closeDoc d) := by
  unfold State.closeDoc
  dsimp only
  split
  · split
    · exact h.quiet.freeDoc
    · split
      exacts [h.quiet, h.quiet]
  · exact h

/-! ### The dispatcher -/

theorem destResult {j d : Nat} {o : Option OutcomeInfo} (h : GoesOn s₀ s) : GoesOn s₀ (s.destResult j d o) := by
  unfold State.destResult
  split
  exacts [h.raise, h]

theorem completeJob {j : Nat} {lower : Bool} (h : GoesOn s₀ s) : GoesOn s₀ (s.completeJob j lower) := by
  unfold State.completeJob
  dsimp only
  split
  · exact h
  · split
    · split
      exacts [h.setJob.setDoc.freeTest.raise.setJob.setDsp, h.setJob.raise.setJob.setDsp]
    · exact h

theorem takeOutcome {j d : Nat} {o : CallOutcome} {i : OutcomeInfo} (h : GoesOn s₀ s) :
    GoesOn s₀ (s.takeOutcome j d o i) := by
  unfold State.takeOutcome
  split
  · dsimp only
    split
    exacts [h.setDest.destResult.report.completeJob, h.setDest.destResult.completeJob]
  · exact h

theorem failWaiting {j : Nat} {r : LastReason} (h : GoesOn s₀ s) : GoesOn s₀ (s.failWaiting j r) := by
  refine h.foldl _ fun t d ht => ?_
  split
  · split
    exacts [ht.quiet.destResult, ht]
  · exact ht

theorem jobDocClosed {doc count : Nat} (h : GoesOn s₀ s) : GoesOn s₀ (s.jobDocClosed doc count) := by
  unfold State.jobDocClosed
  split
  · exact h
  · split
    exacts [h.foldl _ fun _ _ ht => ht.failWaiting.completeJob, h.quiet]

theorem jobDocFreed {doc : Nat} (h : GoesOn s₀ s) : GoesOn s₀ (s.jobDocFreed doc) :=
  h.foldl _ fun _ _ ht => ht.failWaiting.completeJob

theorem jobFundsChanged {k : Nat} (h : GoesOn s₀ s) : GoesOn s₀ (s.jobFundsChanged k) := by
  refine h.foldl _ fun t j ht => ht.foldl _ fun u d hu => ?_
  dsimp only
  split
  · split
    exacts [hu.quiet, hu]
  · exact hu

theorem refuseAtDispatch {c : Candidate} {g : DestState} {r : LastReason} (h : GoesOn s₀ s) :
    GoesOn s₀ (s.refuseAtDispatch c g r) := by
  unfold State.refuseAtDispatch
  split
  exacts [h.quiet.destResult.completeJob, h]

theorem countCall {k : Nat} {p : Option Nat} {f : Nat → Nat} (h : GoesOn s₀ s) : GoesOn s₀ (s.countCall k p f) := by
  refine h.trans ⟨.countCall s k p f, fun n _ => ?_⟩
  unfold State.countCall
  dsimp only
  split <;> rfl

/-- A bind takes an IDLE line (R83), so every other stands. -/
theorem seize {n : LineNo} {j d tag k : Nat} {p : Pass} (h : GoesOn s₀ s) (hn : (s.line n).state = .idle) :
    GoesOn s₀ (s.seize n j d tag k p) := by
  have other {u : State} {f : Line → Line} {m : LineNo} (hm : (s.line m).state ≠ .idle) :
      (u.updLine n f).line m = u.line m :=
    line_updLine_ne _ _ _ _ fun e => hm (e ▸ hn)
  unfold State.seize State.markClock
  dsimp only
  split
  · exact h.trans ⟨⟨fun _ => rfl, rfl, fun _ => id⟩, fun m hm => other hm⟩
  · exact h.trans ⟨⟨fun _ => rfl, rfl, fun _ => id⟩, fun m hm => (other hm).trans (other hm)⟩

theorem bindDest {n : LineNo} {c : Candidate} {r : Job} {x : Dest} {p : Pass} (h : GoesOn s₀ s)
    (hn : (s.line n).state = .idle) : GoesOn s₀ (s.bindDest n c r x p) := by
  have line : ((s.reserve.countCall r.desk p.pool (· + 1)).line n).state = .idle := by
    unfold State.countCall
    dsimp only
    split <;> exact hn
  exact (h.quiet.countCall.seize line).quiet

theorem dispatch {n : LineNo} {c : Candidate} (h : GoesOn s₀ s) (hn : (s.line n).state = .idle) :
    GoesOn s₀ (s.dispatch n c) := by
  unfold State.dispatch
  split
  · split
    exacts [h.refuseAtDispatch, h.refuseAtDispatch, h.refuseAtDispatch, h.bindDest hn]
  · exact h

theorem evaluateSteps (k : Nat) (h : GoesOn s₀ s) : GoesOn s₀ (evaluateSteps k s) := by
  induction k generalizing s with
  | zero => exact h
  | succ k ih =>
    unfold Machine.evaluateSteps
    split
    · next n c opened _ =>
      have idle : (s.line n).state = .idle := by
        have takes := List.find?_some opened
        simp only [Line.takesBind, Bool.and_eq_true, beq_iff_eq] at takes
        exact takes.1
      split
      exacts [ih (h.dispatch idle), h]
    · exact h

/-! ### The print unit -/

theorem finishEntry {e : Nat} (h : GoesOn s₀ s) : GoesOn s₀ (s.finishEntry e) := by
  unfold State.finishEntry
  split
  exacts [h, h.setDoc.freeTest.raise.setEntry.updPrt]

theorem endCopy {e : Nat} {g : EntryState} (h : GoesOn s₀ s) : GoesOn s₀ (s.endCopy e g).1 := by
  unfold State.endCopy
  split
  · exact h
  · split
    exacts [h.quiet, h.finishEntry]

theorem startPage {e : Nat} (h : GoesOn s₀ s) : GoesOn s₀ (s.startPage e) := by
  unfold State.startPage
  split
  · exact h
  · split
    · exact h.quiet
    · split <;> rename_i e
      · exact (h.acquire.of_fst e).quiet
      · dsimp only
        split
        exacts [(h.acquire.of_fst e).quiet.release.report, (h.acquire.of_fst e).quiet]

theorem arbiterChoice (h : GoesOn s₀ s) : GoesOn s₀ s.arbiterChoice := by
  unfold State.arbiterChoice
  split
  · split
    exacts [h.startPage, h]
  · exact h

theorem restEngine {notice : Bool} (h : GoesOn s₀ s) : GoesOn s₀ (s.restEngine notice) := by
  unfold State.restEngine
  dsimp only
  split
  · exact h.quiet
  · split
    exacts [h.quiet.raise, h.quiet]

theorem settleBoundary {e : Nat} (h : GoesOn s₀ s) : GoesOn s₀ (s.settleBoundary e) := by
  unfold State.settleBoundary
  split
  · exact h.restEngine
  · split
    · exact h.quiet.restEngine
    · split
      · exact h.quiet.restEngine
      · split
        exacts [h.quiet.restEngine, h.startPage]

theorem pageBoundary (h : GoesOn s₀ s) : GoesOn s₀ s.pageBoundary := by
  unfold State.pageBoundary
  split
  · exact h
  · split
    · exact h.restEngine
    · dsimp only
      split
      · split <;> rename_i e
        exacts [(h.quiet.endCopy.of_fst e).settleBoundary, (h.quiet.endCopy.of_fst e).restEngine]
      · exact h.quiet.settleBoundary

theorem printPageFinal {d i : Nat} (h : GoesOn s₀ s) : GoesOn s₀ (s.printPageFinal d i) := by
  refine h.foldl _ fun t e ht => ?_
  split
  · split
    exacts [ht.quiet, ht]
  · exact ht

theorem printDocClosed {d n : Nat} (h : GoesOn s₀ s) : GoesOn s₀ (s.printDocClosed d n) := by
  refine h.foldl _ fun t e ht => ?_
  split
  · split
    · dsimp only
      split
      · split <;> rename_i e
        exacts [(ht.quiet.endCopy.of_fst e).quiet, ht.quiet.endCopy.of_fst e]
      · exact ht.quiet
    · exact ht
  · exact ht

theorem printDocFreed {d : Nat} (h : GoesOn s₀ s) : GoesOn s₀ (s.printDocFreed d) := by
  refine h.foldl _ fun t e ht => ?_
  split
  · split
    exacts [ht.quiet, ht]
  · exact ht

/-! ### The line coder and the scan unit -/

theorem storeBytes (r : PageRef) (bs : List Byte) (h : GoesOn s₀ s) : GoesOn s₀ (storeBytes r bs s).1 := by
  induction bs generalizing s with
  | nil => exact h
  | cons b bs ih =>
    unfold Machine.storeBytes
    split <;> rename_i e
    exacts [ih (h.append.of_fst e), h.append.of_fst e, h.append.of_fst e]

theorem storeLine {j : CoderPage} {l : HeldLine} (h : GoesOn s₀ s) : GoesOn s₀ (s.storeLine j l).1 := by
  have stored := storeBytes j.ref l.bytes h
  unfold State.storeLine
  split <;> rename_i e <;> dsimp only
  exacts [(stored.of_fst e).quiet, (stored.of_fst e).quiet]

theorem tryHeld (h : GoesOn s₀ s) : GoesOn s₀ s.tryHeld.1 := by
  unfold State.tryHeld
  split
  exacts [h.storeLine, h]

theorem padPage (h : GoesOn s₀ s) : GoesOn s₀ s.padPage.1 := by
  unfold State.padPage
  split
  · exact h
  · split
    exacts [h, h.storeLine]

theorem completeCoderPage (h : GoesOn s₀ s) : GoesOn s₀ s.completeCoderPage := by
  unfold State.completeCoderPage
  split
  exacts [h, h.completePage.quiet]

theorem openScanPage {x : ScanSession} (h : GoesOn s₀ s) : GoesOn s₀ (s.openScanPage x).1 := by
  unfold State.openScanPage
  split <;> rename_i e
  exacts [h.openPage.of_fst e, (h.openPage.of_fst e).quiet]

theorem runFeed (h : GoesOn s₀ s) : GoesOn s₀ s.runFeed := by
  unfold State.runFeed
  dsimp only
  split
  exacts [h.quiet, h.quiet]

theorem feed (h : GoesOn s₀ s) : GoesOn s₀ s.feed := by
  unfold State.feed
  split
  · exact h
  · split <;> rename_i e
    exacts [(h.openScanPage.of_fst e).runFeed, (h.openScanPage.of_fst e).quiet]

theorem endScan {r : ScanReason} {close : Bool} (h : GoesOn s₀ s) : GoesOn s₀ (s.endScan r close) := by
  unfold State.endScan
  split
  · exact h
  · dsimp only
    split
    exacts [h.quiet.closeDoc.updLcd.updLcd.updScn.raise, h.quiet.raise]

theorem sheetEnded (h : GoesOn s₀ s) : GoesOn s₀ s.sheetEnded := by
  unfold State.sheetEnded
  split
  · exact h.endScan
  · split
    exacts [h.endScan, h.feed]

theorem pageEnded {e : PageEnd} (h : GoesOn s₀ s) : GoesOn s₀ (s.pageEnded e) := by
  unfold State.pageEnded
  split
  · exact h.sheetEnded
  · split
    · exact h.sheetEnded
    · split
      · exact h.endScan
      · split
        · exact h
        · split <;> rename_i e
          exacts [(h.openScanPage.of_fst e).quiet, (h.openScanPage.of_fst e).quiet]

theorem scanPageDone {e : PageEnd} (h : GoesOn s₀ s) : GoesOn s₀ (s.scanPageDone e) := h.completeCoderPage.quiet.pageEnded

theorem finishScanPage {e : PageEnd} (h : GoesOn s₀ s) : GoesOn s₀ (s.finishScanPage e) := by
  unfold State.finishScanPage
  split <;> rename_i e
  exacts [(h.padPage.of_fst e).scanPageDone, (h.padPage.of_fst e).quiet]

theorem afterScanLine (h : GoesOn s₀ s) : GoesOn s₀ s.afterScanLine := by
  unfold State.afterScanLine
  split
  · exact h
  · split
    · exact h.finishScanPage
    · split
      exacts [h.quiet, h.finishScanPage]

theorem resumeGrant (h : GoesOn s₀ s) : GoesOn s₀ s.resumeGrant := by
  unfold State.resumeGrant
  dsimp only
  split <;> rename_i e
  · exact (h.quiet.tryHeld.of_fst e).quiet
  · split
    exacts [(h.quiet.tryHeld.of_fst e).scanPageDone, (h.quiet.tryHeld.of_fst e).afterScanLine]

theorem retryScan (h : GoesOn s₀ s) : GoesOn s₀ s.retryScan := by
  unfold State.retryScan
  split
  · split
    exacts [h.quiet.resumeGrant, h]
  · split
    · exact h
    · split <;> rename_i e
      · exact h
      · dsimp only
        split
        exacts [(h.quiet.openScanPage.of_fst e).quiet, (h.quiet.openScanPage.of_fst e).quiet.runFeed]
  · exact h

/-! ### The reports -/

theorem handle {r : Report} (h : GoesOn s₀ s) : GoesOn s₀ (s.handle r) := by
  cases r with
  | docFreed d send print =>
    unfold State.handle
    dsimp only
    split <;> split
    exacts [h.jobDocFreed.printDocFreed, h.printDocFreed, h.jobDocFreed, h]
  | pageFinal d i => exact h.printPageFinal
  | docClosed d n => exact h.jobDocClosed.printDocClosed
  | memoryFreed => exact h.retryScan
  | evaluate => exact h.evaluateSteps 513
  | fundsChanged k => exact h.jobFundsChanged
  | arbiter => exact h.arbiterChoice
  | boundary => exact h.pageBoundary

theorem drain (k : Nat) (h : GoesOn s₀ s) : GoesOn s₀ (drain k s) := by
  induction k generalizing s with
  | zero => exact h
  | succ k ih =>
    unfold Machine.drain
    split
    · exact h
    · next r rs _ =>
      have taken : GoesOn s₀ { s with reports := rs } := h.quiet
      exact ih taken.handle

/-! ### The router -/

theorem closeReceived {d : Nat} (h : GoesOn s₀ s) : GoesOn s₀ (s.closeReceived d).1 := h.quiet.closeDoc

theorem disposition {r : Reception} {c : Captured} (h : GoesOn s₀ s) : GoesOn s₀ (s.disposition r c).1 := by
  unfold State.disposition
  split
  · exact h
  · split
    · exact h
    · split
      exacts [h, h.quiet]

theorem routerCallEnd {n : LineNo} {r : EndReason} {k : Nat} {o : Option Nat} {c : Captured} (h : GoesOn s₀ s) :
    GoesOn s₀ (s.routerCallEnd n r k o c) := by
  unfold State.routerCallEnd
  split
  · exact h
  · dsimp only
    split <;> split
    exacts [h.report.disposition.raise.setReception, h.disposition.raise.setReception, h.quiet, h.quiet]

theorem endReception {n : LineNo} {r : EndReason} (h : GoesOn s₀ s) : GoesOn s₀ (s.endReception n r) := by
  unfold State.endReception
  split
  exacts [h, h.closeReceived.routerCallEnd]

end GoesOn

/-- The end of an event: the blocks go on, and the selector chooses. -/
theorem goesOn_finish (s : State) : GoesOn s (drain drainBound s) ∧ NothingButChoice (drain drainBound s) s.finish :=
  ⟨(GoesOn.refl s).drain drainBound, finish_choice s⟩

end Sys2Proof.Machine
end

section
/-!
PROOFS. The release of a call (O36, O37, O40, O44): its own line is RELEASING with the reason in its context, and the
blocks that hear of it go on (`GoesOn`), while it is being released and when what it owes is worked off.
-/

namespace Sys2Proof.Machine

set_option Elab.async false

/-! ## The end of an event -/

/-- From `s` to the end `t` of an event the accounts stand but for their counts of active calls, and so do the replies. -/
structure AccountsSettled (s t : State) : Prop where
  desk : ∀ k, t.desk k = { s.desk k with active := (t.desk k).active }
  repliesOwed : t.repliesOwed = s.repliesOwed
  flags : ∀ k, s.flagged k = true → t.flagged k = true

theorem AccountsStand.settled {s u t : State} (h : AccountsStand s u) (c : NothingButChoice u t) : AccountsSettled s t :=
  ⟨fun k => by rw [c.desk k, h.desk k], c.repliesOwed.trans h.link.repliesOwed, fun k hk => (c.flagged k).trans (h.flags k hk)⟩

/-- What an event owes is worked off past a line that is not IDLE, and past the accounts. -/
theorem AccountsStand.finish {s u : State} (h : AccountsStand s u) : AccountsSettled s u.finish :=
  have ⟨goes, c⟩ := goesOn_finish u
  (h.trans goes.toAccountsStand).settled c

theorem finish_line {u : State} {n : LineNo} (h : (u.line n).state ≠ .idle) : u.finish.line n = u.line n :=
  have ⟨goes, c⟩ := goesOn_finish u
  (c.line n).trans (goes.line n h)

/-! ## The line of a call released (R90) -/

/-- A call's context with a time read from the clock, set or not (R93, R168). -/
def Ctx.clocked (x : Ctx) (set : Bool) : Ctx := { x with clockUnset := x.clockUnset || !set }

/-- The line with its call's context updated. -/
def Line.onCtx (l : Line) (f : Ctx → Ctx) : Line := { l with ctx := l.ctx.map f }

theorem onCtx_eq {l : Line} {x : Ctx} (f : Ctx → Ctx) (h : l.ctx = some x) : l.onCtx f = { l with ctx := some (f x) } := by
  rw [Line.onCtx, h]
  rfl

theorem onCtx_onCtx (l : Line) (f g : Ctx → Ctx) : (l.onCtx f).onCtx g = l.onCtx fun x => g (f x) := by
  simp only [Line.onCtx, Option.map_map, Function.comp_def]

theorem updCtx_eq (s : State) (n : LineNo) (f : Ctx → Ctx) : s.updCtx n f = s.updLine n (·.onCtx f) := rfl

theorem markClock_eq (s : State) (n : LineNo) :
    s.markClock n = s.updLine n (·.onCtx (·.clocked s.chg.clock.set)) := by
  unfold State.markClock
  split
  · next set =>
    have still : (s.line n).onCtx (·.clocked s.chg.clock.set) = s.line n := by
      have clocked : (fun x : Ctx => x.clocked s.chg.clock.set) = id := by
        funext x
        rw [Ctx.clocked, set, Bool.not_true, Bool.or_false]
        rfl
      rw [clocked, Line.onCtx, Option.map_id]
      rfl
    exact (updLine_of_fixed still).symm
  · next unset =>
    have clocked : (fun x : Ctx => x.clocked s.chg.clock.set) = fun x => { x with clockUnset := true } := by
      funext x
      rw [Ctx.clocked, Bool.eq_false_of_not_eq_true unset, Bool.not_false, Bool.or_true]
    rw [clocked]
    rfl

/-- The line of a call being released, its page and its document still to be settled (R90). -/
def Line.releasing (l : Line) : Line :=
  { l.endsPhase.stopCallTimers with
    state := .releasing, hookClosed := false, dial := [], dialWait := none, toneSeen := false, loopFound := false
    releaseGuard := some l.endsPhase.config.releaseGuard }

theorem endsPhase_ctx (l : Line) : l.endsPhase.ctx = l.ctx := by
  unfold Line.endsPhase
  split <;> rfl

/-- The page being received is settled past every line that is not IDLE (R90, R116). -/
theorem settleReceived_goesOn (s : State) (n : LineNo) : GoesOn s (s.settleReceived n) := by
  unfold State.settleReceived
  split
  · exact .refl s
  · split
    · split
      exacts [(GoesOn.refl s).damagePage, (GoesOn.refl s).fullDiscard]
    · exact .refl s

theorem handOutcome_goesOn (s : State) (n : LineNo) (o : CallOutcome) : GoesOn s (s.handOutcome n o) := by
  unfold State.handOutcome
  split
  exacts [(GoesOn.refl s).takeOutcome, .refl s]

/-- The call's transmission reader is dropped: of its line the session record alone changes (R90). -/
theorem dropTransmission_settles {s : State} {n : LineNo} (h : (s.line n).state ≠ .idle) :
    AccountsStand s (s.dropTransmission n) ∧ ∃ g, (s.dropTransmission n).line n = (s.line n).onSess g := by
  unfold State.dropTransmission
  split
  · next r _ =>
    have goes := (GoesOn.refl s).release (k := .transmission) (r := r)
    rw [updSess_eq]
    refine ⟨goes.toAccountsStand.trans (.updLine ..), fun y => { y with reader := none }, ?_⟩
    rw [line_updLine_self, goes.line n h]
  · refine ⟨.refl s, id, ?_⟩
    simp [Line.onSess]

/-- The line of a call released with a reason at a time, the clock set or not (R90). -/
def Line.released (l : Line) (r : EndReason) (now : Stamp) (set : Bool) : Line :=
  (l.onCtx fun x => Ctx.clocked { x with reason := some r, releaseTime := some now } set).releasing

/-- What a release does between its line and its charges (R90, R144, R117). -/
def State.releaseSettled (s : State) (n : LineNo) (r : EndReason) : State :=
  ((((s.settleReceived n).dropTransmission n).updCodec n fun _ => {}).endReception n r).handOutcome n (.released r)

section Release

variable {s : State} {n : LineNo} {x : Ctx} (r : EndReason)

theorem releaseCall_eq (h : (s.line n).state.releasable = true) : s.releaseCall n r =
    ((s.updLine n (·.released r s.now s.chg.clock.set)).releaseSettled n r).chargeRelease n := by
  have begins : ((((s.updCtx n fun x => { x with reason := some r, releaseTime := some s.now }).markClock n).endPhase n).updLine n
      fun l => { l.stopCallTimers with
        state := .releasing, hookClosed := false, dial := [], dialWait := none, toneSeen := false, loopFound := false
        releaseGuard := some l.config.releaseGuard }) = s.updLine n (·.released r s.now s.chg.clock.set) := by
    rw [updCtx_eq, markClock_eq, endPhase_eq, updLine_updLine, updLine_updLine, updLine_updLine]
    refine updLine_congr ?_
    rw [onCtx_onCtx]
    rfl
  exact (if_pos h).trans (congrArg (fun u : State => (u.releaseSettled n r).chargeRelease n) begins)

theorem releaseCall_refused (h : (s.line n).state.releasable = false) : s.releaseCall n r = s :=
  if_neg (by rw [h]; nofun)

theorem released_ctx {l : Line} (now : Stamp) (set : Bool) (hx : l.ctx = some x) :
    (l.released r now set).ctx = some (Ctx.clocked { x with reason := some r, releaseTime := some now } set) := by
  refine (endsPhase_ctx _).trans ?_
  rw [onCtx_eq _ hx]

/-- Between its line and its charges a release leaves the line's state, and of the context all but the session. -/
theorem releaseSettled_settles (h : (s.line n).state ≠ .idle) (hx : (s.line n).ctx = some x) :
    AccountsStand s (s.releaseSettled n r) ∧ ((s.releaseSettled n r).line n).state = (s.line n).state ∧
      ∃ g, ((s.releaseSettled n r).line n).ctx = some { x with sess := x.sess.map g } := by
  have settles := settleReceived_goesOn s n
  have settled := settles.line n h
  obtain ⟨drops, g, dropped⟩ := dropTransmission_settles (s := s.settleReceived n) (n := n) (by rwa [settled])
  let u := ((s.settleReceived n).dropTransmission n).updCodec n fun _ => {}
  have line : u.line n = { (s.line n).onSess g with codec := {} } := (line_updLine_self ..).trans (by rw [dropped, settled])
  have receives := (GoesOn.refl u).endReception (n := n) (r := r)
  have hands := receives.trans (handOutcome_goesOn (u.endReception n r) n (.released r))
  have ends : (s.releaseSettled n r).line n = u.line n := hands.line n (by rw [line]; exact h)
  refine ⟨((settles.toAccountsStand.trans drops).trans (.updLine ..)).trans hands.toAccountsStand, ?_, g, ?_⟩
  · rw [ends, line]
    rfl
  · rw [ends, line]
    show (s.line n).ctx.map _ = _
    rw [hx]
    rfl

end Release

/-! ## The charges of a call released (R178) -/

theorem charge_line (s : State) (n : LineNo) (m : Bool) (c : Int) :
    ((s.charge n m c).1.line n).state = (s.line n).state ∧
      ((s.charge n m c).1.line n).ctx.map (·.reason) = (s.line n).ctx.map (·.reason) := by
  unfold State.charge
  dsimp only
  split <;> dsimp only <;> rw [updCtx_eq, line_updLine_self] <;> exact ⟨rfl, by rw [Line.onCtx, Option.map_map]; rfl⟩

theorem topUp_line (n : LineNo) (c : Int) (k : Nat) (s : State) :
    ((topUp n c k s).line n).state = (s.line n).state ∧
      ((topUp n c k s).line n).ctx.map (·.reason) = (s.line n).ctx.map (·.reason) := by
  induction k generalizing s with
  | zero => exact ⟨rfl, rfl⟩
  | succ k ih =>
    obtain ⟨state, reason⟩ := ih ((s.charge n true c).1.updCtx n fun x => { x with steps := x.steps + 1 })
    obtain ⟨state', reason'⟩ := charge_line s n true c
    rw [updCtx_eq, line_updLine_self] at state reason
    refine ⟨state.trans state', reason.trans (Eq.trans ?_ reason')⟩
    rw [Line.onCtx, Option.map_map]
    rfl

theorem chargeRelease_line (s : State) (n : LineNo) :
    ((s.chargeRelease n).line n).state = (s.line n).state ∧
      ((s.chargeRelease n).line n).ctx.map (·.reason) = (s.line n).ctx.map (·.reason) := by
  have stopped : ((s.updCtx n fun x => { x with nextDue := none, elapsedOn := false }).line n).ctx.map (·.reason) =
      (s.line n).ctx.map (·.reason) := by
    rw [updCtx_eq, line_updLine_self, Line.onCtx, Option.map_map]
    rfl
  have state : ((s.updCtx n fun x => { x with nextDue := none, elapsedOn := false }).line n).state = (s.line n).state := by
    rw [updCtx_eq, line_updLine_self]
    rfl
  unfold State.chargeRelease
  dsimp only
  split
  · obtain ⟨h, k⟩ := topUp_line n _ _ (s.updCtx n fun x => { x with nextDue := none, elapsedOn := false })
    exact ⟨h.trans state, k.trans stopped⟩
  · exact ⟨state, stopped⟩

/-- A call that is not answered under TARIFF, or has its minimum of steps, is not topped up (R178). -/
def Ctx.stepsMet (x : Ctx) : Prop := x.metering = .pulse ∨ ∃ t, x.tariff = some t ∧ t.minSteps ≤ x.steps

theorem chargeRelease_met {s : State} {n : LineNo} {x : Ctx} (hx : (s.line n).ctx = some x) (h : x.stepsMet) :
    s.chargeRelease n = s.updCtx n fun x => { x with nextDue := none, elapsedOn := false } := by
  have ctx : (s.updCtx n fun x => { x with nextDue := none, elapsedOn := false }).ctx n =
      { x with nextDue := none, elapsedOn := false } := by
    rw [State.ctx, updCtx_eq, line_updLine_self, onCtx_eq _ hx]
    rfl
  unfold State.chargeRelease
  dsimp only
  rw [ctx]
  rcases h with h | ⟨t, ht, hs⟩
  · rw [h]
    split
    · contradiction
    · rfl
  · rw [ht]
    split
    · next e _ =>
      cases e
      rw [Nat.sub_eq_zero_of_le hs]
      rfl
    · rfl

/-! ## The end of an event that releases a call -/

/-- The context `y` has `x`'s account: only what a release writes differs. -/
def Ctx.SameAccount (x y : Ctx) : Prop :=
  y = { x with
    reason := y.reason, releaseTime := y.releaseTime, clockUnset := y.clockUnset, nextDue := y.nextDue
    elapsedOn := y.elapsedOn, sess := y.sess }

/-- From `s` to the end `t` of an event the call with context `x` on line `n` has been released with reason `r`: its account
and every desk stand but for counts of active calls. -/
structure CallReleased (s : State) (n : LineNo) (x : Ctx) (r : EndReason) (t : State) : Prop where
  state : (t.line n).state = .releasing
  ctx : ∃ y, (t.line n).ctx = some y ∧ x.SameAccount y ∧ y.reason = some r ∧ y.nextDue = none ∧
    (x.sess = none → y.sess = none)
  accounts : AccountsSettled s t

section Finish

variable {s : State} {n : LineNo} {x : Ctx} (r : EndReason) (hr : (s.line n).state.releasable = true)
  (hx : (s.line n).ctx = some x)
include hr hx

/-- The line of a call released while the release is at the charge unit. -/
theorem releaseCall_to_charges : ∃ v g, s.releaseCall n r = v.chargeRelease n ∧ AccountsStand s v ∧
    (v.line n).state = .releasing ∧ (v.line n).ctx = some { x.clocked s.chg.clock.set with
      reason := some r, releaseTime := some s.now, sess := x.sess.map g } := by
  let u := s.updLine n (·.released r s.now s.chg.clock.set)
  have line : u.line n = (s.line n).released r s.now s.chg.clock.set := line_updLine_self ..
  obtain ⟨stands, state, g, ctx⟩ := releaseSettled_settles (s := u) (n := n) r (by rw [line]; nofun)
    ((congrArg Line.ctx line).trans (released_ctx r _ _ hx))
  exact ⟨_, g, releaseCall_eq r hr, (AccountsStand.updLine ..).trans stands, state.trans (by rw [line]; rfl), ctx⟩

/-- Whatever it is topped up with, the call is released with its reason (R90, R178). -/
theorem releaseCall_reason : ((s.releaseCall n r).line n).state = .releasing ∧
    ((s.releaseCall n r).line n).ctx.map (·.reason) = some (some r) := by
  obtain ⟨v, g, released, -, state, ctx⟩ := releaseCall_to_charges r hr hx
  obtain ⟨keepsState, keepsReason⟩ := chargeRelease_line v n
  rw [released]
  exact ⟨keepsState.trans state, keepsReason.trans (by rw [ctx]; rfl)⟩

/-- A call that needs no topping up keeps its account through its release, and so does every desk (R90, R178). -/
theorem releaseCall_finish_met (met : x.stepsMet) : CallReleased s n x r (s.releaseCall n r).finish := by
  obtain ⟨v, g, released, stands, state, ctx⟩ := releaseCall_to_charges r hr hx
  have stops := chargeRelease_met ctx met
  have charged : (v.chargeRelease n).line n = (v.line n).onCtx fun x => { x with nextDue := none, elapsedOn := false } := by
    rw [stops, updCtx_eq, line_updLine_self]
  have line := finish_line (u := v.chargeRelease n) (n := n) (by rw [charged]; exact state ▸ nofun)
  rw [charged, onCtx_eq _ ctx] at line
  rw [released]
  refine ⟨(congrArg Line.state line).trans state, ⟨_, congrArg Line.ctx line, rfl, rfl, rfl, fun none => ?_⟩, ?_⟩
  · show x.sess.map g = .none
    rw [none]
    rfl
  · rw [stops, updCtx_eq]
    exact (stands.trans (.updLine ..)).finish

end Finish

end Sys2Proof.Machine
end

section
/-!
PROOFS. The loop check (O36): dialling, the callee's OFFER, and the line fault.
-/

namespace Sys2Proof.Machine

set_option Elab.async false

/-! ## A session's beginning (R97, R100) -/

/-- The line in NEGOTIATING with a fresh session record (R97). -/
def Line.beginsSession (l : Line) (role : Role) (st : Station) : Line :=
  { l with state := .negotiating : Line }.onCtx fun c =>
    { c with sess := some { role := role }, params := { c.params with station := st } }

/-- The line of a callee whose OFFER has been sent as a request (R87, R100). -/
def Line.offers (l : Line) (st : Station) (f : OfferFields) : Line :=
  ((l.beginsSession .callee st).onSess fun y => { y with stage := .offered, offered := some f }).requests (.offer f)

/-- The OFFER of a line that begins a session as callee (R100). -/
def State.calleeOffer (s : State) (n : LineNo) : OfferFields :=
  { tag := s.station.tag, codes := (List.range 2).filterMap fun k => (s.codeSet k).map (·.number)
    diff := true, std := true, fine := true, receiveOk := (s.line n).enabled
    maxWidth := 2048, maxStep := (s.line n).config.maxStep, maxPages := 64 }

section Begins

variable {s : State} {n : LineNo} {l : Line} {x : Ctx}

theorem beginsSession_eq (role : Role) (st : Station) (h : l.ctx = some x) : l.beginsSession role st = { l with
    state := .negotiating
    ctx := some { x with sess := some { role := role }, params := { x.params with station := st } } } :=
  onCtx_eq (l := { l with state := .negotiating }) _ h

theorem beginSession_eq (s : State) (n : LineNo) (role : Role) :
    s.beginSession n role = s.updLine n (·.beginsSession role s.station) := by
  rw [State.beginSession, State.enterState, updCtx_eq, updLine_updLine]
  rfl

theorem beginCallee_eq (hx : (s.line n).ctx = some x) :
    s.beginCallee n = s.updLine n (·.offers s.station (s.calleeOffer n)) := by
  have builds : (s.beginSession n .callee).offerFields n = s.calleeOffer n := by
    rw [State.offerFields, beginSession_eq, State.ctx, line_updLine_self, beginsSession_eq _ _ hx]
    rfl
  rw [State.beginCallee, builds, sendRequest_eq, beginSession_eq, updSess_eq, updLine_updLine, updLine_updLine]
  rfl

theorem offers_eq (st : Station) (f : OfferFields) (h : l.ctx = some x) : l.offers st f = { l with
    state := .negotiating, tx := l.tx ++ (Frame.offer f).chars, frameReply := some l.config.frameReply
    ctx := some { x with
      params := { x.params with station := st }
      sess := some { role := .callee, stage := .offered, offered := some f
                     request := some { frame := .offer f, sent := 1 } } } } := by
  rw [Line.offers, beginsSession_eq _ _ h, Line.requests, onSess_onSess, onSess_eq _ rfl rfl]
  rfl

end Begins

/-! ## The line fault (R80) -/

/-- A line that has failed its loop check (R80). -/
def Line.faulted (l : Line) : Line :=
  { l.stopCallTimers with
    hookClosed := false, meterQual := none, ctx := none, enabled := false, toneSeen := false, loopFound := false
    state := .outOfService, ringQual := none, ringGap := none, ringing := none }

theorem countCall_line (s : State) (k : Nat) (p : Option Nat) (f : Nat → Nat) (n : LineNo) :
    (s.countCall k p f).line n = s.line n := by
  unfold State.countCall
  dsimp only
  split <;> rfl

/-- The state with its call uncounted (R80, R164). -/
def State.uncounted (s : State) (n : LineNo) : State :=
  match (s.ctx n).counted with
  | some (d, p) => s.countCall d p (· - 1)
  | none => s

/-- The line's part of a line fault: the reservation returned, the line out of service and LINE_STATE (R80). -/
def State.lineFault (s : State) (n : LineNo) : State :=
  (s.uncounted n).returnReservation.updLine n Line.faulted |>.raise (.lineState n .outOfService .loopFault)

section Fault

variable (s : State) (n : LineNo)

theorem uncounted_stands : AccountsStand s (s.uncounted n) ∧ (s.uncounted n).line n = s.line n := by
  unfold State.uncounted
  split
  exacts [⟨.countCall .., countCall_line ..⟩, ⟨.refl s, rfl⟩]

theorem lineFault_line : (s.lineFault n).line n = (s.line n).faulted := by
  rw [State.lineFault, State.line, raise_lines]
  exact (line_updLine_self ..).trans (congrArg Line.faulted (uncounted_stands s n).2)

theorem lineFault_stands : AccountsStand s (s.lineFault n) :=
  have returned : AccountsStand (s.uncounted n) ((s.uncounted n).returnReservation.updLine n Line.faulted) :=
    ⟨fun _ => rfl, rfl, fun _ => id⟩
  ((uncounted_stands s n).1.trans returned).trans (.raise ..)

/-- A line fault is the line's part and the outcome of an outbound call (R80). -/
theorem loopFault_eq : s.loopFault n = match (s.ctx n).job with
    | some (j, d) => (s.lineFault n).takeOutcome j d .lineFault (s.outcomeInfo n)
    | none => s.lineFault n := by
  have faults : ((s.uncounted n).returnReservation.updLine n fun l =>
      { l.stopCallTimers with
        hookClosed := false, meterQual := none, ctx := none, enabled := false, toneSeen := false
        loopFound := false }).leaveService n .loopFault = s.lineFault n := by
    rw [State.leaveService, updLine_updLine]
    rfl
  rw [← faults]
  rfl

theorem loopFault_goesOn : GoesOn (s.lineFault n) (s.loopFault n) := by
  rw [loopFault_eq]
  split
  exacts [(GoesOn.refl _).takeOutcome, .refl _]

/-- At the end of the loop check the line is out of service, and LINE_STATE raised. -/
theorem loopFault_finish : (s.loopFault n).finish.line n = (s.line n).faulted ∧
    AccountsSettled s (s.loopFault n).finish ∧ (s.loopFault n).finish.flagged .lineState = true := by
  have goes := loopFault_goesOn s n
  have line : (s.loopFault n).line n = (s.line n).faulted :=
    (goes.line n (by rw [lineFault_line]; nofun)).trans (lineFault_line s n)
  refine ⟨(finish_line (by rw [line]; nofun)).trans line, ((lineFault_stands s n).trans goes.toAccountsStand).finish, ?_⟩
  exact (goes.toAccountsStand.finish).flags _ (flagged_raise _ (.lineState n .outOfService .loopFault) 0)

end Fault

/-! ## LOOP_CHECK -/

/-- The line of a callee whose loop check has found current, its answer time read (R87, R93). -/
def Line.callAnswered (l : Line) (now : Stamp) (set : Bool) : Line :=
  { l with loopTimer := none : Line }.onCtx fun x =>
    Ctx.clocked { x with answer := some now, elapsed := 0, elapsedOn := true } set

theorem callAnswered_eq {l : Line} {x : Ctx} (now : Stamp) (set : Bool) (h : l.ctx = some x) :
    l.callAnswered now set = { l with
      loopTimer := none, ctx := some (Ctx.clocked { x with answer := some now, elapsed := 0, elapsedOn := true } set) } :=
  onCtx_eq (l := { l with loopTimer := none }) _ h

theorem checkLoop_answers {s : State} {n : LineNo} {x : Ctx} (ht : (s.line n).loopTimer.isSome = true)
    (hs : (s.line n).state = .answering) (hx : (s.line n).ctx = some x) : s.checkLoop n true =
      s.updLine n fun l => (l.callAnswered s.now s.chg.clock.set).offers s.station (s.calleeOffer n) := by
  let u := s.updLine n (·.callAnswered s.now s.chg.clock.set)
  have line : u.line n = (s.line n).callAnswered s.now s.chg.clock.set := line_updLine_self ..
  have offer : u.calleeOffer n = s.calleeOffer n := by
    rw [State.calleeOffer, line]
    rfl
  have answers : s.checkLoop n true = u.beginCallee n := by
    refine (if_pos ht).trans ?_
    rw [hs]
    dsimp only
    rw [if_pos rfl, updCtx_eq, markClock_eq, updLine_updLine, updLine_updLine]
    refine congrArg (State.beginCallee · n) (updLine_congr ?_)
    rw [onCtx_onCtx]
    rfl
  rw [answers, beginCallee_eq (s := u) ((congrArg Line.ctx line).trans (by rw [callAnswered_eq _ _ hx])), updLine_updLine, offer]
  rfl

/-- Settles O36: the loop found, the dial tone taken, the OFFER sent, and the line fault. -/
theorem loopCheckDecides : Obligations.LoopCheckDecides := by
  intro s n h ht
  rw [exec_loopCheck, exec_loopCheck]
  refine ⟨fun hs hn => ?_, fun x c cs hs hn hx hd hk => ?_, fun x hs hx => ?_, fun hs => ?_⟩
  · refine heed_updLine (F := fun l => { l with loopTimer := none, loopFound := true }) h ((if_pos ht).trans ?_) rfl
    rw [show (s.quieted.line n).state = .seized from hs]
    dsimp only
    rw [if_pos rfl, show (s.quieted.line n).toneSeen = false from hn]
    exact (if_neg nofun).trans (updLine_updLine ..)
  · refine heed_updLine (F := fun l => Line.beginsDialling { l with loopTimer := none, loopFound := true }) h
      ((if_pos ht).trans ?_) (beginsDialling_key (l := { s.line n with loopTimer := none, loopFound := true }) hx hd hk)
    rw [show (s.quieted.line n).state = .seized from hs]
    dsimp only
    rw [if_pos rfl, if_pos (show (s.quieted.line n).toneSeen = true from hn), enterDialing_eq, updLine_updLine,
      updLine_updLine]
  · obtain ⟨t, runs, answers, -⟩ := heed_line (f := fun s => s.checkLoop n true) h (checkLoop_answers (s := s.quieted) ht hs hx)
    have line := answers.trans ((congrArg (Line.offers · _ _) (callAnswered_eq _ _ hx)).trans (offers_eq _ _ rfl))
    have ctx := ctx_of_line (congrArg Line.ctx line)
    have sess := sess_of_line (congrArg Line.ctx line) rfl
    exact ⟨t, runs, by rw [line], by rw [line]; rfl, by rw [ctx]; rfl, by rw [ctx]; rfl, by rw [ctx]; rfl, by rw [sess],
      by rw [sess], by rw [line]⟩
  · have fails : s.quieted.checkLoop n false = (s.quieted.updLine n fun l => { l with loopTimer := none }).loopFault n := by
      rcases hs with hs | hs <;> exact (if_pos ht).trans (by rw [show (s.quieted.line n).state = _ from hs]; rfl)
    obtain ⟨line, accounts, flagged⟩ := loopFault_finish (s.quieted.updLine n fun l => { l with loopTimer := none }) n
    refine ⟨_, heed_gives (f := fun s => s.checkLoop n false) h fails, ?_⟩
    rw [line]
    exact ⟨rfl, rfl, rfl, rfl, flagged, accounts.repliesOwed⟩

end Sys2Proof.Machine
end

section
/-!
PROOFS. Meter pulses and their charges (O37). A charge debits the desk, and its pool if it has one, and a mandatory charge
cut short releases the call.
-/

namespace Sys2Proof.Machine

set_option Elab.async false

/-! ## A charge (R173, R174) -/

/-- The context of a call charged `c` on its desk, of which `d` is debited, with the closing flag where `broke` (R174). -/
def Ctx.charged (x : Ctx) (c d : Int) (broke : Bool) : Ctx :=
  { x with charge := x.charge + d, unrecovered := x.unrecovered + (c - d), closing := x.closing || broke }

/-- The context of a call whose pool is charged its share `h` beside, of which `e` is debited (R173). -/
def Ctx.poolCharged (x : Ctx) (c d h e : Int) (broke : Bool) : Ctx :=
  { x.charged c d broke with poolShare := x.poolShare + e, poolUnrecovered := x.poolUnrecovered + (h - e) }

section Charge

variable {s : State} {n : LineNo} {x : Ctx} {k p : Nat} (m : Bool) (c : Int) (hx : (s.line n).ctx = some x)
  (hk : x.desk = some k) (h16 : k < 16)
include hx hk h16

theorem charge_desk (hp : x.pool = none) :
    let d := (s.desk k).debit m c
    s.charge n m c = ((s.updDesk k (·.charge c d)).updLine n
      (·.onCtx (·.charged c d (decide ((s.desk k).balance - d ≤ 0)))), decide (d < c)) := by
  intro d
  unfold State.charge
  dsimp only
  rw [ctx_of_line hx, hp, hk]
  dsimp only [Option.getD_some]
  simp only [desk_updDesk_self _ _ _ h16]
  rfl

theorem charge_deskAndPool (hp : x.pool = some p) (p16 : p < 16) (hne : p ≠ k) :
    let d := (s.desk k).debit m c
    let h := share (s.desk k).weight c
    let e := (s.desk p).debit m h
    s.charge n m c = (((s.updDesk k (·.charge c d)).updDesk p (·.charge h e)).updLine n
      (·.onCtx (·.poolCharged c d h e (decide ((s.desk k).balance - d ≤ 0) || decide ((s.desk p).balance - e ≤ 0)))),
      decide (d < c) || decide (e < h)) := by
  intro d h e
  unfold State.charge
  dsimp only
  rw [ctx_of_line hx, hp, hk]
  dsimp only [Option.getD_some]
  simp only [desk_updDesk_self _ p _ p16, desk_updDesk_ne _ p k _ hne, desk_updDesk_self _ k _ h16, desk_updDesk_ne _ k p _ hne.symm]
  rfl

end Charge

/-! ## A charge that may release the call (R89, R174) -/

/-- From the charged state `s` to the end `t` of the event: the account stands, and a charge cut short has released the call
with reason FUNDS. -/
structure ChargeSettled (s : State) (n : LineNo) (y : Ctx) (cut : Prop) (t : State) : Prop where
  accounts : AccountsSettled s t
  ctx : y.SameAccount (t.ctx n)
  released : cut → (s.line n).state.releasable = true → (t.line n).state = .releasing ∧ (t.ctx n).reason = some .funds

theorem chargeCall_finish {s u : State} {n : LineNo} {y : Ctx} {m b : Bool} {c : Int} (hc : s.charge n m c = (u, b))
    (hu : u.reports = []) (hy : (u.line n).ctx = some y) (met : y.stepsMet) :
    ChargeSettled u n y (b = true) (s.chargeCall n m c).finish := by
  have stands (cut : Prop) (h : cut → (u.line n).state.releasable = false) : ChargeSettled u n y cut u.finish :=
    have c := finish_nothingButChoice u hu
    ⟨(AccountsStand.refl u).settled c, by rw [c.ctx, ctx_of_line hy]; rfl, fun hb hr => by rw [h hb] at hr; cases hr⟩
  rw [State.chargeCall, hc]
  match b with
  | false => exact stands _ nofun
  | true =>
    dsimp only
    match hr : (u.line n).state.releasable with
    | false =>
      rw [releaseCall_refused .funds hr]
      exact stands _ fun _ => hr
    | true =>
      obtain ⟨state, ⟨z, hz, same, reason, -⟩, accounts⟩ := releaseCall_finish_met .funds hr hy met
      have ctx := ctx_of_line hz
      exact ⟨accounts, by rw [ctx]; exact same, fun _ _ => ⟨state, by rw [ctx, reason]⟩⟩

/-! ## METER_INPUT_CHANGE and METER_PULSE_QUALIFIED (R81, R177) -/

/-- The line with a qualified pulse counted (R81). -/
def Line.countsPulse (l : Line) : Line :=
  { l with meterQual := none : Line }.onCtx fun x => { x with pulses := x.pulses + 1 }

theorem countsPulse_eq {l : Line} {x : Ctx} (h : l.ctx = some x) :
    l.countsPulse = { l with meterQual := none, ctx := some { x with pulses := x.pulses + 1 } } :=
  onCtx_eq (l := { l with meterQual := none }) _ h

section Pulse

variable {s : State} {n : LineNo} {x : Ctx} (hx : (s.line n).ctx = some x) (hc : (s.line n).counts = true)
  (hq : (s.line n).meterQual.isSome = true)
include hx hc hq

theorem meterPulse_eq : s.meterPulse n =
    if x.metering = .pulse then (s.updLine n Line.countsPulse).chargeCall n true (s.line n).config.pulseCp
    else s.updLine n Line.countsPulse := by
  have merged : (s.updLine n fun l => { l with meterQual := none }).updCtx n (fun x => { x with pulses := x.pulses + 1 }) =
      s.updLine n Line.countsPulse := updLine_updLine ..
  have ctx : (s.updLine n Line.countsPulse).ctx n = { x with pulses := x.pulses + 1 } := by
    rw [State.ctx, line_updLine_self, countsPulse_eq hx]
    rfl
  refine (if_pos hq).trans ((if_pos hc).trans ?_)
  rw [merged]
  dsimp only
  rw [ctx]

end Pulse

theorem meterPulsesAreCounted : Claims.MeterPulsesAreCounted := by
  intro s n h
  rw [exec_meterInputChange, exec_meterInputChange, exec_meterPulseQualified]
  refine ⟨fun hi hc => ?_, ?_, fun x hx hc hq hm => ?_⟩
  · refine pin_updLine h (updLine_updLine ..) ?_
    have counts : ({ s.line n with meterInput := true } : Line).counts = true := hc
    simp only [hi, counts, Bool.not_true, Bool.not_false, Bool.and_true, Bool.false_eq_true, if_true, if_false]
  · exact pin_updLine h (updLine_updLine ..) rfl
  · refine heed_updLine (F := Line.countsPulse) h ((meterPulse_eq (s := s.quieted) hx hc hq).trans ?_) (countsPulse_eq hx)
    rw [hm]
    rfl

theorem AccountsSettled.desk_of {s t : State} {k : Nat} {r : Desk} (h : AccountsSettled s t) (hr : s.desk k = r) :
    t.desk k = { r with active := (t.desk k).active } := by
  rw [h.desk k, hr]

section Charged

variable {s : State} {n : LineNo} {x : Ctx} {k p : Nat} (h : s.inReset = false) (hx : (s.line n).ctx = some x)
  (hc : (s.line n).counts = true) (hq : (s.line n).meterQual.isSome = true) (hm : x.metering = .pulse)
include h hx hc hq hm

/-- A PULSE call is charged for its pulse on the line as the count leaves it (R177). -/
theorem meterPulse_charges {u : State} {y : Ctx} {b : Bool}
    (charges : (s.quieted.updLine n Line.countsPulse).charge n true (s.line n).config.pulseCp = (u, b)) (hu : u.reports = [])
    (hy : (u.line n).ctx = some y) (met : y.metering = .pulse) :
    ∃ t, exec (.meterPulseQualified n) s = .next t ∧ ChargeSettled u n y (b = true) t := by
  rw [exec_meterPulseQualified]
  have counted := (meterPulse_eq (s := s.quieted) hx hc hq).trans (if_pos hm)
  exact ⟨_, heed_gives (f := fun s => s.meterPulse n) h counted, chargeCall_finish charges hu hy (.inl met)⟩

end Charged

/-- The line that has counted a pulse, once its context is charged. -/
theorem countsPulse_charged {s : State} {n : LineNo} {x : Ctx} (hx : (s.line n).ctx = some x) (f : Ctx → Ctx) :
    ((s.updLine n Line.countsPulse).updLine n (·.onCtx f)).line n = { s.line n with
      meterQual := none, ctx := some (f { x with pulses := x.pulses + 1 }) } := by
  rw [line_updLine_self, line_updLine_self, countsPulse_eq hx, onCtx_eq _ rfl]

theorem countsPulse_ctx {s : State} {n : LineNo} {x : Ctx} (hx : (s.line n).ctx = some x) :
    ((s.updLine n Line.countsPulse).line n).ctx = some { x with pulses := x.pulses + 1 } := by
  rw [line_updLine_self, countsPulse_eq hx]

theorem meterPulseChargesTheDesk : Claims.MeterPulseChargesTheDesk := by
  intro s n x k h hx hc hq hm hk h16 hp hb c d
  let w := s.quieted.updLine n Line.countsPulse
  let broke := decide ((s.desk k).balance - d ≤ 0)
  let u := (w.updDesk k (·.charge c d)).updLine n (·.onCtx (·.charged c d broke))
  have charges : w.charge n true c = (u, decide (d < c)) := charge_desk true c (countsPulse_ctx (s := s.quieted) hx) hk h16 hp
  have line := countsPulse_charged (s := s.quieted.updDesk k (·.charge c d)) hx (·.charged c d broke)
  have charged : u.desk k = (s.desk k).charge c d := desk_updDesk_self w k (·.charge c d) h16
  obtain ⟨t, runs, accounts, account, released⟩ := meterPulse_charges h hx hc hq hm charges rfl (congrArg Line.ctx line) hm
  have desk := accounts.desk_of charged
  have margin : d ≤ (s.desk k).balance + (s.desk k).margin := min_le_right _ _
  refine ⟨t, runs, by rw [desk]; rfl, by rw [desk]; rfl, by rw [desk]; rfl, by rw [desk]; rfl, ?_,
    congrArg Ctx.pulses account, congrArg Ctx.charge account, fun cut hr => released (decide_eq_true cut) ?_⟩
  · rw [desk]
    show -(s.desk k).margin ≤ (s.desk k).balance - d
    omega
  · exact (congrArg (·.state.releasable) line).trans hr

theorem meterPulseChargesDeskAndPool : Claims.MeterPulseChargesDeskAndPool := by
  intro s n x k p h hx hc hq hm hk h16 hp p16 hne hb hpb c sh d e
  let w := s.quieted.updLine n Line.countsPulse
  let broke := decide ((s.desk k).balance - d ≤ 0) || decide ((s.desk p).balance - e ≤ 0)
  let u := ((w.updDesk k (·.charge c d)).updDesk p (·.charge sh e)).updLine n (·.onCtx (·.poolCharged c d sh e broke))
  have charges : w.charge n true c = (u, decide (d < c) || decide (e < sh)) :=
    charge_deskAndPool true c (countsPulse_ctx (s := s.quieted) hx) hk h16 hp p16 hne
  have line := countsPulse_charged (s := (s.quieted.updDesk k (·.charge c d)).updDesk p (·.charge sh e)) hx
    (·.poolCharged c d sh e broke)
  have chargedDesk : u.desk k = (s.desk k).charge c d :=
    (desk_updDesk_ne _ p k (·.charge sh e) hne).trans (desk_updDesk_self w k _ h16)
  have chargedPool : u.desk p = (s.desk p).charge sh e :=
    (desk_updDesk_self _ p (·.charge sh e) p16).trans (congrArg (·.charge sh e) (desk_updDesk_ne w k p (·.charge c d) hne.symm))
  obtain ⟨t, runs, accounts, account, released⟩ := meterPulse_charges h hx hc hq hm charges rfl (congrArg Line.ctx line) hm
  have desk := accounts.desk_of chargedDesk
  have pool := accounts.desk_of chargedPool
  refine ⟨t, runs, by rw [desk]; rfl, by rw [desk]; rfl, by rw [desk]; rfl, by rw [desk]; rfl, by rw [pool]; rfl,
    by rw [pool]; rfl, by rw [pool]; rfl, by rw [pool]; rfl, congrArg Ctx.pulses account, congrArg Ctx.charge account,
    congrArg Ctx.poolShare account, congrArg Ctx.unrecovered account, congrArg Ctx.poolUnrecovered account,
    (congrArg Ctx.closing account).trans (Bool.or_assoc ..).symm, fun cut hr => released ?_ ?_⟩
  · simpa using cut
  · exact (congrArg (·.state.releasable) line).trans hr

/-- Settles O37: pulses counted, and charged to a desk without and with a pool. -/
theorem meterPulsesAreCountedAndCharged : Obligations.MeterPulsesAreCountedAndCharged :=
  ⟨meterPulsesAreCounted, meterPulseChargesTheDesk, meterPulseChargesDeskAndPool⟩

end Sys2Proof.Machine
end

section
/-!
PROOFS. The far end answers (O40): the first charge under TARIFF, then the session as caller or the FUNDS release.
-/

namespace Sys2Proof.Machine

set_option Elab.async false

/-- The context of a call answered at a time, its elapsed count begun (R85, R175). -/
def Ctx.answeredAt (x : Ctx) (now : Stamp) (set : Bool) : Ctx :=
  { Ctx.clocked { x with answer := some now } set with elapsed := 0, elapsedOn := true }

/-- The context of a call charged its first step, the next boundary due in `ds` (R175). -/
def Ctx.firstStep (x : Ctx) (ds : Nat) : Ctx := { x with steps := 1, nextDue := some ds }

/-- The line of a call that the far end has answered (R85). -/
def Line.farAnswered (l : Line) (now : Stamp) (set : Bool) : Line :=
  { l with answerWait := none : Line }.onCtx (·.answeredAt now set)

/-- The line of a caller that waits for OFFER, its pages counted from `base` (R97, R98). -/
def Line.awaitsOffer (l : Line) (st : Station) (base : Nat) : Line :=
  { (l.beginsSession .caller st).onSess fun y => { y with base := base } with frameReply := some l.config.frameReply }

/-! ## A charge made whole -/

section Whole

variable {s : State} {n : LineNo} {x : Ctx} {k p : Nat} {m : Bool} {c : Int} (hx : (s.line n).ctx = some x)
  (hk : x.desk = some k) (h16 : k < 16) (hw : (s.desk k).debit m c = c)
include hx hk h16 hw

theorem charge_desk_whole (hp : x.pool = none) : s.charge n m c = ((s.updDesk k (·.charge c c)).updLine n
    (·.onCtx (·.charged c c (decide ((s.desk k).balance - c ≤ 0)))), false) := by
  have made := charge_desk m c hx hk h16 hp
  dsimp only at made
  rw [made, hw, decide_eq_false (lt_irrefl c)]

theorem charge_deskAndPool_whole (hp : x.pool = some p) (p16 : p < 16) (hne : p ≠ k)
    (pw : (s.desk p).debit m (share (s.desk k).weight c) = share (s.desk k).weight c) :
    let h := share (s.desk k).weight c
    s.charge n m c = (((s.updDesk k (·.charge c c)).updDesk p (·.charge h h)).updLine n
      (·.onCtx (·.poolCharged c c h h (decide ((s.desk k).balance - c ≤ 0) || decide ((s.desk p).balance - h ≤ 0)))),
      false) := by
  have made := charge_deskAndPool m c hx hk h16 hp p16 hne
  dsimp only at made ⊢
  rw [made, hw, pw, decide_eq_false (lt_irrefl c), decide_eq_false (lt_irrefl (share _ _))]
  rfl

end Whole

theorem charge_whole (k : Desk) (c : Int) : k.charge c c = { k with
    balance := k.balance - c, metered := k.metered + c, charged := k.charged + c, unrecovered := k.unrecovered + 0 } := by
  rw [Desk.charge, Int.sub_self]

section Answer

variable {s : State} {n : LineNo} {l : Line} {x : Ctx} {tf : Tariff}

theorem farAnswered_eq (now : Stamp) (set : Bool) (h : l.ctx = some x) :
    l.farAnswered now set = { l with answerWait := none, ctx := some (x.answeredAt now set) } :=
  onCtx_eq (l := { l with answerWait := none }) _ h

theorem awaitsOffer_eq (st : Station) (base : Nat) (h : l.ctx = some x) : l.awaitsOffer st base = { l with
    state := .negotiating, frameReply := some l.config.frameReply
    ctx := some { x with sess := some { role := .caller, base := base }, params := { x.params with station := st } } } := by
  rw [Line.awaitsOffer, beginsSession_eq _ _ h, onSess_eq _ rfl rfl]

/-- NEGOTIATING is entered as caller with some page base (R98, R100). -/
theorem beginCaller_eq (s : State) (n : LineNo) : ∃ base, s.beginCaller n = s.updLine n (·.awaitsOffer s.station base) := by
  refine ⟨match (s.ctx n).job with
    | some (j, d) => ((s.dest j d).map (·.confirmed)).getD 0
    | none => 0, ?_⟩
  rw [State.beginCaller, State.startReply, updSess_eq, beginSession_eq, updLine_updLine, updLine_updLine]
  rfl

/-- The first charge of a TARIFF call, and what follows it (R85, R89, R175). -/
theorem farEndAnswers_eq {u : State} {b : Bool} (hx : (s.line n).ctx = some x) (hm : x.metering = .tariff)
    (ht : x.tariff = some tf)
    (charges : (s.updLine n (·.farAnswered s.now s.chg.clock.set)).charge n true ((tf.setupCp + tf.stepCp : Nat) : Int) = (u, b)) :
    s.farEndAnswers n =
      let w := u.updLine n (·.onCtx (·.firstStep (tf.stepDs.getD u.chg.band 0)))
      if b then w.releaseCall n .funds else w.beginCaller n := by
  let v := s.updLine n (·.farAnswered s.now s.chg.clock.set)
  have answers : (((s.updLine n fun l => { l with answerWait := none }).updCtx n fun x => { x with answer := some s.now }).markClock
      n).updCtx n (fun x => { x with elapsed := 0, elapsedOn := true }) = v := by
    rw [markClock_eq, updCtx_eq, updCtx_eq, updLine_updLine, updLine_updLine, updLine_updLine]
    refine updLine_congr ?_
    rw [onCtx_onCtx, onCtx_onCtx]
    rfl
  have ctx : v.ctx n = x.answeredAt s.now s.chg.clock.set := by
    rw [State.ctx, line_updLine_self, farAnswered_eq _ _ hx]
    rfl
  have first : (((s.updLine n fun l => { l with answerWait := none }).updCtx n fun x =>
      { x with answer := some s.now }).markClock n).chargeAnswer n =
        (u.updLine n (·.onCtx (·.firstStep (tf.stepDs.getD u.chg.band 0))), b) := by
    rw [State.chargeAnswer, answers]
    dsimp only
    rw [ctx, show (x.answeredAt s.now s.chg.clock.set).metering = .tariff from hm,
      show (x.answeredAt s.now s.chg.clock.set).tariff = some tf from ht]
    dsimp only
    rw [charges]
    rfl
  unfold State.farEndAnswers
  dsimp only
  rw [show (s.updLine n fun l => { l with answerWait := none }).now = s.now from rfl, first]
  cases b <;> rfl

theorem firstStep_line {a : State} (hx : (s.line n).ctx = some x) (f : Ctx → Ctx) (ds : Nat) (hl : a.lines = s.lines) :
    (a.updLine n fun l => ((l.farAnswered s.now s.chg.clock.set).onCtx f).onCtx (·.firstStep ds)).line n = { s.line n with
      answerWait := none, ctx := some ((f (x.answeredAt s.now s.chg.clock.set)).firstStep ds) } := by
  have line : a.line n = s.line n := by
    rw [State.line, hl]
    rfl
  rw [line_updLine_self, line, farAnswered_eq _ _ hx, onCtx_eq _ rfl, onCtx_eq _ rfl]

theorem farAnswered_ctx (now : Stamp) (set : Bool) (hx : (s.line n).ctx = some x) :
    ((s.updLine n (·.farAnswered now set)).line n).ctx = some (x.answeredAt now set) := by
  rw [line_updLine_self, farAnswered_eq _ _ hx]

end Answer

section Funded

variable {s : State} {n : LineNo} {x : Ctx} {tf : Tariff} (h : s.inReset = false) (hs : (s.line n).state = .awaitAnswer)
  (hx : (s.line n).ctx = some x) (hm : x.metering = .tariff) (ht : x.tariff = some tf)
include h hs hx hm ht

/-- What the far end's answer does on the line and with its charge, whose debits are in `a` (R85, R89). -/
theorem farAnswer_exec {a : State} {f : Ctx → Ctx} {b : Bool}
    (charges : (s.quieted.updLine n (·.farAnswered s.now s.chg.clock.set)).charge n true ((tf.setupCp + tf.stepCp : Nat) : Int) =
      ((a.updLine n (·.farAnswered s.now s.chg.clock.set)).updLine n (·.onCtx f), b)) :
    exec (.farAnswer n) s = .next
      (let w := a.updLine n fun l =>
          ((l.farAnswered s.now s.chg.clock.set).onCtx f).onCtx (·.firstStep (tf.stepDs.getD a.chg.band 0))
        if b then w.releaseCall n .funds else w.beginCaller n).finish := by
  rw [exec_farAnswer]
  refine heed_gives h ((if_pos hs).trans ((farEndAnswers_eq (s := s.quieted) hx hm ht charges).trans ?_))
  rw [updLine_updLine, updLine_updLine]
  rfl

/-- A first charge made whole: the caller waits for OFFER, its first step charged. -/
theorem farAnswer_negotiates {a : State} {f : Ctx → Ctx} (ha : a.reports = []) (hl : a.lines = s.lines)
    (charges : (s.quieted.updLine n (·.farAnswered s.now s.chg.clock.set)).charge n true ((tf.setupCp + tf.stepCp : Nat) : Int) =
      ((a.updLine n (·.farAnswered s.now s.chg.clock.set)).updLine n (·.onCtx f), false)) :
    let y := (f (x.answeredAt s.now s.chg.clock.set)).firstStep (tf.stepDs.getD a.chg.band 0)
    ∃ t base, exec (.farAnswer n) s = .next t ∧ t.line n = { s.line n with
        answerWait := none, state := .negotiating, frameReply := some (s.line n).config.frameReply
        ctx := some { y with
          sess := some { role := .caller, base := base }, params := { y.params with station := a.station } } } ∧
      (∀ j, t.desk j = a.desk j) ∧ t.repliesOwed = a.repliesOwed := by
  intro y
  obtain ⟨base, begins⟩ := beginCaller_eq (a.updLine n fun l =>
    ((l.farAnswered s.now s.chg.clock.set).onCtx f).onCtx (·.firstStep (tf.stepDs.getD a.chg.band 0))) n
  have runs := farAnswer_exec h hs hx hm ht charges
  have line := firstStep_line hx f (tf.stepDs.getD a.chg.band 0) hl
  dsimp only at runs
  rw [if_neg Bool.false_ne_true, begins] at runs
  have c := finish_nothingButChoice ((a.updLine n fun l =>
    ((l.farAnswered s.now s.chg.clock.set).onCtx f).onCtx (·.firstStep (tf.stepDs.getD a.chg.band 0))).updLine n
      (·.awaitsOffer a.station base)) ha
  refine ⟨_, base, runs, ?_, fun j => c.desk j, c.repliesOwed⟩
  refine (c.line n).trans ((line_updLine_self ..).trans ?_)
  rw [line, awaitsOffer_eq _ _ rfl]

end Funded

theorem farAnswerChargesTheDesk : Claims.FarAnswerChargesAndNegotiates := by
  intro s n x tf k h hs hx hm ht hk h16 hp c hfunds
  have whole : (s.desk k).debit true c = c := min_eq_left hfunds
  let f : Ctx → Ctx := (·.charged c c (decide ((s.desk k).balance - c ≤ 0)))
  let a := s.quieted.updDesk k (·.charge c c)
  have charges : (s.quieted.updLine n (·.farAnswered s.now s.chg.clock.set)).charge n true c =
      ((a.updLine n (·.farAnswered s.now s.chg.clock.set)).updLine n (·.onCtx f), false) :=
    charge_desk_whole (farAnswered_ctx (s := s.quieted) _ _ hx) hk h16 whole hp
  obtain ⟨t, base, runs, ends, desks, replies⟩ := farAnswer_negotiates (a := a) h hs hx hm ht rfl rfl charges
  have ctx := ctx_of_line (congrArg Line.ctx ends)
  have sess := sess_of_line (congrArg Line.ctx ends) rfl
  refine ⟨t, runs, by rw [ends], by rw [ends], by rw [ends], by rw [sess], by rw [sess], by rw [ctx]; rfl, by rw [ctx]; rfl,
    by rw [ctx]; rfl, by rw [ctx]; rfl, by rw [ctx]; rfl, by rw [ctx]; rfl, by rw [ctx]; rfl, ?_, fun j hj => ?_, replies⟩
  · exact (desks k).trans ((desk_updDesk_self s.quieted k (·.charge c c) h16).trans (charge_whole ..))
  · exact (desks j).trans (desk_updDesk_ne _ _ _ _ hj.symm)

theorem farAnswerChargesDeskAndPool : Claims.FarAnswerChargesDeskAndPool := by
  intro s n x tf k p h hs hx hm ht hk h16 hp p16 hne c sh hfunds pfunds
  have whole : (s.desk k).debit true c = c := min_eq_left hfunds
  have poolWhole : (s.desk p).debit true sh = sh := min_eq_left pfunds
  let f : Ctx → Ctx :=
    (·.poolCharged c c sh sh (decide ((s.desk k).balance - c ≤ 0) || decide ((s.desk p).balance - sh ≤ 0)))
  let a := (s.quieted.updDesk k (·.charge c c)).updDesk p (·.charge sh sh)
  have charges : (s.quieted.updLine n (·.farAnswered s.now s.chg.clock.set)).charge n true c =
      ((a.updLine n (·.farAnswered s.now s.chg.clock.set)).updLine n (·.onCtx f), false) :=
    charge_deskAndPool_whole (farAnswered_ctx (s := s.quieted) _ _ hx) hk h16 whole hp p16 hne poolWhole
  obtain ⟨t, base, runs, ends, desks, replies⟩ := farAnswer_negotiates (a := a) h hs hx hm ht rfl rfl charges
  have ctx := ctx_of_line (congrArg Line.ctx ends)
  have sess := sess_of_line (congrArg Line.ctx ends) rfl
  have desk : a.desk k = (s.desk k).charge c c :=
    (desk_updDesk_ne _ p k (·.charge sh sh) hne).trans (desk_updDesk_self s.quieted k (·.charge c c) h16)
  have pool : a.desk p = (s.desk p).charge sh sh := (desk_updDesk_self _ p (·.charge sh sh) p16).trans
    (congrArg (·.charge sh sh) (desk_updDesk_ne s.quieted k p (·.charge c c) hne.symm))
  refine ⟨t, runs, by rw [ends], by rw [sess], by rw [ctx]; rfl, by rw [ctx]; rfl, by rw [ctx]; rfl, by rw [ctx]; rfl,
    by rw [ctx]; rfl, ?_, (desks k).trans (desk.trans (charge_whole ..)), (desks p).trans (pool.trans (charge_whole ..)),
    fun j hk hp => ?_, replies⟩
  · rw [ctx]
    exact (Bool.or_assoc ..).symm
  · exact (desks j).trans ((desk_updDesk_ne _ _ _ _ hp.symm).trans (desk_updDesk_ne _ _ _ _ hk.symm))

theorem clampedFirstChargeReleases : Claims.ClampedFirstChargeReleases := by
  intro s n x tf k h hs hx hm ht hmin _ hsess hk h16 hp hb c hcut
  let d := (s.desk k).balance + (s.desk k).margin
  let f : Ctx → Ctx := (·.charged c d (decide ((s.desk k).balance - d ≤ 0)))
  let a := s.quieted.updDesk k (·.charge c d)
  have cut : (s.desk k).debit true c = d := min_eq_right hcut.le
  have short : decide (d < c) = true := decide_eq_true hcut
  have charges : (s.quieted.updLine n (·.farAnswered s.now s.chg.clock.set)).charge n true c =
      ((a.updLine n (·.farAnswered s.now s.chg.clock.set)).updLine n (·.onCtx f), true) := by
    have made := charge_desk (s := s.quieted.updLine n (·.farAnswered s.now s.chg.clock.set)) true c
      (farAnswered_ctx (s := s.quieted) _ _ hx) hk h16 hp
    rw [show ((s.quieted.updLine n (·.farAnswered s.now s.chg.clock.set)).desk k).debit true c = d from cut] at made
    exact made.trans (by rw [short]; rfl)
  have runs := farAnswer_exec h hs hx hm ht charges
  dsimp only at runs
  rw [if_pos rfl] at runs
  have line := firstStep_line (a := a) hx f (tf.stepDs.getD a.chg.band 0) rfl
  obtain ⟨state, ⟨y, ctx, same, reason, due, nosess⟩, accounts⟩ := releaseCall_finish_met .funds
    (by rw [line]; exact congrArg LineState.releasable hs) (congrArg Line.ctx line) (.inr ⟨tf, ht, hmin⟩)
  have desk := accounts.desk_of (desk_updDesk_self s.quieted k (·.charge c d) h16)
  have y_eq := ctx_of_line ctx
  refine ⟨_, runs, state, by rw [y_eq, reason], by rw [y_eq]; exact nosess hsess, ?_, ?_, ?_, ?_, by rw [y_eq, due],
    accounts.repliesOwed⟩
  · rw [desk]
    show (s.desk k).balance - d = -(s.desk k).margin
    omega
  · rw [desk]
    rfl
  · rw [desk]
    rfl
  · rw [y_eq]
    exact congrArg Ctx.steps same

/-- Settles O40: the first charge whole, without and with a pool, and cut short. -/
theorem farAnswerChargesAndNegotiates : Obligations.FarAnswerChargesAndNegotiates :=
  ⟨farAnswerChargesTheDesk, farAnswerChargesDeskAndPool, clampedFirstChargeReleases⟩

end Sys2Proof.Machine
end

section
/-!
PROOFS. Training failures (O44): the page announced again at a lower step, the release, and the callee's wait; and the
answers that belong to a failed phase.
-/

namespace Sys2Proof.Machine

set_option Elab.async false

/-! ## The page announced again (R105, R106) -/

/-- The line with a page and attempt announced at a step (R105). -/
def Line.announces (l : Line) (page attempt step : Nat) : Line :=
  { l.onSess fun y => { y with stage := .training } with
    tx := l.tx ++ (Frame.pageHead page attempt step).chars ++ [.dataStart step .send]
    phase := some { dir := .send, step := step }, renewed := false, pace := none
    frameReply := some l.config.frameReply }

/-- The line of a caller whose training has failed the first time, its page announced again (R106). -/
def Line.retrains (l : Line) (page attempt step : Nat) : Line :=
  (((l.onSess fun y => { y with trainFails := y.trainFails + 1 }).endsPhase).onSess fun y =>
    { y with step := y.step - 1 }).announces page attempt step

section Failed

variable {s : State} {n : LineNo} {l : Line} {x : Ctx} {y : Session} {p : DataPhase}

theorem endsPhase_unready (h : l.phase = some p) (hr : p.ready = false) :
    l.endsPhase = { l with tx := l.tx ++ [.dataStop], phase := none, renewed := false, pace := none } := by
  rw [Line.endsPhase, h]
  dsimp only
  rw [hr, Bool.and_false]
  rfl

theorem announce_eq (hx : (s.line n).ctx = some x) (hy : x.sess = some y) :
    s.announce n = s.updLine n (·.announces (x.page.getD 0) (x.attempt.getD 0) y.step) := by
  rw [State.announce, sess_of_line hx hy, ctx_of_line hx, State.sendFrame, State.sendChars, State.startPhase, State.sendChars,
    State.enterStage, State.startReply, updSess_eq, updLine_updLine, updLine_updLine, updLine_updLine, updLine_updLine]
  rfl

/-- The line of a caller with the failure counted and the phase ended (R106). -/
theorem trainFailed_eq (hp : l.phase = some p) (hr : p.ready = false) (hx : l.ctx = some x) (hy : x.sess = some y) :
    (l.onSess fun y => { y with trainFails := y.trainFails + 1 }).endsPhase = { l with
      tx := l.tx ++ [.dataStop], phase := none, renewed := false, pace := none
      ctx := some { x with sess := some { y with trainFails := y.trainFails + 1 } } } := by
  rw [onSess_eq _ hx hy]
  exact endsPhase_unready hp hr

theorem retrains_eq (page attempt step : Nat) (hp : l.phase = some p) (hr : p.ready = false) (hx : l.ctx = some x)
    (hy : x.sess = some y) : l.retrains page attempt step = { l with
      tx := l.tx ++ [.dataStop] ++ (Frame.pageHead page attempt step).chars ++ [.dataStart step .send]
      phase := some { dir := .send, step := step }, renewed := false, pace := none
      frameReply := some l.config.frameReply
      ctx := some { x with
        sess := some { y with trainFails := y.trainFails + 1, step := y.step - 1, stage := .training } } } := by
  rw [Line.retrains, trainFailed_eq hp hr hx hy, Line.announces, onSess_onSess, onSess_eq _ rfl rfl]
  rfl

section Caller

variable (hx : (s.line n).ctx = some x) (hy : x.sess = some y)
include hx hy

theorem callerTrainFailed_retrains (hp : (s.line n).phase = some p) (hr : p.ready = false) (h0 : y.trainFails = 0) :
    s.callerTrainFailed n = s.updLine n (·.retrains (x.page.getD 0) (x.attempt.getD 0) (y.step - 1)) := by
  let u := s.updSess n fun y => { y with trainFails := y.trainFails + 1 }
  have line : u.line n = { s.line n with ctx := some { x with sess := some { y with trainFails := y.trainFails + 1 } } } :=
    (line_updLine_self ..).trans (onSess_eq _ hx hy)
  have first : ¬2 ≤ (u.sess n).trainFails := by
    rw [sess_of_line (congrArg Line.ctx line) rfl]
    show ¬2 ≤ y.trainFails + 1
    omega
  have lowered : (((u.endPhase n).lowerStep n).line n).ctx =
      some { x with sess := some { y with trainFails := y.trainFails + 1, step := y.step - 1 } } := by
    have counted : u.line n = (s.line n).onSess fun y => { y with trainFails := y.trainFails + 1 } := line_updLine_self ..
    rw [endPhase_eq, State.lowerStep, updSess_eq, line_updLine_self, line_updLine_self, counted, trainFailed_eq hp hr hx hy,
      onSess_eq _ rfl rfl]
  refine (if_neg first).trans ((announce_eq lowered rfl).trans ?_)
  rw [endPhase_eq, State.lowerStep, updSess_eq, updLine_updLine, updLine_updLine]
  exact updLine_updLine s n (·.onSess fun y => { y with trainFails := y.trainFails + 1 }) _

theorem callerTrainFailed_releases (h1 : 1 ≤ y.trainFails) : s.callerTrainFailed n =
    (s.updLine n (·.onSess fun y => { y with trainFails := y.trainFails + 1 })).releaseCall n .trainFail := by
  have line : ((s.updLine n (·.onSess fun y => { y with trainFails := y.trainFails + 1 })).line n).ctx =
      some { x with sess := some { y with trainFails := y.trainFails + 1 } } := by
    rw [line_updLine_self, onSess_eq _ hx hy]
  refine if_pos ?_
  rw [updSess_eq, sess_of_line line rfl]
  exact Nat.succ_le_succ h1

end Caller

theorem trainingFailed_callee (hx : (s.line n).ctx = some x) (hy : x.sess = some y) (hr : y.role = .callee) :
    s.trainingFailed n = s.updLine n fun l => l.endsPhase.watches .waitHead := by
  rw [State.trainingFailed, sess_of_line hx hy, hr]
  dsimp only
  rw [enterWatch_eq, endPhase_eq, updLine_updLine]

theorem trainingFailed_caller (hx : (s.line n).ctx = some x) (hy : x.sess = some y) (hr : y.role = .caller) :
    s.trainingFailed n = s.callerTrainFailed n := by
  rw [State.trainingFailed, sess_of_line hx hy, hr]

end Failed

/-! ## TRAIN_FAIL and the training bound -/

/-- The line on which a training failure begins: the bound's expiry stops its timer (R106). -/
def Line.fails (l : Line) (expiry : Bool) : Line := if expiry then { l with frameReply := none } else l

/-- The line after a training failure: the bound's expiry marks a phase begun anew (R106). -/
def Line.marks (l : Line) (expiry : Bool) : Line := if expiry then { l with renewed := l.phase.isSome } else l

/-- A training failure, by TRAIN_FAIL or by the training bound's expiry. -/
theorem trainingFailure_exec {s : State} {n : LineNo} {x : Ctx} {y : Session} {p : DataPhase} {e : Instr}
    (h : s.inReset = false) (hx : (s.line n).ctx = some x) (hy : x.sess = some y) (hg : y.stage = .training)
    (he : e = .trainFail n ∧ (s.line n).awaiting = some p ∨ e = .frameReplyExpiry n ∧ (s.line n).frameReply.isSome = true) :
    ∃ expiry : Bool, expiry = decide (e = .frameReplyExpiry n) ∧ exec e s = .next
      (((s.quieted.updLine n (·.fails expiry)).trainingFailed n).updLine n (·.marks expiry)).finish := by
  rcases he with ⟨rfl, ha⟩ | ⟨rfl, ht⟩
  · refine ⟨false, rfl, ?_⟩
    rw [exec_trainFail]
    refine heed_gives h ?_
    have same : s.quieted.updLine n (·.fails false) = s.quieted := updLine_of_fixed rfl
    rw [same, State.phaseFails, show (s.quieted.line n).awaiting = some p from ha]
    exact (updLine_of_fixed rfl).symm
  · refine ⟨true, (decide_eq_true rfl).symm, ?_⟩
    rw [exec_frameReplyExpiry]
    refine heed_gives h ((if_pos ht).trans ?_)
    have line : (s.quieted.stopReply n).line n = { s.line n with frameReply := none } := line_updLine_self ..
    have stage : ((s.quieted.stopReply n).sess n).stage = .training := by
      rw [sess_of_line ((congrArg Line.ctx line).trans hx) hy, hg]
    dsimp only
    rw [stage]
    rfl

theorem marks_kept (l : Line) (expiry : Bool) : (l.marks expiry).state = l.state ∧ (l.marks expiry).ctx = l.ctx := by
  cases expiry <;> exact ⟨rfl, rfl⟩

theorem trainingFailureIsTriedAgain : Claims.TrainingFailureIsTriedOnceMore := by
  intro s n x y p e h hx hy hg hp hr he
  obtain ⟨expiry, is, runs⟩ := trainingFailure_exec h hx hy hg he
  let u := s.quieted.updLine n (·.fails expiry)
  have line : u.line n = (s.line n).fails expiry := line_updLine_self ..
  have ctx : (u.line n).ctx = some x := by rw [line]; cases expiry <;> exact hx
  have phase : (u.line n).phase = some p := by rw [line]; cases expiry <;> exact hp
  refine ⟨fun hc h0 => ?_, fun hc h1 hrel => ?_, fun hc => ?_⟩
  · rw [trainingFailed_caller ctx hy hc, callerTrainFailed_retrains ctx hy phase hr h0] at runs
    have c := finish_nothingButChoice ((u.updLine n (·.retrains (x.page.getD 0) (x.attempt.getD 0) (y.step - 1))).updLine n
      (·.marks expiry)) rfl
    have ends := (c.line n).trans (line_updLine_self ..)
    rw [line_updLine_self, retrains_eq _ _ _ phase hr ctx hy, line] at ends
    have sess := sess_of_line (x := { x with sess := _ }) ((congrArg Line.ctx ends).trans (marks_kept ..).2) rfl
    refine ⟨_, runs, by rw [sess], by rw [sess, h0], by rw [sess], ?_, ?_, ?_, ?_, c.repliesOwed⟩
    all_goals rw [ends]
    · cases expiry <;> simp [Line.marks, Line.fails]
    · cases expiry <;> rfl
    · rw [← is]
      cases expiry <;> rfl
    · cases expiry <;> rfl
  · rw [trainingFailed_caller ctx hy hc, callerTrainFailed_releases ctx hy h1] at runs
    let v := u.updLine n (·.onSess fun y => { y with trainFails := y.trainFails + 1 })
    have failed : v.line n = { u.line n with ctx := some { x with sess := some { y with trainFails := y.trainFails + 1 } } } :=
      (line_updLine_self ..).trans (onSess_eq _ ctx hy)
    have releasable : (v.line n).state.releasable = true := by
      rw [failed, line]
      cases expiry <;> exact hrel
    obtain ⟨state, reason⟩ := releaseCall_reason .trainFail releasable (congrArg Line.ctx failed)
    have marked : ((v.releaseCall n .trainFail).updLine n (·.marks expiry)).line n =
        ((v.releaseCall n .trainFail).line n).marks expiry := line_updLine_self ..
    have ends := finish_line (u := (v.releaseCall n .trainFail).updLine n (·.marks expiry)) (n := n)
      (by rw [marked, (marks_kept ..).1, state]; nofun)
    rw [marked] at ends
    refine ⟨_, runs, by rw [ends, (marks_kept ..).1, state], ?_⟩
    rw [State.ctx, ends, (marks_kept ..).2]
    obtain ⟨z, hz, hr⟩ := Option.map_eq_some_iff.1 reason
    rw [hz]
    exact hr
  · rw [trainingFailed_callee ctx hy hc] at runs
    have c := finish_nothingButChoice ((u.updLine n fun l => l.endsPhase.watches .waitHead).updLine n (·.marks expiry)) rfl
    have ends := (c.line n).trans (line_updLine_self ..)
    rw [line_updLine_self, endsPhase_unready phase hr, Line.watches, onSess_eq (x := x) (y := y) _ (by exact ctx) hy, line] at ends
    have sess := sess_of_line (x := { x with sess := _ }) ((congrArg Line.ctx ends).trans (marks_kept ..).2) rfl
    refine ⟨_, runs, ?_, ?_, by rw [sess], ?_⟩
    all_goals rw [ends]; cases expiry <;> rfl

theorem oldAnswersAreDiscarded : Claims.OldAnswersAreDiscarded := by
  intro s n p h hp hr
  refine ⟨fun hd hw ⟨st, d, hm⟩ => ?_, awaiting_of hp hr⟩
  have none_awaits : (s.quieted.line n).awaiting = none := by
    have pending : (s.line n).tx.any PumpChar.isDataStart = true := List.any_eq_true.2 ⟨_, hm, rfl⟩
    rw [Line.awaiting, show (s.quieted.line n).phase = some p from hp]
    dsimp only
    rw [hd, show (s.quieted.line n).renewed = true from hw,
      show (s.quieted.line n).tx.any PumpChar.isDataStart = true from pending, hr]
    rfl
  rw [exec_dataReady, exec_trainFail]
  refine ⟨heed_nothingButChoice h ?_, heed_nothingButChoice h ?_⟩
  · rw [State.phaseReady, none_awaits]
  · rw [State.phaseFails, none_awaits]

/-- Settles O44: the two failures of a caller, the callee, and the answers of a failed phase. -/
theorem trainingFailureIsTriedOnceMore : Obligations.TrainingFailureIsTriedOnceMore :=
  ⟨trainingFailureIsTriedAgain, oldAnswersAreDiscarded⟩

end Sys2Proof.Machine
end

section
/-!
PROOFS. Session frames taken, and the caller's choice (O45). A frame that finds no receive phase is taken with its body
closed; what the caller then does is an update of its line, on which its context and session record are known.
-/

namespace Sys2Proof.Machine

set_option Elab.async false

/-! ## Frames taken (R77, R96) -/

/-- The line with no frame body open. -/
def Line.unframed (l : Line) : Line := { l with frame := none }

/-- Outside a reset line `n` takes frames, in a call with context `x` and session record `y`, and receives no data. -/
structure State.InSession (s : State) (n : LineNo) (x : Ctx) (y : Session) : Prop where
  awake : s.inReset = false
  takes : (s.line n).state.takesFrames = true
  ctx : (s.line n).ctx = some x
  sess : x.sess = some y
  sends : ∀ p, (s.line n).phase = some p → p.dir = .send

/-- The state in which a frame is taken on line `n`: no report is owed and no frame body is open. -/
abbrev State.atFrame (s : State) (n : LineNo) : State := s.quieted.updLine n Line.unframed

section Taken

variable {s u : State} {n : LineNo} {x : Ctx} {y : Session} {f : Frame}

theorem line_atFrame (s : State) (n : LineNo) : (s.atFrame n).line n = (s.line n).unframed := line_updLine_self ..

/-- With no receive phase a frame in range is taken, its body closed. -/
theorem deliver_eq (ht : (s.line n).state.takesFrames = true) (hp : ∀ p, (s.line n).phase = some p → p.dir = .send)
    (hf : f.inRange = true) : s.deliver n f = (s.updLine n Line.unframed).takeFrame n f := by
  have opens : s.openFrame n = s.updLine n fun l => { l with frame := some {} } := by
    rw [State.openFrame, if_pos ht]
    split
    · next e => cases hp _ e
    · next e => cases hp _ e
    · rfl
  have closes : ((if (s.line n).frame.isNone then s.openFrame n else s).updLine n fun l => { l with frame := none }) =
      s.updLine n Line.unframed := by
    rw [opens]
    split
    · exact updLine_updLine ..
    · rfl
  have taken : (((s.updLine n Line.unframed).line n).state.takesFrames && f.inRange) = true := by
    rw [line_updLine_self, hf, Bool.and_true]
    exact ht
  exact (congrArg (fun u : State => u.frameArrives n f) closes).trans (if_pos taken)

theorem State.InSession.frame_gives (h : s.InSession n x y) (hf : f.inRange = true) (hu : (s.atFrame n).takeFrame n f = u) :
    exec (f.instr n) s = .next u.finish := by
  rw [exec_frame]
  exact heed_gives h.awake ((deliver_eq (s := s.quieted) h.takes h.sends hf).trans hu)

theorem State.InSession.frame_next (h : s.InSession n x y) (hf : f.inRange = true) (hu : (s.atFrame n).takeFrame n f = u)
    (hr : u.reports = []) : ∃ t, exec (f.instr n) s = .next t ∧ NothingButChoice u t :=
  ⟨_, h.frame_gives hf hu, finish_nothingButChoice u hr⟩

/-- A frame that makes one update of its line. -/
theorem State.InSession.frame_line {G : Line → Line} (h : s.InSession n x y) (hf : f.inRange = true)
    (hu : (s.atFrame n).takeFrame n f = (s.atFrame n).updLine n G) :
    ∃ t, exec (f.instr n) s = .next t ∧ t.line n = G (s.line n).unframed ∧
      NothingButChoice (s.updLine n fun l => G l.unframed) t := by
  obtain ⟨t, runs, c⟩ := h.frame_next hf (hu.trans (updLine_updLine ..)) rfl
  refine ⟨t, runs, (c.line n).trans (line_updLine_self ..), c⟩

theorem State.InSession.ctx_atFrame (h : s.InSession n x y) : ((s.atFrame n).line n).ctx = some x := by
  rw [line_atFrame]
  exact h.ctx

theorem State.InSession.sess_atFrame (h : s.InSession n x y) : (s.atFrame n).sess n = y := sess_of_line h.ctx_atFrame h.sess

/-- A line with no data phase. -/
theorem inSession_of (h : s.inReset = false) (ht : (s.line n).state.takesFrames = true) (hx : (s.line n).ctx = some x)
    (hy : x.sess = some y) (hp : (s.line n).phase = none) : s.InSession n x y :=
  ⟨h, ht, hx, hy, fun _ e => by cases hp.symm.trans e⟩

end Taken

/-! ## The frames of a role and stage (R96) -/

section Caller

variable {s : State} {n : LineNo} (hr : (s.sess n).role = .caller)
include hr

theorem takeFrame_offer (f : OfferFields) (hg : (s.sess n).stage = .waitOffer) :
    s.takeFrame n (.offer f) = s.takeOffer n f := by
  simp [State.takeFrame, hr, hg]

theorem takeFrame_accept (hg : (s.sess n).stage = .waitReply) : s.takeFrame n .accept = s.takeAccept n := by
  simp [State.takeFrame, hr, hg]

theorem takeFrame_decline (r : DeclineReason)
    (hg : (s.sess n).stage = .training ∨ (s.sess n).stage = .sendingData ∨ (s.sess n).stage = .waitAck) :
    s.takeFrame n (.decline r.code) = s.takeDecline n r := by
  have reason : DeclineReason.ofCode r.code = some r := by cases r <;> rfl
  rcases hg with hg | hg | hg <;> simp [State.takeFrame, hr, reason, hg]

theorem takeFrame_pageAck (v : Verdict) (m bad : Nat) (hg : (s.sess n).stage = .waitAck) (hm : (s.ctx n).page = some m) :
    s.takeFrame n (.pageAck m v.code bad) = s.takePageAck n v := by
  have verdict : Verdict.ofCode v.code = some v := by cases v <;> rfl
  simp [State.takeFrame, hr, verdict, hg, hm]

theorem takeFrame_endAck (hg : (s.sess n).stage = .waitEndAck) : s.takeFrame n .endAck = s.takeEndAck n := by
  simp [State.takeFrame, hr, hg]

end Caller

/-- What a callee makes of its frames. -/
theorem takeFrame_callee {s : State} {n : LineNo} (hr : (s.sess n).role = .callee) :
    (∀ f, s.takeFrame n (.choose f) = s.takeChoose n f) ∧
    (∀ m a st, s.takeFrame n (.pageHead m a st) = s.takePageHead n m a st) ∧
    (∀ l b c, s.takeFrame n (.pageTail l b c) = s.takePageTail n l b c) ∧
    (∀ k, s.takeFrame n (.endCall k) = s.takeEnd n k) := by
  simp [State.takeFrame, hr]

/-! ## Answers and the close (R98, R114) -/

/-- The line with the answer to its last request taken (R98). -/
def Line.takesAnswer (l : Line) : Line :=
  { l with frameReply := none : Line }.onSess fun y => { y with request := none, expiries := 0 }

/-- The line of a caller that closes with END and a cause, `pages` pages confirmed (R114). -/
def Line.closesWith (l : Line) (cause : CloseCause) (pages : Nat) : Line :=
  ({ l with state := .closing : Line }.onSess fun y => { y with closeCause := some cause, stage := .waitEndAck }).requests
    (.endCall pages)

section Operations

variable {s : State} {n : LineNo} {l : Line} {x : Ctx} {y : Session}

theorem answered_eq (s : State) (n : LineNo) : s.answered n = s.updLine n Line.takesAnswer := by
  rw [State.answered, State.stopReply, updSess_eq, updLine_updLine]
  rfl

theorem takesAnswer_eq (h : l.ctx = some x) (hy : x.sess = some y) : l.takesAnswer = { l with
    frameReply := none, ctx := some { x with sess := some { y with request := none, expiries := 0 } } } :=
  onSess_eq (l := { l with frameReply := none }) _ h hy

theorem answered_ctx (hx : (s.line n).ctx = some x) (hy : x.sess = some y) :
    ((s.updLine n Line.takesAnswer).line n).ctx =
      some { x with sess := some { y with request := none, expiries := 0 } } := by
  rw [line_updLine_self, takesAnswer_eq hx hy]

/-- The line of a session's frame with the answer taken. -/
theorem State.InSession.answered (h : s.InSession n x y) : (s.line n).unframed.takesAnswer = { (s.line n).unframed with
    frameReply := none, ctx := some { x with sess := some { y with request := none, expiries := 0 } } } :=
  takesAnswer_eq (l := (s.line n).unframed) h.ctx h.sess

theorem requests_eq (f : Frame) (h : l.ctx = some x) (hy : x.sess = some y) : l.requests f = { l with
    tx := l.tx ++ f.chars, frameReply := some l.config.frameReply
    ctx := some { x with sess := some { y with request := some { frame := f, sent := 1 }, expiries := 0 } } } := by
  rw [Line.requests, onSess_eq _ h hy]

theorem closeWith_eq (cause : CloseCause) (hx : (s.line n).ctx = some x) :
    s.closeWith n cause = s.updLine n (·.closesWith cause x.confirmed) := by
  rw [State.closeWith, ctx_of_line hx, sendRequest_eq, State.enterState, updSess_eq, updLine_updLine, updLine_updLine]
  rfl

theorem closesWith_eq (cause : CloseCause) (k : Nat) (h : l.ctx = some x) (hy : x.sess = some y) :
    l.closesWith cause k = { l with
      state := .closing, tx := l.tx ++ (Frame.endCall k).chars, frameReply := some l.config.frameReply
      ctx := some { x with
        sess := some { y with
          closeCause := some cause, stage := .waitEndAck, expiries := 0
          request := some { frame := .endCall k, sent := 1 } } } } := by
  rw [Line.closesWith, onSess_eq (l := { l with state := .closing }) _ h hy, requests_eq _ rfl rfl]

end Operations

/-! ## The choice (R101) -/

/-- The choice at slot `k`: its number, where it is loaded and the number is in the offer. -/
def State.codeIn (s : State) (codes : List Nat) (k : Nat) : Option (Nat × Nat) :=
  (s.codeSet k).bind fun c => if codes.contains c.number then some (k, c.number) else none

section Codes

variable {s : State} {codes : List Nat} {k : Nat} {c : CodeSet}

theorem commonCode_eq (s : State) (codes : List Nat) : s.commonCode codes =
    (s.codeIn codes s.lcd.config.slot).or (s.codeIn codes (1 - s.lcd.config.slot)) := by
  show [s.lcd.config.slot, 1 - s.lcd.config.slot].findSome? (s.codeIn codes) = _
  rw [List.findSome?_cons, List.findSome?_singleton]
  cases s.codeIn codes s.lcd.config.slot <;> rfl

theorem codeIn_none (h : ∀ d, s.codeSet k = some d → d.number ∉ codes) : s.codeIn codes k = none := by
  rw [State.codeIn]
  match e : s.codeSet k with
  | none => rfl
  | some d => exact if_neg (by simpa using h d e)

theorem codeIn_some (hc : s.codeSet k = some c) (hm : c.number ∈ codes) : s.codeIn codes k = some (k, c.number) := by
  rw [State.codeIn, hc]
  exact if_pos (by simpa using hm)

end Codes

/-- The widest of some pages. -/
theorem foldl_width_eq {gs : List PageRec} {w m : Nat} (hle : ∀ g ∈ gs, g.width ≤ w) (hm : m ≤ w)
    (hw : m = w ∨ ∃ g ∈ gs, g.width = w) : gs.foldl (fun w g => max w g.width) m = w := by
  induction gs generalizing m with
  | nil => simpa using hw
  | cons g gs ih =>
    have hg := hle g List.mem_cons_self
    refine ih (fun q hq => hle q (List.mem_cons_of_mem _ hq)) (max_le hm hg) ?_
    rcases hw with rfl | ⟨q, hq, hw⟩
    · exact .inl (max_eq_left hg)
    · rcases List.mem_cons.1 hq with rfl | hq
      · exact .inl ((max_eq_right (hw ▸ hm)).trans hw)
      · exact .inr ⟨q, hq, hw⟩

theorem choiceFollowsR101 : Claims.ChoiceFollowsR101 := by
  refine ⟨fun s codes c => ⟨fun hc hm => ?_, fun hno hc hm => ?_⟩, fun s codes hno => ?_,
    fun s n d remaining number w f hle hw => ⟨rfl, rfl, rfl, rfl, ?_, fun hall hf => ?_, fun hstd => ?_, rfl⟩⟩
  · rw [commonCode_eq, codeIn_some hc hm]
    rfl
  · rw [commonCode_eq, codeIn_none hno, codeIn_some hc hm]
    rfl
  · rw [commonCode_eq, codeIn_none (hno _ (.inl rfl)), codeIn_none (hno _ (.inr rfl))]
    rfl
  · have widest : (s.docPages d).foldl (fun w g => max w g.width) 0 = w := by
      refine foldl_width_eq (fun g hg => ?_) (Nat.zero_le w) ?_
      · obtain ⟨p, hp, rfl⟩ := List.mem_map.1 hg
        exact hle p hp
      · rcases hw with ⟨rfl, -⟩ | ⟨p, hp, hw⟩
        exacts [.inl rfl, .inr ⟨_, List.mem_map_of_mem hp, hw⟩]
    exact congrArg (min f.maxWidth) widest
  · have fine : ((s.docPages d).all fun g => g.density == .fine) = true := by
      simpa [State.docPages] using hall
    exact if_pos (by rw [fine, hf]; rfl)
  · refine if_neg fun both => ?_
    obtain ⟨fine, takes⟩ := (Bool.and_eq_true ..).mp both
    rcases hstd with no | ⟨p, hp, std⟩
    · cases no.symm.trans takes
    · have := List.all_eq_true.1 fine _ (List.mem_map_of_mem hp)
      rw [std] at this
      cases this

/-! ## OFFER (R101) -/

/-- The line of a caller that has taken an OFFER, the far tag kept (R101). -/
def Line.hears (l : Line) (tag : Text) : Line := l.takesAnswer.onSess fun y => { y with farTag := tag }

/-- The line of a caller that answers with the CHOOSE `g`, its codec bound to slot `k` (R101). -/
def Line.chooses (l : Line) (k : Nat) (g : ChooseFields) : Line :=
  { (l.onCtx fun x => { x with params := x.params.choice g }).onSess fun y =>
      { y with step := g.step, stage := .waitReply } with codec := Codec.bound k : Line }.requests (.choose g)

section Offered

variable {s : State} {n : LineNo} {l : Line} {x : Ctx} {y : Session} {f : OfferFields} {jd : Nat × Nat} {j : Job}

theorem hears_eq (tag : Text) (h : l.ctx = some x) (hy : x.sess = some y) : l.hears tag = { l with
    frameReply := none, ctx := some { x with sess := some { y with request := none, expiries := 0, farTag := tag } } } := by
  rw [Line.hears, takesAnswer_eq h hy, onSess_eq _ rfl rfl]

theorem chooses_eq (k : Nat) (g : ChooseFields) (h : l.ctx = some x) (hy : x.sess = some y) : l.chooses k g = { l with
    codec := Codec.bound k, tx := l.tx ++ (Frame.choose g).chars, frameReply := some l.config.frameReply
    ctx := some { x with
      params := x.params.choice g
      sess := some { y with
        step := g.step, stage := .waitReply, expiries := 0, request := some { frame := .choose g, sent := 1 } } } } := by
  rw [Line.chooses, onCtx_eq _ h, onSess_eq (x := { x with params := x.params.choice g }) _ rfl hy, requests_eq _ rfl rfl]

theorem jobDocument_eq (hx : (s.line n).ctx = some x) (hj : x.job = some jd) (hd : s.job jd.1 = some j) :
    s.jobDocument n = some j.document := by
  rw [State.jobDocument, ctx_of_line hx, hj, Option.bind_some, hd]
  rfl

/-- What a caller makes of an OFFER, in the order of R101. -/
theorem takeOffer_eq (hx : (s.line n).ctx = some x) (hy : x.sess = some y) (hj : x.job = some jd)
    (hd : s.job jd.1 = some j) : s.takeOffer n f =
    let u := s.updLine n (·.hears f.tag)
    let remaining := (s.doc j.document).pages.length - y.base
    if !f.receiveOk then u.closeWith n (.declined .notReceiving)
    else if f.maxPages < remaining then u.closeWith n (.declined .unsupported)
    else match s.commonCode f.codes with
      | none => u.closeWith n .noCommonCode
      | some (k, number) => u.updLine n (·.chooses k (s.chooseFields n j.document remaining number f)) := by
  let u := s.updLine n (·.hears f.tag)
  let remaining := (s.doc j.document).pages.length - y.base
  have hears : (s.answered n).updSess n (fun x => { x with farTag := f.tag }) = u := by
    rw [answered_eq, updSess_eq, updLine_updLine]
    rfl
  have line : u.line n = _ := (line_updLine_self ..).trans (hears_eq f.tag hx hy)
  have ctx := congrArg Line.ctx line
  have document : u.jobDocument n = some j.document := jobDocument_eq (s := u) ctx hj hd
  have fields (number : Nat) : u.chooseFields n j.document remaining number f =
      s.chooseFields n j.document remaining number f := by
    simp only [State.chooseFields, ctx_of_line ctx, ctx_of_line hx, line]
    rfl
  unfold State.takeOffer
  dsimp only
  rw [hears, document, sess_of_line ctx rfl]
  dsimp only [Option.getD_some]
  show (if !f.receiveOk then _ else if f.maxPages < remaining then _ else match s.commonCode f.codes with
    | none => _
    | some (k, number) => _) = _
  split
  · rfl
  · split
    · rfl
    · split
      · rfl
      · next k number _ =>
        rw [show (u.doc j.document).pages.length - _ = remaining from rfl, fields]
        exact (sendRequest_eq ..).trans (by
          rw [State.updCodec, updSess_eq, updCtx_eq, updLine_updLine, updLine_updLine, updLine_updLine]
          rfl)

end Offered

theorem callerTakesOffer : Claims.CallerTakesOffer := by
  intro s n x y f jd j h hx hy hr hg hs hp hf hj hd remaining
  have session := inSession_of h (by rw [hs]; rfl) hx hy hp
  have sess := session.sess_atFrame
  have heard : (s.line n).unframed.hears f.tag = _ := hears_eq f.tag hx hy
  have ctx : (((s.atFrame n).updLine n (·.hears f.tag)).line n).ctx = _ :=
    (congrArg Line.ctx (line_updLine_self ..)).trans (by rw [line_atFrame, heard])
  have takes := (takeFrame_offer (by rw [sess, hr]) f (by rw [sess, hg])).trans
    (takeOffer_eq (s := s.atFrame n) (f := f) session.ctx_atFrame hy hj hd)
  refine ⟨fun k number ho hm hc => ?_, fun cause hc => ?_⟩
  · have chosen : (s.atFrame n).takeFrame n (.offer f) = (s.atFrame n).updLine n fun l =>
        (l.hears f.tag).chooses k (s.chooseFields n j.document remaining number f) := by
      have fields : (s.atFrame n).chooseFields n j.document remaining number f =
          s.chooseFields n j.document remaining number f := by
        simp only [State.chooseFields, ctx_of_line session.ctx_atFrame, ctx_of_line hx, line_atFrame]
        rfl
      refine (takes.trans (if_neg (by rw [ho]; nofun))).trans ((if_neg (Nat.not_lt.2 hm)).trans ?_)
      rw [show (s.atFrame n).commonCode f.codes = some (k, number) from hc]
      exact (updLine_updLine ..).trans (by rw [← fields]; rfl)
    obtain ⟨t, runs, line, -⟩ := session.frame_line hf chosen
    rw [heard, chooses_eq k _ rfl rfl] at line
    have sess := sess_of_line (congrArg Line.ctx line) rfl
    have ctx := ctx_of_line (congrArg Line.ctx line)
    refine ⟨t, runs, by rw [sess], by rw [sess], by rw [sess]; rfl, by rw [line], by rw [ctx]; rfl, by rw [ctx]; rfl,
      by rw [line]; rfl, by rw [sess], by rw [line]; rfl, by rw [line]; rfl⟩
  · have closes : (s.atFrame n).takeFrame n (.offer f) = (s.atFrame n).updLine n fun l =>
        (l.hears f.tag).closesWith cause x.confirmed := by
      have closed : ((s.atFrame n).updLine n (·.hears f.tag)).closeWith n cause = (s.atFrame n).updLine n fun l =>
          (l.hears f.tag).closesWith cause x.confirmed := (closeWith_eq cause ctx).trans (updLine_updLine ..)
      rw [takes, ← closed]
      split at hc
      · next ho => rw [if_pos (by rw [ho]; rfl), hc]
      · next ho =>
        rw [if_neg (by simpa using ho)]
        split at hc
        · next hm => rw [hc]; exact if_pos hm
        · next hm =>
          obtain ⟨none, rfl⟩ := hc
          refine (if_neg hm).trans ?_
          rw [show (s.atFrame n).commonCode f.codes = .none from none]
    obtain ⟨t, runs, line, -⟩ := session.frame_line hf closes
    rw [heard, closesWith_eq cause _ rfl rfl] at line
    have sess := sess_of_line (congrArg Line.ctx line) rfl
    exact ⟨t, runs, by rw [line], by rw [sess], by rw [sess], by rw [sess], by rw [sess], by rw [line]; rfl,
      by rw [line]; rfl⟩

end Sys2Proof.Machine
end

section
/-!
PROOFS. A page begun by the caller: its reader, its work and its announcement; and ACCEPT, which begins the first (O45).
-/

namespace Sys2Proof.Machine

set_option Elab.async false

/-! ## Transmission readers (R10) -/

section Readers

variable {s : State} {n : LineNo} {x : Ctx} {y : Session} {p : Nat} {ref : PageRef}

theorem lt_of_readable (h : (s.page p).state.readable = true) : p < 256 := by
  by_contra out
  rw [page_of_out out] at h
  cases h

theorem acquire_transmission (hr : (s.page p).state.readable = true) (hd : (s.page p).document.isSome = true)
    (ht : (s.page p).transmissions < 4) : s.acquire .transmission p =
      (s.setPage p { s.page p with transmissions := (s.page p).transmissions + 1 },
        some { page := p, gen := s.pmm.generation }) := by
  simp [State.acquire, hr, hd, PageRec.readersOf, ReaderKind.limit, PageRec.setReaders, ht]

/-- A page with its document outlives its readers. -/
theorem release_transmission (hc : s.current ref = true) (hd : (s.page ref.page).document.isSome = true)
    (h0 : 0 < (s.page ref.page).transmissions) : s.release .transmission ref =
      s.setPage ref.page { s.page ref.page with transmissions := (s.page ref.page).transmissions - 1 } := by
  have held : (s.page ref.page).document.isNone = false := by rw [← Option.not_isSome, hd]; rfl
  simp [State.release, hc, PageRec.readersOf, PageRec.setReaders, h0, held]

theorem dropTransmission_none (hx : (s.line n).ctx = some x) (hy : x.sess = some y) (hr : y.reader = none) :
    s.dropTransmission n = s := by
  rw [State.dropTransmission, sess_of_line hx hy, hr]

theorem dropTransmission_some (hx : (s.line n).ctx = some x) (hy : x.sess = some y) (hr : y.reader = some ref) :
    s.dropTransmission n = (s.release .transmission ref).updLine n (·.onSess fun y => { y with reader := none }) := by
  rw [State.dropTransmission, sess_of_line hx hy, hr]
  rfl

end Readers

/-! ## A page begun (R71, R105) -/

/-- The codec `q` set to work on the page of reader `r` on line `n`: PASS or RECODE (R71). -/
def State.workOn (s : State) (n : LineNo) (r : PageRef) (q : Codec) : Codec :=
  let work := if s.passes n (s.page r.page) then CodecWork.pass else .recode
  { work := work, slot := q.slot, page := some r
    lines := (s.sendStream n work r).lines, replaced := (s.sendStream n work r).replaced }

/-- Line `n`'s codec for the page of the reader at hand, if there is one. -/
def State.sendingCodec (s : State) (n : LineNo) (reader : Option PageRef) : Codec :=
  match reader with
  | some r => s.workOn n r (s.line n).codec
  | none => (s.line n).codec

/-- The line that begins an attempt of session page `m` with the codec `q` (R105). -/
def Line.sendsPage (l : Line) (m attempt step : Nat) (q : Codec) : Line :=
  { l.onCtx fun x => { x with page := some m, attempt := some attempt } with codec := q : Line }.announces m attempt step

/-- What a page is passed under rests on the negotiated parameters and the code sets alone (R71). -/
theorem passes_congr {s t : State} {n : LineNo} (g : PageRec) (hx : (t.ctx n).params = (s.ctx n).params)
    (hc : t.lcd = s.lcd) : t.passes n g = s.passes n g := by
  rw [State.passes, State.passes, hx, State.codeSet, State.codeSet, hc]

section Begun

variable {s u : State} {n : LineNo} {l : Line} {x : Ctx} {y : Session}

theorem sendsPage_eq (m attempt step : Nat) (q : Codec) (h : l.ctx = some x) (hy : x.sess = some y) :
    l.sendsPage m attempt step q = { l with
      codec := q, tx := l.tx ++ (Frame.pageHead m attempt step).chars ++ [.dataStart step .send]
      phase := some { dir := .send, step := step }, renewed := false, pace := none
      frameReply := some l.config.frameReply
      ctx := some { x with page := some m, attempt := some attempt, sess := some { y with stage := .training } } } := by
  rw [Line.sendsPage, onCtx_eq _ h, Line.announces, onSess_eq (x := { x with page := some m, attempt := some attempt }) _ rfl hy]

theorem beginPage_eq {m attempt : Nat} (hu : s.takeReader n m attempt = u) (hx : (u.line n).ctx = some x)
    (hy : x.sess = some y) : s.beginPage n m attempt = u.updLine n (·.sendsPage m attempt y.step
      ((u.updLine n (·.onCtx fun x => { x with page := some m, attempt := some attempt })).sendingCodec n y.reader)) := by
  let v := u.updLine n (·.onCtx fun x => { x with page := some m, attempt := some attempt })
  have ctx : (v.line n).ctx = some { x with page := some m, attempt := some attempt } := by
    rw [line_updLine_self, onCtx_eq _ hx]
  have works : (match (v.sess n).reader with
      | some r => v.chooseWork n r
      | none => v) = v.updLine n fun l => { l with codec := v.sendingCodec n y.reader } := by
    rw [sess_of_line ctx hy]
    cases y.reader with
    | none => exact (updLine_of_fixed rfl).symm
    | some r => exact updLine_congr (f := fun l => { l with codec := v.workOn n r l.codec }) rfl
  unfold State.beginPage
  dsimp only
  rw [hu, updCtx_eq]
  refine (congrArg (State.announce · n) works).trans ?_
  have ctx' : ((v.updLine n fun l => { l with codec := v.sendingCodec n y.reader }).line n).ctx =
      some { x with page := some m, attempt := some attempt } := by
    rw [line_updLine_self]
    exact ctx
  rw [announce_eq ctx' hy, updLine_updLine, updLine_updLine]
  rfl

variable {jd : Nat × Nat} {j : Job} {p m : Nat}

/-- The reader of a page at its first attempt (R105). -/
theorem takeReader_first (hx : (s.line n).ctx = some x) (hy : x.sess = some y) (hj : x.job = some jd)
    (hd : s.job jd.1 = some j) (hp : (s.doc j.document).pages[y.base + m]? = some p)
    (hr : (s.page p).state.readable = true) (hdoc : (s.page p).document.isSome = true) (ht : (s.page p).transmissions < 4) :
    s.takeReader n (m + 1) 1 =
      (s.setPage p { s.page p with transmissions := (s.page p).transmissions + 1 }).updLine n (·.onSess fun y =>
        { y with reader := some { page := p, gen := s.pmm.generation }, trainFails := 0 }) := by
  have names : ((s.jobDocument n).bind fun d => s.docPage d ((s.sess n).base + (m + 1))) = some p := by
    rw [jobDocument_eq hx hj hd, sess_of_line hx hy]
    exact hp
  rw [State.takeReader, if_pos rfl, names]
  dsimp only
  rw [acquire_transmission hr hdoc ht]
  rfl

theorem takeReader_again (m : Nat) : s.takeReader n m 2 = s := if_neg (by decide)

/-- The line that begins session page `m` with its reader `r` and the codec `q`, at attempt 1 (R105). -/
def Line.beginsPage (l : Line) (m step : Nat) (r : PageRef) (q : Codec) : Line :=
  (l.onSess fun y => { y with reader := some r, trainFails := 0 }).sendsPage m 1 step q

theorem beginsPage_eq (m step : Nat) (r : PageRef) (q : Codec) (h : l.ctx = some x) (hy : x.sess = some y) :
    l.beginsPage m step r q = { l with
      codec := q, tx := l.tx ++ (Frame.pageHead m 1 step).chars ++ [.dataStart step .send]
      phase := some { dir := .send, step := step }, renewed := false, pace := none
      frameReply := some l.config.frameReply
      ctx := some { x with
        page := some m, attempt := some 1, sess := some { y with reader := some r, trainFails := 0, stage := .training } } } := by
  rw [Line.beginsPage, onSess_eq _ h hy, sendsPage_eq _ _ _ _ rfl rfl]

/-- A page begun at attempt 1, its codec in PASS or RECODE (R71, R105). -/
theorem beginPage_first (hx : (s.line n).ctx = some x) (hy : x.sess = some y) (hj : x.job = some jd)
    (hd : s.job jd.1 = some j) (hp : (s.doc j.document).pages[y.base + m]? = some p)
    (hr : (s.page p).state.readable = true) (hdoc : (s.page p).document.isSome = true) (ht : (s.page p).transmissions < 4) :
    ∃ q : Codec, q.work = (if s.passes n (s.page p) then .pass else .recode) ∧
      q.page = some { page := p, gen := s.pmm.generation } ∧
      s.beginPage n (m + 1) 1 = (s.setPage p { s.page p with transmissions := (s.page p).transmissions + 1 }).updLine n
        (·.beginsPage (m + 1) y.step { page := p, gen := s.pmm.generation } q) := by
  let r : PageRef := { page := p, gen := s.pmm.generation }
  let g := { s.page p with transmissions := (s.page p).transmissions + 1 }
  let u := (s.setPage p g).updLine n (·.onSess fun y => { y with reader := some r, trainFails := 0 })
  let v := u.updLine n (·.onCtx fun x => { x with page := some (m + 1), attempt := some 1 })
  have ctx : (u.line n).ctx = some { x with sess := some { y with reader := some r, trainFails := 0 } } := by
    rw [line_updLine_self]
    exact congrArg Line.ctx (onSess_eq (l := s.line n) _ hx hy)
  have page : v.page p = g := page_setPage_self s p g (lt_of_readable hr)
  have passes : v.passes n (v.page p) = s.passes n (s.page p) := by
    have params : (v.ctx n).params = (s.ctx n).params := by
      rw [State.ctx, line_updLine_self, onCtx_eq _ ctx, ctx_of_line hx, Option.getD_some]
    rw [page, passes_congr g params rfl]
    rfl
  refine ⟨v.sendingCodec n (some r), by rw [← passes]; rfl, rfl, ?_⟩
  rw [beginPage_eq (takeReader_first hx hy hj hd hp hr hdoc ht) ctx rfl]
  exact updLine_updLine ..

end Begun

/-! ## ACCEPT (R104, R105) -/

theorem callerTakesAccept : Claims.CallerTakesAccept := by
  intro s n x y jd j p h hx hy hr hg hs hp hj hd hpage hread hdoc ht
  have session := inSession_of h (by rw [hs]; rfl) hx hy hp
  have sess := session.sess_atFrame
  have accepts := takeFrame_accept (s := s.atFrame n) (by rw [sess, hr]) (by rw [sess, hg])
  have ctx := answered_ctx session.ctx_atFrame hy
  refine ⟨fun hc => ?_, fun hc => ?_⟩
  · let u := (s.atFrame n).updLine n fun l => { l.takesAnswer with state := .sending }
    have line : u.line n = _ := (line_updLine_self ..).trans (congrArg (fun l : Line => { l with state := .sending })
      ((congrArg Line.takesAnswer (line_atFrame s n)).trans session.answered))
    obtain ⟨q, -, -, begins⟩ := beginPage_first (s := u) (m := 0) (congrArg Line.ctx line) rfl hj hd hpage hread hdoc ht
    have takes : (s.atFrame n).takeFrame n .accept = u.beginPage n 1 1 := by
      rw [accepts, State.takeAccept, answered_eq]
      refine (if_neg ?_).trans (congrArg (State.beginPage · n 1 1) (updLine_updLine ..))
      rw [ctx_of_line ctx]
      exact hc ▸ nofun
    obtain ⟨t, runs, c⟩ := session.frame_next (f := .accept) rfl (takes.trans begins) rfl
    have ends := (c.line n).trans ((line_updLine_self ..).trans (beginsPage_eq _ _ _ q (congrArg Line.ctx line) rfl))
    rw [show (u.setPage p _).line n = _ from line] at ends
    have sess := sess_of_line (congrArg Line.ctx ends) rfl
    have ctx := ctx_of_line (congrArg Line.ctx ends)
    refine ⟨t, runs, by rw [ends], by rw [sess], by rw [ctx], by rw [ctx], by rw [sess]; rfl, ?_, by rw [ends]; rfl,
      by rw [ends], by rw [ends]; rfl⟩
    exact (c.page p).trans (page_setPage_self u p _ (lt_of_readable hread))
  · have closes : (s.atFrame n).takeFrame n .accept = (s.atFrame n).updLine n fun l =>
        l.takesAnswer.closesWith .closingFlag x.confirmed := by
      rw [accepts, State.takeAccept, answered_eq]
      refine (if_pos ?_).trans ((closeWith_eq _ ctx).trans (updLine_updLine ..))
      rw [ctx_of_line ctx]
      exact hc
    obtain ⟨t, runs, line, c⟩ := session.frame_line (f := .accept) rfl closes
    rw [session.answered, closesWith_eq _ _ rfl rfl] at line
    have sess := sess_of_line (congrArg Line.ctx line) rfl
    exact ⟨t, runs, by rw [line], by rw [sess], by rw [line]; rfl, fun q => c.page q⟩

/-- Settles O45: the choice, OFFER and ACCEPT. -/
theorem callerNegotiates : Obligations.CallerNegotiates := ⟨choiceFollowsR101, callerTakesOffer, callerTakesAccept⟩

end Sys2Proof.Machine
end

section
/-!
PROOFS. DECLINE while a page is being sent (O47), and PAGE_ACK (O49). Either way the caller is done with its page: the
reader is given back to the page memory manager, and the rest is an update of the line.
-/

namespace Sys2Proof.Machine

set_option Elab.async false

/-! ## A page done with (R10, R108, R113) -/

/-- A transmission reader given back, if there is one. -/
def State.givesBack (s : State) (r : Option PageRef) : State :=
  match r with
  | some r => s.release .transmission r
  | none => s

/-- The line of a caller that has no page to send: no reader, and the codec IDLE between pages. -/
def Line.leavesPage (l : Line) : Line :=
  { l.onSess fun y => { y with reader := none } with codec := l.codec.idle : Line }

section PageLeft

variable {s : State} {n : LineNo} {l : Line} {x : Ctx} {y : Session} {ref : PageRef}

theorem givesBack_goesOn (s : State) (r : Option PageRef) : GoesOn s (s.givesBack r) := by
  cases r
  exacts [.refl s, (GoesOn.refl s).release]

theorem leavesPage_eq (h : l.ctx = some x) (hy : x.sess = some y) : l.leavesPage = { l with
    codec := l.codec.idle, ctx := some { x with sess := some { y with reader := none } } } := by
  rw [Line.leavesPage, onSess_eq _ h hy]

theorem leavePage_eq (hx : (s.line n).ctx = some x) (hy : x.sess = some y) :
    (s.dropTransmission n).updCodec n Codec.idle = (s.givesBack y.reader).updLine n Line.leavesPage := by
  match hr : y.reader with
  | some r =>
    rw [dropTransmission_some hx hy hr]
    exact updLine_updLine ..
  | none =>
    rw [dropTransmission_none hx hy hr]
    refine updLine_congr ?_
    have still : (s.line n).onSess (fun y => { y with reader := none }) = s.line n := by
      rw [onSess_eq _ hx hy, ← hr, ← hy, ← hx]
    rw [Line.leavesPage, still]

/-- A sending phase, if any, ended: DATA_STOP, and no phase (R78). -/
theorem endsPhase_send (h : ∀ p, l.phase = some p → p.dir = .send) : ∃ renewed pace, l.endsPhase = { l with
    tx := l.tx ++ (if l.phase.isSome then [.dataStop] else []), phase := none, renewed := renewed, pace := pace } := by
  match hp : l.phase with
  | none =>
    have still : l.endsPhase = l := by rw [Line.endsPhase, hp]
    exact ⟨l.renewed, l.pace, by rw [still, Option.isSome_none, if_neg Bool.false_ne_true, List.append_nil, ← hp]⟩
  | some p => exact ⟨false, none, endsPhase_sending hp (h p hp)⟩

end PageLeft

/-! ## DECLINE (R108) -/

/-- Settles O47: the phase ended, the reader given back, and the close. -/
theorem callerTakesDecline : Obligations.CallerTakesDecline := by
  intro s n x y r ref h hx hy hr hg hs hp href hc hlt hdoc h0
  have session : s.InSession n x y := ⟨h, by rw [hs]; rfl, hx, hy, hp⟩
  have sess := session.sess_atFrame
  let u := (s.atFrame n).updLine n fun l => l.takesAnswer.endsPhase
  obtain ⟨renewed, pace, ended⟩ := endsPhase_send (l := (s.line n).unframed.takesAnswer) hp
  rw [session.answered] at ended
  have line : u.line n = _ := (line_updLine_self ..).trans ((congrArg (fun l : Line => l.takesAnswer.endsPhase)
    (line_atFrame s n)).trans ((congrArg Line.endsPhase session.answered).trans ended))
  let g := { s.page ref.page with transmissions := (s.page ref.page).transmissions - 1 }
  have gives : u.givesBack (some ref) = u.setPage ref.page g := release_transmission (s := u) hc hdoc h0
  have left : ((u.setPage ref.page g).updLine n Line.leavesPage).line n = _ :=
    (line_updLine_self ..).trans ((congrArg Line.leavesPage line).trans (leavesPage_eq rfl rfl))
  have takes : (s.atFrame n).takeFrame n (.decline r.code) =
      (u.setPage ref.page g).updLine n fun l => l.leavesPage.closesWith (.declined r) x.confirmed := by
    have parted : (u.dropTransmission n).updCodec n Codec.idle = (u.setPage ref.page g).updLine n Line.leavesPage := by
      rw [leavePage_eq (congrArg Line.ctx line) rfl, ← gives, ← href]
    rw [takeFrame_decline (by rw [sess, hr]) r (by rw [sess]; exact hg), State.takeDecline, answered_eq, endPhase_eq,
      updLine_updLine]
    exact (congrArg (State.closeWith · n (.declined r)) parted).trans
      ((closeWith_eq _ (congrArg Line.ctx left)).trans (updLine_updLine ..))
  obtain ⟨t, runs, c⟩ := session.frame_next (f := .decline r.code) (by cases r <;> rfl) takes rfl
  have ends := (c.line n).trans ((line_updLine_self ..).trans ((congrArg (·.closesWith (.declined r) x.confirmed)
    ((line_updLine_self ..).symm.trans left)).trans (closesWith_eq _ _ rfl rfl)))
  have sess := sess_of_line (congrArg Line.ctx ends) rfl
  refine ⟨t, runs, by rw [ends], by rw [sess], by rw [sess], by rw [sess], ?_, by rw [ctx_of_line (congrArg Line.ctx ends)],
    by rw [ends], by rw [ends]; rfl, c.repliesOwed⟩
  exact (c.page ref.page).trans (page_setPage_self u ref.page g hlt)

end Sys2Proof.Machine
end

section
/-!
PROOFS. The whole line of a call released (O49, O50): what the release writes on it, with the codec cleared; the charge unit
changes its context alone.
-/

namespace Sys2Proof.Machine

set_option Elab.async false

/-- From `s` to `t` line `n` changes by charges to its call: of the context the release reason and the pages confirmed
stand. -/
def ChargesLine (n : LineNo) (s t : State) : Prop :=
  ∃ f : Ctx → Ctx, t.line n = (s.line n).onCtx f ∧ ∀ x, (f x).reason = x.reason ∧ (f x).confirmed = x.confirmed

namespace ChargesLine

variable {s u t : State} {n : LineNo}

theorem trans (h : ChargesLine n s u) (k : ChargesLine n u t) : ChargesLine n s t := by
  obtain ⟨f, hf, keeps⟩ := h
  obtain ⟨g, hg, keeps'⟩ := k
  exact ⟨fun x => g (f x), by rw [hg, hf, onCtx_onCtx], fun x =>
    ⟨(keeps' _).1.trans (keeps x).1, (keeps' _).2.trans (keeps x).2⟩⟩

theorem updCtx (f : Ctx → Ctx) (h : ∀ x, (f x).reason = x.reason ∧ (f x).confirmed = x.confirmed) :
    ChargesLine n s (s.updCtx n f) := ⟨f, line_updLine_self .., h⟩

theorem charge (s : State) (m : Bool) (c : Int) : ChargesLine n s (s.charge n m c).1 := by
  unfold State.charge
  dsimp only
  split <;> exact ⟨_, line_updLine_self .., fun _ => ⟨rfl, rfl⟩⟩

theorem topUp (c : Int) (k : Nat) (s : State) : ChargesLine n s (topUp n c k s) := by
  induction k generalizing s with
  | zero => exact ⟨id, by simp [Machine.topUp, Line.onCtx], fun _ => ⟨rfl, rfl⟩⟩
  | succ k ih =>
    exact ((charge s true c).trans (updCtx (fun x => { x with steps := x.steps + 1 }) fun _ => ⟨rfl, rfl⟩)).trans (ih _)

theorem chargeRelease (s : State) : ChargesLine n s (s.chargeRelease n) := by
  have stops : ChargesLine n s (s.updCtx n fun x => { x with nextDue := none, elapsedOn := false }) :=
    updCtx _ fun _ => ⟨rfl, rfl⟩
  unfold State.chargeRelease
  dsimp only
  split
  exacts [stops.trans (topUp ..), stops]

end ChargesLine

section Released

variable {s : State} {n : LineNo} {x : Ctx} (r : EndReason)

/-- Between its line and its charges a release clears the codec and changes the session record (R90). -/
theorem releaseSettled_line (h : (s.line n).state ≠ .idle) :
    ∃ g, (s.releaseSettled n r).line n = { (s.line n).onSess g with codec := {} } := by
  have settled := (settleReceived_goesOn s n).line n h
  obtain ⟨-, g, dropped⟩ := dropTransmission_settles (s := s.settleReceived n) (n := n) (by rwa [settled])
  let u := ((s.settleReceived n).dropTransmission n).updCodec n fun _ => {}
  have line : u.line n = { (s.line n).onSess g with codec := {} } := (line_updLine_self ..).trans (by rw [dropped, settled])
  have hands := ((GoesOn.refl u).endReception (n := n) (r := r)).trans
    (handOutcome_goesOn (u.endReception n r) n (.released r))
  exact ⟨g, (hands.line n (by rw [line]; exact h)).trans line⟩

/-- The end of an event that releases line `n`'s call: the line, and of its context the reason and the pages confirmed. -/
theorem releaseCall_finish_line (hr : (s.line n).state.releasable = true) (hx : (s.line n).ctx = some x) :
    ∃ z, (s.releaseCall n r).finish.line n =
        { (s.line n).released r s.now s.chg.clock.set with codec := {}, ctx := some z } ∧
      z.reason = some r ∧ z.confirmed = x.confirmed := by
  let u := s.updLine n (·.released r s.now s.chg.clock.set)
  have line : u.line n = (s.line n).released r s.now s.chg.clock.set := line_updLine_self ..
  obtain ⟨g, settled⟩ := releaseSettled_line (s := u) (n := n) r (by rw [line]; nofun)
  obtain ⟨f, charged, keeps⟩ := ChargesLine.chargeRelease (n := n) (u.releaseSettled n r)
  have ctx : ((u.releaseSettled n r).line n).ctx = some { Ctx.clocked { x with
      reason := some r, releaseTime := some s.now } s.chg.clock.set with sess := x.sess.map g } := by
    rw [settled, line]
    show ((s.line n).released r s.now s.chg.clock.set).ctx.map _ = _
    rw [released_ctx r _ _ hx]
    rfl
  rw [onCtx_eq f ctx, settled, line] at charged
  have released : (s.releaseCall n r).line n = _ := (congrArg (State.line · n) (releaseCall_eq r hr)).trans charged
  exact ⟨_, (finish_line (by rw [released]; nofun)).trans released, (keeps _).1, (keeps _).2⟩

end Released

end Sys2Proof.Machine
end

section
/-!
PROOFS. PAGE_ACK at the caller (O49): the page announced again or the call released at a RESEND; and otherwise the page
confirmed and its reader given back, with the close or the next page to follow.
-/

namespace Sys2Proof.Machine

set_option Elab.async false

/-- The line of a caller whose page is sent a second time, one step lower, with the codec `q` (R113). -/
def Line.resends (l : Line) (m step : Nat) (q : Codec) : Line :=
  (l.takesAnswer.onSess fun y => { y with step := y.step - 1 }).sendsPage m 2 step q

/-- The line of a caller whose page is confirmed, its reader not yet given back (R113). -/
def Line.confirms (l : Line) : Line := l.takesAnswer.onCtx fun x => { x with confirmed := x.confirmed + 1 }

/-- Line `n`'s page is confirmed and its reader `r` given back (R113). -/
def State.pageKept (s : State) (n : LineNo) (r : Option PageRef) : State :=
  ((s.updLine n Line.confirms).givesBack r).updLine n Line.leavesPage

section Confirmed

variable {s : State} {n : LineNo} {l : Line} {x : Ctx} {y : Session}

/-- The line of a caller whose page is confirmed and left. -/
theorem confirmsAndLeaves_eq (h : l.ctx = some x) (hy : x.sess = some y) : l.confirms.leavesPage = { l with
    frameReply := none, codec := l.codec.idle
    ctx := some { x with
      confirmed := x.confirmed + 1, sess := some { y with request := none, expiries := 0, reader := none } } } := by
  rw [Line.confirms, takesAnswer_eq h hy, onCtx_eq _ rfl, leavesPage_eq rfl rfl]

theorem pageKept_line (r : Option PageRef) (h : (s.line n).state ≠ .idle) :
    (s.pageKept n r).line n = (s.line n).confirms.leavesPage := by
  have confirmed : (s.updLine n Line.confirms).line n = (s.line n).confirms := line_updLine_self ..
  rw [State.pageKept, line_updLine_self, (givesBack_goesOn _ r).line n (by rw [confirmed]; exact h), confirmed]

/-- A page with its document outlives the reader given back (R11). -/
theorem pageKept_held {ref : PageRef} (hc : s.current ref = true) (hd : (s.page ref.page).document.isSome = true)
    (h0 : 0 < (s.page ref.page).transmissions) : s.pageKept n (some ref) =
      (s.setPage ref.page { s.page ref.page with transmissions := (s.page ref.page).transmissions - 1 }).updLine n
        (·.confirms.leavesPage) := by
  have gives := release_transmission (s := s.updLine n Line.confirms) hc hd h0
  exact (congrArg (State.updLine · n Line.leavesPage) gives).trans (updLine_updLine (s.setPage ref.page _) ..)

end Confirmed

section Acknowledged

variable {s : State} {n : LineNo} {x : Ctx} {y : Session} {m : Nat} (hx : (s.line n).ctx = some x) (hy : x.sess = some y)
  (hm : x.page = some m)
include hx hy hm

theorem takePageAck_resends (ha : x.attempt = some 1) :
    ∃ q, s.takePageAck n .resend = s.updLine n (·.resends m (y.step - 1) q) := by
  let v := (s.updLine n Line.takesAnswer).updLine n (·.onSess fun y => { y with step := y.step - 1 })
  have ctx := answered_ctx hx hy
  have lowered : (v.line n).ctx = some { x with
      sess := some { y with request := none, expiries := 0, step := y.step - 1 } } := by
    rw [line_updLine_self, onSess_eq _ ctx rfl]
  have again : s.takePageAck n .resend = v.beginPage n m 2 := by
    unfold State.takePageAck
    dsimp only
    rw [answered_eq, ctx_of_line ctx, hm]
    exact if_pos ha
  exact ⟨_, again.trans ((beginPage_eq (takeReader_again m) lowered rfl).trans (by
    rw [updLine_updLine, updLine_updLine]
    rfl))⟩

theorem takePageAck_releases (ha : x.attempt = some 2) :
    s.takePageAck n .resend = (s.updLine n Line.takesAnswer).releaseCall n .protocolTimeout := by
  unfold State.takePageAck
  dsimp only
  rw [answered_eq, ctx_of_line (answered_ctx hx hy), hm]
  exact if_neg fun first => by cases ha.symm.trans first

/-- A page kept is confirmed and left; then the call closes, or the next page begins (R113, R114). -/
theorem takePageAck_keeps {v : Verdict} (hv : v ≠ .resend) : s.takePageAck n v =
    if m = x.params.pages then (s.pageKept n y.reader).closeWith n .lastPage
    else if x.closing then (s.pageKept n y.reader).closeWith n .closingFlag
    else (s.pageKept n y.reader).beginPage n (m + 1) 1 := by
  have ctx := answered_ctx hx hy
  have confirmed : ((s.updLine n Line.confirms).line n).ctx = some { x with
      confirmed := x.confirmed + 1, sess := some { y with request := none, expiries := 0 } } := by
    rw [line_updLine_self, Line.confirms, takesAnswer_eq hx hy, onCtx_eq _ rfl]
  have left := leavePage_eq confirmed rfl
  have page : ((s.updLine n Line.takesAnswer).ctx n).page = some m := by rw [ctx_of_line ctx, hm]
  have pages : ((s.updLine n Line.takesAnswer).ctx n).params.pages = x.params.pages := by rw [ctx_of_line ctx]
  have closing : ((s.updLine n Line.takesAnswer).ctx n).closing = x.closing := by rw [ctx_of_line ctx]
  have confirms : (s.updLine n Line.takesAnswer).updCtx n (fun x => { x with confirmed := x.confirmed + 1 }) =
      s.updLine n Line.confirms := updLine_updLine ..
  unfold State.takePageAck
  dsimp only
  rw [answered_eq, page, pages, closing, confirms, left, Option.getD_some]
  cases v with
  | resend => contradiction
  | keep => rfl
  | keepPoor => rfl

end Acknowledged

theorem resends_eq {l : Line} {x : Ctx} {y : Session} (m step : Nat) (q : Codec) (h : l.ctx = some x) (hy : x.sess = some y) :
    l.resends m step q = { l with
      codec := q, tx := l.tx ++ (Frame.pageHead m 2 step).chars ++ [.dataStart step .send]
      phase := some { dir := .send, step := step }, renewed := false, pace := none
      frameReply := some l.config.frameReply
      ctx := some { x with
        page := some m, attempt := some 2
        sess := some { y with request := none, expiries := 0, step := y.step - 1, stage := .training } } } := by
  rw [Line.resends, takesAnswer_eq h hy, onSess_eq _ rfl rfl, sendsPage_eq _ _ _ _ rfl rfl]

section Acknowledgement

variable {s : State} {n : LineNo} {x : Ctx} {y : Session} {m bad : Nat} {v : Verdict} (session : s.InSession n x y)
  (hr : y.role = .caller) (hg : y.stage = .waitAck) (hm : x.page = some m) (h1 : 1 ≤ m) (h64 : m ≤ 64)
include session hr hg hm h1 h64

/-- PAGE_ACK of the current page in WAIT_ACK. -/
theorem pageAck_gives {u : State} (hu : (s.atFrame n).takePageAck n v = u) :
    exec (.pageAck n m v.code bad) s = .next u.finish := by
  have sess := session.sess_atFrame
  refine session.frame_gives (f := .pageAck m v.code bad) ?_
    ((takeFrame_pageAck (by rw [sess, hr]) v m bad (by rw [sess, hg]) ?_).trans hu)
  · cases v <;> simp [Frame.inRange, h1, h64, Verdict.code, Verdict.ofCode]
  · rw [ctx_of_line session.ctx_atFrame, hm]

theorem pageAck_resends (ha : x.attempt = some 1) : ∃ t q, exec (.pageAck n m Verdict.resend.code bad) s = .next t ∧
    t.line n = (s.line n).unframed.resends m (y.step - 1) q := by
  obtain ⟨q, again⟩ := takePageAck_resends session.ctx_atFrame session.sess hm ha
  have c := finish_nothingButChoice ((s.atFrame n).updLine n (·.resends m (y.step - 1) q)) rfl
  exact ⟨_, q, pageAck_gives session hr hg hm h1 h64 again,
    (c.line n).trans ((line_updLine_self ..).trans (by rw [line_atFrame]))⟩

theorem pageAck_releases (hs : (s.line n).state.releasable = true) (ha : x.attempt = some 2) :
    ∃ t, exec (.pageAck n m Verdict.resend.code bad) s = .next t ∧ (t.line n).state = .releasing ∧
      (t.ctx n).reason = some .protocolTimeout ∧ (t.ctx n).confirmed = x.confirmed := by
  have releases := takePageAck_releases session.ctx_atFrame session.sess hm ha
  obtain ⟨z, line, reason, confirmed⟩ := releaseCall_finish_line (s := (s.atFrame n).updLine n Line.takesAnswer) (n := n)
    .protocolTimeout (by rw [line_updLine_self, line_atFrame]; exact hs) (answered_ctx session.ctx_atFrame session.sess)
  have ctx := ctx_of_line (congrArg Line.ctx line)
  exact ⟨_, pageAck_gives session hr hg hm h1 h64 releases, by rw [line]; rfl, by rw [ctx, reason],
    by rw [ctx, confirmed]⟩

/-- The close after the last page, or with the closing flag set (R113, R114). -/
theorem pageAck_closes (hs : (s.line n).state = .sending) (hv : v ≠ .resend) (hlast : m = x.params.pages ∨ x.closing = true) :
    let cause := if m = x.params.pages then CloseCause.lastPage else .closingFlag
    ∃ u, exec (.pageAck n m v.code bad) s = .next u.finish ∧
      u = ((s.atFrame n).pageKept n y.reader).updLine n (·.closesWith cause (x.confirmed + 1)) ∧
      u.finish.line n = (s.line n).unframed.confirms.leavesPage.closesWith cause (x.confirmed + 1) := by
  intro cause
  have left := pageKept_line (s := s.atFrame n) (n := n) y.reader (by rw [line_atFrame]; exact hs ▸ nofun)
  rw [line_atFrame] at left
  have ctx := (congrArg Line.ctx left).trans (congrArg Line.ctx
    (confirmsAndLeaves_eq (l := (s.line n).unframed) session.ctx session.sess))
  have closes : (s.atFrame n).takePageAck n v =
      ((s.atFrame n).pageKept n y.reader).updLine n (·.closesWith cause (x.confirmed + 1)) := by
    refine (takePageAck_keeps session.ctx_atFrame session.sess hm hv).trans (Eq.trans ?_ (closeWith_eq cause ctx))
    by_cases last : m = x.params.pages
    · rw [if_pos last, show cause = .lastPage from if_pos last]
    · rw [if_neg last, show cause = .closingFlag from if_neg last]
      exact if_pos (hlast.resolve_left last)
  have line : (((s.atFrame n).pageKept n y.reader).updLine n (·.closesWith cause (x.confirmed + 1))).line n =
      (s.line n).unframed.confirms.leavesPage.closesWith cause (x.confirmed + 1) := by
    rw [line_updLine_self, left]
  exact ⟨_, pageAck_gives session hr hg hm h1 h64 closes, rfl, (finish_line (by rw [line]; nofun)).trans line⟩

/-- The next page (R105, R113). -/
theorem pageAck_begins {ref : PageRef} {jd : Nat × Nat} {j : Job} {p : Nat} (hv : v ≠ .resend) (hlt : m < x.params.pages)
    (hc : x.closing = false) (href : y.reader = some ref) (hcur : s.current ref = true)
    (hd : (s.page ref.page).document.isSome = true) (h0 : 0 < (s.page ref.page).transmissions) (hj : x.job = some jd)
    (hjob : s.job jd.1 = some j) (hpage : (s.doc j.document).pages[y.base + m]? = some p) (hne : p ≠ ref.page)
    (hread : (s.page p).state.readable = true) (hdoc : (s.page p).document.isSome = true)
    (ht : (s.page p).transmissions < 4) :
    ∃ q : Codec, q.work = (if s.passes n (s.page p) then .pass else .recode) ∧
      q.page = some { page := p, gen := s.pmm.generation } ∧
      ∃ t, exec (.pageAck n m v.code bad) s = .next t ∧ NothingButChoice
        (((s.setPage ref.page { s.page ref.page with transmissions := (s.page ref.page).transmissions - 1 }).setPage p
          { s.page p with transmissions := (s.page p).transmissions + 1 }).updLine n fun l =>
            l.unframed.confirms.leavesPage.beginsPage (m + 1) y.step { page := p, gen := s.pmm.generation } q) t := by
  let w := ((s.atFrame n).setPage ref.page
    { s.page ref.page with transmissions := (s.page ref.page).transmissions - 1 }).updLine n (·.confirms.leavesPage)
  have kept : (s.atFrame n).pageKept n y.reader = w := by
    rw [href]
    exact pageKept_held (s := s.atFrame n) hcur hd h0
  have ctx : (w.line n).ctx = _ := (congrArg Line.ctx (line_updLine_self ..)).trans ((congrArg Line.ctx
    (congrArg (fun l : Line => l.confirms.leavesPage) (line_atFrame s n))).trans (congrArg Line.ctx
      (confirmsAndLeaves_eq (l := (s.line n).unframed) session.ctx session.sess)))
  have page : w.page p = s.page p := page_setPage_ne (s.atFrame n) ref.page p _ hne.symm
  obtain ⟨q, work, reads, begins⟩ := beginPage_first (s := w) (m := m) ctx rfl hj hjob hpage (by rw [page]; exact hread)
    (by rw [page]; exact hdoc) (by rw [page]; exact ht)
  have next : (s.atFrame n).takePageAck n v = w.beginPage n (m + 1) 1 := by
    rw [takePageAck_keeps session.ctx_atFrame session.sess hm hv, if_neg (Nat.ne_of_lt hlt), if_neg (by rw [hc]; nofun), kept]
  have passes : w.passes n (s.page p) = s.passes n (s.page p) :=
    passes_congr _ (by rw [ctx_of_line ctx, ctx_of_line session.ctx]) rfl
  rw [page] at begins work
  rw [passes] at work
  let a := (s.quieted.setPage ref.page
    { s.page ref.page with transmissions := (s.page ref.page).transmissions - 1 }).setPage p
      { s.page p with transmissions := (s.page p).transmissions + 1 }
  have merged : w.beginPage n (m + 1) 1 = a.updLine n fun l =>
      l.unframed.confirms.leavesPage.beginsPage (m + 1) y.step { page := p, gen := s.pmm.generation } q := by
    refine begins.trans ((updLine_updLine (a.updLine n Line.unframed) n (·.confirms.leavesPage) _).trans ?_)
    exact updLine_updLine ..
  exact ⟨q, work, reads, _, pageAck_gives session hr hg hm h1 h64 (next.trans merged), finish_nothingButChoice _ rfl⟩

end Acknowledgement

/-- Settles O49: the second attempt, the release, the close and the next page. -/
theorem callerTakesPageAck : Obligations.CallerTakesPageAck := by
  intro s n x y m bad v h hx hy hr hg hs hp hm h1 h64
  have session := inSession_of h (by rw [hs]; rfl) hx hy hp
  have kept := confirmsAndLeaves_eq (l := (s.line n).unframed) hx hy
  refine ⟨fun hv ha => ?_, fun hv ha => ?_, fun hv hlast => ?_, fun ref jd j p hv hlt hc href hcur h256 hd h0 hj hjob hpage
    hne hread hdoc ht => ?_⟩
  · subst hv
    obtain ⟨t, q, runs, ends⟩ := pageAck_resends (bad := bad) session hr hg hm h1 h64 ha
    rw [resends_eq (l := (s.line n).unframed) _ _ _ hx hy] at ends
    have sess := sess_of_line (congrArg Line.ctx ends) rfl
    have ctx := ctx_of_line (congrArg Line.ctx ends)
    exact ⟨t, runs, by rw [sess], by rw [sess], by rw [ctx], by rw [ctx], by rw [sess], by rw [sess], by rw [ends]; rfl⟩
  · subst hv
    exact pageAck_releases session hr hg hm h1 h64 (by rw [hs]; rfl) ha
  · obtain ⟨u, runs, hu, ends⟩ := pageAck_closes (bad := bad) session hr hg hm h1 h64 hs hv hlast
    rw [kept, closesWith_eq _ _ rfl rfl] at ends
    have sess := sess_of_line (congrArg Line.ctx ends) rfl
    refine ⟨_, runs, by rw [ctx_of_line (congrArg Line.ctx ends)], by rw [ends], by rw [sess], by rw [sess], by rw [sess],
      by rw [ends]; rfl, fun ref href hcur h256 hd h0 => ?_⟩
    rw [hu, href, pageKept_held (s := s.atFrame n) hcur hd h0]
    exact ((finish_nothingButChoice _ rfl).page ref.page).trans (page_setPage_self (s.atFrame n) ref.page _ h256)
  · obtain ⟨q, work, reads, t, runs, c⟩ := pageAck_begins (bad := bad) session hr hg hm h1 h64 hv hlt hc href hcur hd h0 hj
      hjob hpage hne hread hdoc ht
    have ends := (c.line n).trans (line_updLine_self ..)
    rw [show ((s.setPage ref.page _).setPage p _).line n = s.line n from rfl, kept, beginsPage_eq _ _ _ _ rfl rfl] at ends
    have sess := sess_of_line (congrArg Line.ctx ends) rfl
    have ctx := ctx_of_line (congrArg Line.ctx ends)
    refine ⟨t, runs, by rw [ctx], by rw [ends]; exact hs, by rw [sess], by rw [ctx], by rw [ctx], by rw [sess], by rw [sess],
      by rw [sess], by rw [sess], ?_, ?_, by rw [ends]; exact work, by rw [ends]; exact reads, by rw [ends],
      by rw [ends]; rfl, by rw [ends]; rfl⟩
    · exact (c.page p).trans (page_setPage_self (s.setPage ref.page _) p _ (lt_of_readable hread))
    · exact (c.page ref.page).trans ((page_setPage_ne (s.setPage ref.page _) p ref.page _ hne).trans
        (page_setPage_self s ref.page _ h256))

end Sys2Proof.Machine
end

section
/-!
PROOFS. The close of a call and the frame reply timer (O50): END and END_ACK, requests sent again, waits counted, and the
releases at their end.
-/

namespace Sys2Proof.Machine

set_option Elab.async false

/-! ## END and END_ACK (R114, R115) -/

/-- The line of a callee that has answered END, `pages` pages sent (R115). -/
def Line.lingers (l : Line) (pages : Nat) : Line :=
  { l.takesAnswer.onSess fun y => { y with stage := .linger, endPages := some pages } with
    state := .closing, tx := l.tx ++ Frame.endAck.chars, frameReply := some l.config.frameReply }

section Closing

variable {s : State} {n : LineNo} {l : Line} {x : Ctx} {y : Session}

theorem lingers_eq (pages : Nat) (h : l.ctx = some x) (hy : x.sess = some y) : l.lingers pages = { l with
    state := .closing, tx := l.tx ++ Frame.endAck.chars, frameReply := some l.config.frameReply
    ctx := some { x with
      sess := some { y with request := none, expiries := 0, stage := .linger, endPages := some pages } } } := by
  rw [Line.lingers, takesAnswer_eq h hy, onSess_eq _ rfl rfl]

theorem takeEnd_lingers (k : Nat) (h : (s.sess n).stage = .waitHead ∨ (s.sess n).stage = .waitTail ∨
    (s.sess n).stage = .offered ∨ (s.sess n).stage = .declined) : s.takeEnd n k = s.updLine n (·.lingers k) := by
  have lingers : (((((s.answered n).sendFrame n .endAck).enterState n .closing).updSess n fun y =>
      { y with stage := .linger, endPages := some k }).startReply n) = s.updLine n (·.lingers k) := by
    rw [answered_eq, State.sendFrame, State.sendChars, State.enterState, State.startReply, updSess_eq, updLine_updLine,
      updLine_updLine, updLine_updLine, updLine_updLine]
    rfl
  rw [← lingers, State.takeEnd]
  rcases h with h | h | h | h <;> rw [h]

theorem takeEndAck_releases {cause : CloseCause} (hx : (s.line n).ctx = some x) (hy : x.sess = some y)
    (hc : y.closeCause = some cause) :
    s.takeEndAck n = (s.updLine n Line.takesAnswer).releaseCall n cause.reason := by
  rw [State.takeEndAck, answered_eq, sess_of_line hx hy, hc]
  rfl

end Closing

theorem callsAreClosed : Claims.CallsAreClosed := by
  refine ⟨fun s n x y k h hx hy hr hg ht hp hk => ?_, fun s n x y cause h hx hy hr hg hs hp hc => ?_⟩
  · have session := inSession_of h ht hx hy hp
    have sess := session.sess_atFrame
    obtain ⟨-, -, -, ends⟩ := takeFrame_callee (s := s.atFrame n) (n := n) (by rw [sess, hr])
    obtain ⟨t, runs, line, -⟩ := session.frame_line (f := .endCall k) (decide_eq_true hk)
      ((ends k).trans (takeEnd_lingers k (by rw [sess]; exact hg)))
    rw [lingers_eq (l := (s.line n).unframed) k hx hy] at line
    have sess := sess_of_line (congrArg Line.ctx line) rfl
    exact ⟨t, runs, by rw [line], by rw [sess], by rw [sess], by rw [line]; rfl, by rw [line]; rfl⟩
  · have session := inSession_of h (by rw [hs]; rfl) hx hy hp
    have sess := session.sess_atFrame
    have takes := (takeFrame_endAck (s := s.atFrame n) (by rw [sess, hr]) (by rw [sess, hg])).trans
      (takeEndAck_releases session.ctx_atFrame hy hc)
    obtain ⟨z, line, reason, -⟩ := releaseCall_finish_line (s := (s.atFrame n).updLine n Line.takesAnswer) (n := n)
      cause.reason (by rw [line_updLine_self, line_atFrame]; exact congrArg LineState.releasable hs)
      (answered_ctx session.ctx_atFrame hy)
    have config (l : Line) : l.endsPhase.config = l.config := by
      unfold Line.endsPhase
      split <;> rfl
    refine ⟨_, session.frame_gives (f := .endAck) rfl takes, by rw [line]; rfl, by rw [line]; rfl, ?_, ?_⟩
    · rw [line]
      refine congrArg some ((congrArg LineConfig.releaseGuard (config _)).trans ?_)
      rw [line_updLine_self, line_atFrame]
      rfl
    · rw [ctx_of_line (congrArg Line.ctx line), reason]
      cases cause <;> rfl

/-! ## FRAME_REPLY_EXPIRY (R98, R99, R115) -/

/-- The line with the request `q` sent once more (R98). -/
def Line.repeats (l : Line) (q : Request) : Line :=
  { l.onSess fun y => { y with request := some { q with sent := q.sent + 1 } } with
    tx := l.tx ++ q.frame.chars, frameReply := some l.config.frameReply }

/-- The line with one more expiry counted (R98, R99). -/
def Line.waits (l : Line) (k : Nat) : Line :=
  { l.onSess fun y => { y with expiries := k } with frameReply := some l.config.frameReply }

section Expiry

variable {s : State} {n : LineNo} {x : Ctx} {y : Session} {q : Request} (hx : (s.line n).ctx = some x) (hy : x.sess = some y)
include hx hy

theorem requestExpires_repeats (r : EndReason) (hq : y.request = some q) (h : q.sent < 3) :
    s.requestExpires n r = s.updLine n (·.repeats q) := by
  rw [State.requestExpires, sess_of_line hx hy, hq]
  refine (if_pos h).trans ?_
  rw [State.sendFrame, State.sendChars, State.startReply, updSess_eq, updLine_updLine, updLine_updLine]
  rfl

theorem requestExpires_releases (r : EndReason) (hq : y.request = some q) (h : 3 ≤ q.sent) :
    s.requestExpires n r = s.releaseCall n r := by
  rw [State.requestExpires, sess_of_line hx hy, hq]
  exact if_neg (Nat.not_lt.2 h)

theorem watchExpires_waits (h : y.expiries < 2) : s.watchExpires n = s.updLine n (·.waits (y.expiries + 1)) := by
  rw [State.watchExpires, sess_of_line hx hy]
  refine (if_neg (by omega)).trans ?_
  rw [State.startReply, updSess_eq, updLine_updLine]
  rfl

theorem watchExpires_releases (h : 2 ≤ y.expiries) : s.watchExpires n = s.releaseCall n .protocolTimeout := by
  rw [State.watchExpires, sess_of_line hx hy]
  exact if_pos (by omega)

omit hy in
theorem stopReply_ctx : ((s.stopReply n).line n).ctx = some x := by
  rw [State.stopReply, line_updLine_self]
  exact hx

variable (hf : (s.line n).frameReply.isSome = true)
include hf

/-- A request's wait: the third expiry releases the call, PROTOCOL_TIMEOUT but in the wait for END_ACK. -/
theorem replyExpires_request
    (hg : y.stage = .waitReply ∨ y.stage = .waitAck ∨ y.stage = .offered ∨ y.stage = .waitEndAck) :
    ∃ r, s.replyExpires n = (s.stopReply n).requestExpires n r ∧ (y.stage ≠ .waitEndAck → r = .protocolTimeout) := by
  have sess : (s.stopReply n).sess n = y := sess_of_line (stopReply_ctx hx) hy
  rcases hg with hg | hg | hg | hg
  case inr.inr.inr =>
    exact ⟨(y.closeCause.map CloseCause.reason).getD .completed, by simp [State.replyExpires, hf, sess, hg],
      fun other => absurd hg other⟩
  all_goals exact ⟨.protocolTimeout, by simp [State.replyExpires, hf, sess, hg], fun _ => rfl⟩

theorem replyExpires_watch
    (hg : y.stage = .waitOffer ∨ y.stage = .declined ∨ y.stage = .waitHead ∨ y.stage = .waitTail) :
    s.replyExpires n = (s.stopReply n).watchExpires n := by
  have sess : (s.stopReply n).sess n = y := sess_of_line (stopReply_ctx hx) hy
  rcases hg with hg | hg | hg | hg <;> simp [State.replyExpires, hf, sess, hg]

theorem replyExpires_linger (hg : y.stage = .linger) :
    s.replyExpires n = (s.stopReply n).releaseCall n y.lingerReason := by
  have sess : (s.stopReply n).sess n = y := sess_of_line (stopReply_ctx hx) hy
  simp [State.replyExpires, hf, sess, hg]

end Expiry

section Expired

variable {s : State} {n : LineNo} {x : Ctx} {y : Session} (h : s.inReset = false)
include h

theorem expiry_updates {F G : Line → Line} (hF : s.quieted.replyExpires n = (s.quieted.stopReply n).updLine n F)
    (hG : F { s.line n with frameReply := none } = G (s.line n)) :
    ∃ t, exec (.frameReplyExpiry n) s = .next t ∧ NothingButChoice (s.updLine n G) t := by
  rw [exec_frameReplyExpiry]
  exact heed_updLine h (hF.trans (updLine_updLine ..)) hG

theorem expiry_releases {r : EndReason} (ht : (s.line n).state.takesFrames = true) (hx : (s.line n).ctx = some x)
    (hr : s.quieted.replyExpires n = (s.quieted.stopReply n).releaseCall n r) :
    ∃ t, exec (.frameReplyExpiry n) s = .next t ∧ (t.line n).state = .releasing ∧ (t.ctx n).reason = some r := by
  have stopped : (s.quieted.stopReply n).line n = { s.line n with frameReply := none } := line_updLine_self ..
  have releasable : (s.line n).state.releasable = true := by
    revert ht
    cases (s.line n).state <;> decide
  obtain ⟨z, line, reason, -⟩ := releaseCall_finish_line (s := s.quieted.stopReply n) (n := n) r
    (by rw [stopped]; exact releasable) (by rw [stopped]; exact hx)
  rw [exec_frameReplyExpiry]
  exact ⟨_, heed_gives h hr, by rw [line]; rfl, by rw [ctx_of_line (congrArg Line.ctx line), reason]⟩

end Expired

theorem replyTimerRepeatsOrReleases : Claims.ReplyTimerRepeatsOrReleases := by
  intro s n x y h hx hy hf ht
  have stopped : ((s.quieted.stopReply n).line n).ctx = some x := stopReply_ctx (s := s.quieted) hx
  refine ⟨fun q hg hq hs => ?_, fun q hg hq hs => ?_, fun hg hk => ?_, fun hg hk => ?_, fun hg => ?_⟩
  · obtain ⟨r, waits, -⟩ := replyExpires_request (s := s.quieted) hx hy hf hg
    refine expiry_updates h (waits.trans (requestExpires_repeats stopped hy r hq hs)) ?_
    rw [Line.repeats, onSess_eq (l := { s.line n with frameReply := none }) _ hx hy]
  · obtain ⟨r, waits, reason⟩ := replyExpires_request (s := s.quieted) hx hy hf (by tauto)
    have timeout : r = .protocolTimeout := reason fun e => by rcases hg with hg | hg | hg <;> cases hg.symm.trans e
    exact expiry_releases h ht hx (waits.trans (timeout ▸ requestExpires_releases stopped hy r hq hs))
  · refine expiry_updates h ((replyExpires_watch (s := s.quieted) hx hy hf hg).trans (watchExpires_waits stopped hy hk)) ?_
    rw [Line.waits, onSess_eq (l := { s.line n with frameReply := none }) _ hx hy]
  · exact expiry_releases h ht hx
      ((replyExpires_watch (s := s.quieted) hx hy hf hg).trans (watchExpires_releases stopped hy hk))
  · exact expiry_releases h ht hx (replyExpires_linger (s := s.quieted) hx hy hf hg)

/-- Settles O50: the close of a call, and the frame reply timer. -/
theorem callsAreClosedAndRepeated : Obligations.CallsAreClosedAndRepeated :=
  ⟨callsAreClosed, replyTimerRepeatsOrReleases⟩

end Sys2Proof.Machine
end

section
/-!
PROOFS. CHOOSE at the callee (O46): the support of a choice, the route of a call, and the declines.
-/

namespace Sys2Proof.Machine

set_option Elab.async false

/-! ## The support of a choice (R102) -/

theorem lowest_isSome {n : Nat} {p : Nat → Bool} : (lowest n p).isSome = true ↔ ∃ k < n, p k = true := by
  simp [lowest, List.find?_isSome]

theorem slotOf_isSome {s : State} {number : Nat} :
    (s.slotOf number).isSome = true ↔ ∃ k c, k < 2 ∧ s.codeSet k = some c ∧ c.number = number := by
  rw [State.slotOf, lowest_isSome]
  refine exists_congr fun k => ?_
  cases s.codeSet k <;> simp

theorem widthOk_iff (w : Nat) : widthOk w = true ↔ 256 ≤ w ∧ w ≤ 2048 ∧ w % 32 = 0 := by
  simp [widthOk, and_assoc]

theorem supportFollowsR102 : Claims.SupportFollowsR102 := by
  intro s o f
  unfold State.choiceSupported
  rcases density : f.density with _ | _ | d <;>
    simp only [Density.ofCode, Bool.and_eq_true, decide_eq_true_eq, slotOf_isSome, widthOk_iff] <;>
    simp [and_assoc]

/-! ## The route of a call (R139) -/

theorem hits_iff (r : RouteRule) (n : LineNo) (tag : Text) :
    RouteRule.hits r n tag = true ↔ r.mask.testBit n.val = true ∧ ∃ rest, tag = r.tagPrefix ++ rest := by
  rw [RouteRule.hits, RouteRule.covers, Bool.and_eq_true, List.isPrefixOf_iff_prefix]
  exact and_congr_right fun _ => exists_congr fun _ => eq_comm

/-- The first rule that hits, numbered from `k` on. -/
theorem firstRoute_some {n : LineNo} {tag : Text} {rules : List RouteRule} {i k : Nat} {r : RouteRule}
    (hi : rules[i]? = some r) (hr : RouteRule.hits r n tag = true)
    (hq : ∀ j q, j < i → rules[j]? = some q → ¬RouteRule.hits q n tag = true) :
    firstRoute n tag k rules = some (k + i, r) := by
  induction rules generalizing i k with
  | nil => cases hi
  | cons q rules ih =>
    match i with
    | 0 =>
      cases hi
      exact if_pos hr
    | i + 1 =>
      refine (if_neg (hq 0 q (Nat.succ_pos i) rfl)).trans ?_
      rw [ih (k := k + 1) hi fun j p hj => hq (j + 1) p (Nat.succ_lt_succ hj), Nat.add_right_comm, Nat.add_assoc]

theorem firstRoute_none {n : LineNo} {tag : Text} {rules : List RouteRule} (k : Nat)
    (hq : ∀ q ∈ rules, ¬RouteRule.hits q n tag = true) : firstRoute n tag k rules = none := by
  induction rules generalizing k with
  | nil => rfl
  | cons q rules ih =>
    rw [List.forall_mem_cons] at hq
    exact (if_neg hq.1).trans (ih (k + 1) hq.2)

theorem routeFollowsR139 : Claims.RouteFollowsR139 := by
  intro t n tag hits
  refine ⟨fun i r hi hr hq => ?_, fun hq => ?_⟩
  · have found := firstRoute_some (k := 0) hi ((hits_iff r n tag).2 hr)
      fun j q hj hjq hit => hq j q hj hjq ((hits_iff q n tag).1 hit)
    rw [Rtr.route, found, Nat.zero_add]
  · have missed := firstRoute_none (n := n) (tag := tag) 0 fun q hm hit => hq q hm ((hits_iff q n tag).1 hit)
    rw [Rtr.route, missed]
    exact ⟨rfl, rfl, rfl, rfl, rfl⟩

/-! ## Declines and stored replies (R99, R102) -/

/-- The line with a callee's reply sent and stored (R99). -/
def Line.stores (l : Line) (f : Frame) : Line :=
  { l.onSess fun y => { y with storedReply := some f, headSince := false } with tx := l.tx ++ f.chars }

/-- The line of a callee that declines a choice (R102). -/
def Line.declines (l : Line) (r : DeclineReason) : Line :=
  ((l.stores (.decline r.code)).onSess fun y => { y with declined := some r }).watches .declined

/-- The line of a callee that sends its stored reply again (R99). -/
def Line.repeatsReply (l : Line) (f : Frame) : Line :=
  { l.onSess fun y => { y with expiries := 0 } with tx := l.tx ++ f.chars, frameReply := some l.config.frameReply }

/-- The line of a callee that has heard a choice, the caller's tag kept (R102). -/
def Line.hearsChoice (l : Line) (tag : Text) : Line := (l.hears tag).onCtx fun x => { x with senderTag := some tag }

section Choice

variable {s : State} {n : LineNo} {l : Line} {x : Ctx} {y : Session}

theorem sendStored_eq (s : State) (n : LineNo) (f : Frame) : s.sendStored n f = s.updLine n (·.stores f) := by
  rw [State.sendStored, State.sendFrame, State.sendChars, updSess_eq, updLine_updLine]
  rfl

theorem declineChoose_eq (s : State) (n : LineNo) (r : DeclineReason) :
    s.declineChoose n r = s.updLine n (·.declines r) := by
  rw [State.declineChoose, enterWatch_eq, updSess_eq, sendStored_eq, updLine_updLine, updLine_updLine]
  rfl

theorem stores_eq (f : Frame) (h : l.ctx = some x) (hy : x.sess = some y) : l.stores f = { l with
    tx := l.tx ++ f.chars
    ctx := some { x with sess := some { y with storedReply := some f, headSince := false } } } := by
  rw [Line.stores, onSess_eq _ h hy]

theorem watches_eq (g : Stage) (h : l.ctx = some x) (hy : x.sess = some y) : l.watches g = { l with
    frameReply := some l.config.frameReply
    ctx := some { x with sess := some { y with stage := g, expiries := 0 } } } := by
  rw [Line.watches, onSess_eq _ h hy]

theorem declines_eq (r : DeclineReason) (h : l.ctx = some x) (hy : x.sess = some y) : l.declines r = { l with
    tx := l.tx ++ (Frame.decline r.code).chars, frameReply := some l.config.frameReply
    ctx := some { x with
      sess := some { y with
        storedReply := some (.decline r.code), headSince := false, declined := some r, stage := .declined
        expiries := 0 } } } := by
  rw [Line.declines, stores_eq _ h hy, onSess_eq _ rfl rfl, watches_eq _ rfl rfl]

theorem hearsChoice_eq (tag : Text) (h : l.ctx = some x) (hy : x.sess = some y) : l.hearsChoice tag = { l with
    frameReply := none
    ctx := some { x with
      senderTag := some tag, sess := some { y with request := none, expiries := 0, farTag := tag } } } := by
  rw [Line.hearsChoice, hears_eq tag h hy, onCtx_eq _ rfl]

theorem repeatsReply_eq (f : Frame) (h : l.ctx = some x) (hy : x.sess = some y) : l.repeatsReply f = { l with
    tx := l.tx ++ f.chars, frameReply := some l.config.frameReply
    ctx := some { x with sess := some { y with expiries := 0 } } } := by
  rw [Line.repeatsReply, onSess_eq _ h hy]

section Taken

variable {f : ChooseFields} {o : OfferFields} (hx : (s.line n).ctx = some x) (hy : x.sess = some y)
include hx hy

theorem repeatStored_eq (f : Frame) (hw : y.stage.watched = true) :
    s.repeatStored n f = s.updLine n (·.repeatsReply f) := by
  have sent : ((s.sendFrame n f).sess n).stage.watched = true := by
    have ctx : ((s.sendFrame n f).line n).ctx = some x := by
      rw [State.sendFrame, State.sendChars, line_updLine_self]
      exact hx
    rw [sess_of_line ctx hy, hw]
  refine (if_pos sent).trans ?_
  rw [State.sendFrame, State.sendChars, State.startReply, updSess_eq, updLine_updLine, updLine_updLine]
  rfl

theorem takeChoose_first (hg : y.stage = .offered) : s.takeChoose n f = s.firstChoose n f := by
  simp [State.takeChoose, sess_of_line hx hy, hg]

theorem hearsChoice_ctx (tag : Text) : ((s.updLine n (·.hearsChoice tag)).line n).ctx =
    some { x with senderTag := some tag, sess := some { y with request := none, expiries := 0, farTag := tag } } := by
  rw [line_updLine_self, hearsChoice_eq tag hx hy]

/-- What a callee makes of its first CHOOSE (R102). -/
theorem firstChoose_eq (ho : y.offered = some o) : s.firstChoose n f =
    if !o.receiveOk then s.updLine n fun l => (l.hearsChoice f.tag).declines .notReceiving
    else if s.choiceSupported o f then (s.updLine n (·.hearsChoice f.tag)).acceptChoose n f
    else s.updLine n fun l => (l.hearsChoice f.tag).declines .unsupported := by
  have hears : ((s.answered n).updSess n fun x => { x with farTag := f.tag }).updCtx n
      (fun x => { x with senderTag := some f.tag }) = s.updLine n (·.hearsChoice f.tag) := by
    rw [answered_eq, updSess_eq, updCtx_eq, updLine_updLine, updLine_updLine]
    rfl
  have offered : ((s.updLine n (·.hearsChoice f.tag)).sess n).offered = some o := by
    rw [sess_of_line (hearsChoice_ctx hx hy f.tag) rfl, ho]
  unfold State.firstChoose
  dsimp only
  rw [hears, offered, declineChoose_eq, declineChoose_eq, updLine_updLine, updLine_updLine]
  rfl

end Taken

end Choice

theorem calleeDeclinesChoose : Claims.CalleeDeclinesChoose := by
  intro s n x y o f h hx hy hr ht hp htag
  have session := inSession_of h ht hx hy hp
  have sess := session.sess_atFrame
  have inRange : (Frame.choose f).inRange = true := decide_eq_true htag
  obtain ⟨takes, -⟩ := takeFrame_callee (s := s.atFrame n) (n := n) (by rw [sess, hr])
  have repeats (g : Frame) (hw : y.stage.watched = true) (hst : (s.atFrame n).takeChoose n f = (s.atFrame n).repeatStored n g) :=
    session.frame_line inRange ((takes f).trans (hst.trans (repeatStored_eq session.ctx_atFrame hy g hw)))
  refine ⟨fun r hg ho hc => ?_, fun hg hst => ?_, fun r hg hst => ?_⟩
  · have declines : (s.atFrame n).takeFrame n (.choose f) =
        (s.atFrame n).updLine n fun l => (l.hearsChoice f.tag).declines r := by
      rw [takes, takeChoose_first session.ctx_atFrame hy hg, firstChoose_eq session.ctx_atFrame hy ho]
      split at hc
      · next hno =>
        subst hc
        exact if_pos (by rw [hno]; rfl)
      · next hok =>
        obtain ⟨unsupported, rfl⟩ := hc
        refine (if_neg (by simpa using hok)).trans (if_neg ?_)
        rw [show (s.atFrame n).choiceSupported o f = false from unsupported]
        nofun
    obtain ⟨t, runs, line, c⟩ := session.frame_line inRange declines
    rw [hearsChoice_eq (l := (s.line n).unframed) f.tag hx hy, declines_eq _ rfl rfl] at line
    have sess := sess_of_line (congrArg Line.ctx line) rfl
    exact ⟨t, runs, by rw [sess], by rw [sess], by rw [sess], by rw [ctx_of_line (congrArg Line.ctx line)],
      by rw [line]; rfl, by rw [sess], by rw [line]; rfl, fun d => c.doc d⟩
  · obtain ⟨t, runs, line, c⟩ := repeats .accept (by rw [hg]; rfl) (by simp [State.takeChoose, sess, hg, hst])
    rw [repeatsReply_eq (l := (s.line n).unframed) _ hx hy] at line
    have sess := sess_of_line (congrArg Line.ctx line) rfl
    exact ⟨t, runs, by rw [sess, hg], by rw [sess], by rw [line]; rfl, by rw [line]; rfl, fun d => c.doc d⟩
  · obtain ⟨t, runs, line, c⟩ := repeats (.decline r.code) (by rw [hg]; rfl) (by simp [State.takeChoose, sess, hg, hst])
    rw [repeatsReply_eq (l := (s.line n).unframed) _ hx hy] at line
    have sess := sess_of_line (congrArg Line.ctx line) rfl
    exact ⟨t, runs, by rw [sess, hg], by rw [sess], by rw [sess], by rw [sess, hst], by rw [line]; rfl, by rw [line]; rfl,
      fun d => c.doc d⟩

end Sys2Proof.Machine
end

section
/-!
PROOFS. A supported CHOOSE at the callee (O46): its route with a document, a print entry or the full print queue, the
acceptance, and the decline where records are short.
-/

namespace Sys2Proof.Machine

set_option Elab.async false

/-! ## The route of an accepted choice (R140, R141) -/

/-- A print entry just created for document `d`, no page of which is final (R150). -/
def State.blockedEntry (s : State) (src : EntrySource) (d copies priority : Nat) : Entry :=
  { seq := s.prt.counter, source := src, document := d, priority := priority, copies := copies, remaining := copies
    state := .blocked, finalCount := none }

/-- What the route `r` of a call on line `n` writes from `s` to `t` for document `d`, which has no page yet: its print
entry and print hold, or with all entries in use the board hold and PRINT_QUEUE_FULL (R141). -/
structure EntryRouted (s t : State) (n : LineNo) (d : Nat) (tag : Text) (rule : Option Nat) (r : RouteRule)
    (prints full : Bool) : Prop where
  lines : t.lines = s.lines
  desks : t.chg = s.chg
  router : t.rtr = s.rtr
  reports : t.reports = s.reports
  doc : t.doc d = { s.doc d with
    boardHold := (s.doc d).boardHold || full
    printHold := (s.doc d).printHold + if prints && !full then 1 else 0 }
  docs : ∀ e, e ≠ d → t.doc e = s.doc e
  entry : ∀ e, s.freeEntry = some e → prints = true →
    t.entry e = some (s.blockedEntry .route d r.copies r.priority) ∧
    t.prt.order = s.prt.order ++ [e] ∧ t.prt.counter = wrap16 s.prt.counter ∧ ∀ g, g ≠ e → t.entry g = s.entry g
  queue : (prints && !full) = false → t.prt = s.prt
  flag : full = true → t.flagged .printQueueFull = true
  notice : full = true → s.bli.enabled .printQueueFull = true → s.bli.notices.length < 32 →
    t.noticesOwed = s.noticesOwed ++
      [{ tag := 0, time := s.now
         body := .printQueueFull n (s.ctx n).callId d tag rule r.priority r.copies }]

theorem freeEntry_lt {s : State} {e : Nat} (h : s.freeEntry = some e) : e < 32 := lowest_lt h

theorem entry_setEntry_ne (s : State) (e g : Nat) (r : Option Entry) (h : g ≠ e) : (s.setEntry e r).entry g = s.entry g := by
  simp [State.entry, State.setEntry, h.symm]

theorem noticesOwed_raise {s : State} (b : NoticeBody) (tag : Nat) (he : s.bli.enabled b.kind = true)
    (hl : s.bli.notices.length < 32) :
    (s.raise b tag).noticesOwed = s.noticesOwed ++ [{ tag := tag, body := b, time := s.now }] := by
  have stands : (s.raise b tag).bli.sending = s.bli.sending := by rw [raise_raisesOnly s b tag]
  rw [State.noticesOwed, raise_queued b tag he hl, stands, ← List.append_assoc]
  rfl

/-- The entry of a document that is OPEN without pages is BLOCKED (R150). -/
theorem createEntry_blocked {s : State} {d e c p : Nat} (src : EntrySource) (hp : (s.doc d).pages = [])
    (ho : (s.doc d).state = .opened) (he : s.freeEntry = some e) : s.createEntry d src c p =
      (((s.setEntry e (some (s.blockedEntry src d c p))).updPrt fun q =>
        { q with order := q.order ++ [e], counter := wrap16 q.counter }).setDoc d
          { s.doc d with printHold := (s.doc d).printHold + 1 }, some e) := by
  have waits : s.finalPage d 1 = false := by simp [State.finalPage, State.docPage, hp]
  have opened : ((s.doc d).state == .closed) = false := by rw [ho]; rfl
  rw [State.createEntry, he]
  dsimp only
  rw [waits, opened]
  rfl

section Routed

variable {s : State} {n : LineNo} {d : Nat} {tag : Text} {rule : Option Nat} {r : RouteRule}

theorem routeEntry_routed (hd : d < 64) (hp : (s.doc d).pages = []) (ho : (s.doc d).state = .opened) :
    let prints : Bool := decide (1 ≤ r.copies)
    let full : Bool := prints && s.freeEntry.isNone
    ∃ t, s.routeEntry n d tag rule r = (t, if prints then s.freeEntry else none, full) ∧
      EntryRouted s t n d tag rule r prints full := by
  by_cases copies : r.copies = 0
  · refine ⟨s, by simp [State.routeEntry, copies], ?_⟩
    constructor <;> simp [copies]
  · have prints : 1 ≤ r.copies := Nat.one_le_iff_ne_zero.2 copies
    match free : s.freeEntry with
    | none =>
      let b := NoticeBody.printQueueFull n (s.ctx n).callId d tag rule r.priority r.copies
      let u := s.setDoc d { s.doc d with boardHold := true }
      have doc (e : Nat) : (u.raise b).doc e = u.doc e := by rw [State.doc, raise_pmm]; rfl
      refine ⟨u.raise b, by simp [State.routeEntry, copies, prints, State.createEntry, free, b, u]; rfl, ?_⟩
      exact {
        lines := raise_lines .., desks := raise_chg .., router := raise_rtr .., reports := raise_reports ..
        doc := by rw [doc, doc_setDoc_self _ _ _ hd]; simp [prints]
        docs := fun e he => (doc e).trans (doc_setDoc_ne _ _ _ _ he.symm)
        entry := fun e he => by cases he.symm.trans free
        queue := fun _ => raise_prt ..
        flag := fun _ => flagged_raise u b 0
        notice := fun _ => noticesOwed_raise (s := u) b 0 }
    | some e =>
      refine ⟨_, by rw [State.routeEntry, if_neg copies, createEntry_blocked .route hp ho free]; simp [prints]; rfl, ?_⟩
      exact {
        lines := rfl, desks := rfl, router := rfl, reports := rfl
        doc := (doc_setDoc_self _ _ _ hd).trans (by simp [prints])
        docs := fun e he => doc_setDoc_ne _ _ _ _ he.symm
        entry := fun g hg _ => by
          cases hg.symm.trans free
          exact ⟨entry_setEntry_self s _ _ (freeEntry_lt free), rfl, rfl, fun g hg => entry_setEntry_ne _ _ _ _ hg⟩
        queue := fun none => by simp [prints] at none
        flag := fun full => by simp at full
        notice := fun full => by simp at full }

end Routed

/-- The record of a document that the router creates for line `n` (R140). -/
def State.receivedDoc (s : State) (n : LineNo) (tag : Text) (r : RouteRule) : DocRec :=
  { state := .opened, origin := .received, boardHold := r.hold, filler := .lch n, desk := r.desk, senderTag := some tag
    created := s.now }

/-- The reception record of a call routed by `r` to document `d` (R140, R141). -/
def State.receptionOf (s : State) (call d : Nat) (rule : Option Nat) (r : RouteRule) (entry : Option Nat) (full : Bool) :
    Reception :=
  { callId := call, document := d, rule := rule, desk := r.desk, pool := (s.desk r.desk).poolOf, priority := r.priority
    copies := r.copies, hold := r.hold, entry := entry, queueFull := full }

theorem reception_setReception (s : State) (n : LineNo) (r : Option Reception) :
    tget (s.setReception n r).rtr.reception n.val none = r := by
  simp [State.setReception, tget]

section Requested

variable {s : State} {n : LineNo} {call : Nat} {tag : Text}

theorem routeRequest_short (h : s.freePageRecord = none ∨ s.freeDocRecord = none) : s.routeRequest n call tag = (s, none) := by
  unfold State.routeRequest
  split
  · rfl
  · rcases s.rtr.route n tag with ⟨rule, r⟩
    dsimp only
    split
    · rfl
    · next hp => rw [State.createDoc, h.resolve_left (by rw [hp]; nofun)]

theorem routeRequest_routed {p d : Nat} {rule : Option Nat} {r : RouteRule} (hc : s.hasCall n call = true)
    (hr : s.rtr.route n tag = (rule, r)) (hp : s.freePageRecord = some p) (hd : s.freeDocRecord = some d) :
    let prints : Bool := decide (1 ≤ r.copies)
    let full : Bool := prints && s.freeEntry.isNone
    ∃ t, s.routeRequest n call tag =
        (t.setReception n (some (s.receptionOf call d rule r (if prints then s.freeEntry else none) full)),
          some (r.desk, (s.desk r.desk).poolOf)) ∧
      EntryRouted (s.setDoc d (s.receivedDoc n tag r)) t n d tag rule r prints full := by
  intro prints full
  have created : s.createDoc .received r.desk (.lch n) (some tag) r.hold = (s.setDoc d (s.receivedDoc n tag r), some d) := by
    rw [State.createDoc, hd]
    rfl
  have doc := doc_setDoc_self s d (s.receivedDoc n tag r) (lowest_lt hd)
  obtain ⟨t, routes, entryRouted⟩ := routeEntry_routed (s := s.setDoc d (s.receivedDoc n tag r)) (n := n) (tag := tag)
    (rule := rule) (r := r) (lowest_lt hd) (by rw [doc]; rfl) (by rw [doc]; rfl)
  refine ⟨t, ?_, entryRouted⟩
  have desk : t.desk r.desk = s.desk r.desk := by
    rw [State.desk, entryRouted.desks]
    rfl
  rw [State.routeRequest, if_neg (by rw [hc]; nofun), hr, hp]
  dsimp only
  rw [created]
  dsimp only
  rw [routes]
  dsimp only
  rw [desk]
  rfl

end Requested

/-! ## The choice accepted, or declined for shortage (R103) -/

/-- The line of a callee that has bound its codec to slot `k` for the choice `f` (R103). -/
def Line.bindsChoice (l : Line) (k : Nat) (f : ChooseFields) : Line :=
  { (l.onCtx fun x => { x with params := x.params.choice f }).onSess fun y => { y with step := f.step } with
    codec := Codec.bound k }

/-- The line of a callee that accepts a choice, its call counted for a desk and its pool (R103, R164). -/
def Line.accepts (l : Line) (desk : Nat) (pool : Option Nat) : Line :=
  { (l.onCtx fun x => { x with desk := some desk, pool := pool, counted := some (desk, pool) }).stores .accept with
    state := .receiving : Line }.watches .waitHead

/-- The line of a callee that declines a choice for shortage, its codec unbound (R103). -/
def Line.runsShort (l : Line) : Line :=
  ({ l with codec := {} : Line }.onSess fun y => { y with memExhausted := true }).declines .noMemory

/-- The callee's answer to a supported choice, by the router's answer (R103). -/
def answersRoute (n : LineNo) : State × Option (Nat × Option Nat) → State
  | (u, none) => u.updLine n Line.runsShort
  | (u, some (d, p)) => (u.countCall d p (· + 1)).updLine n (·.accepts d p)

section Accepted

variable {s : State} {n : LineNo} {l : Line} {x : Ctx} {y : Session} {f : ChooseFields} {k : Nat}

theorem bindsChoice_eq (k : Nat) (f : ChooseFields) (h : l.ctx = some x) (hy : x.sess = some y) :
    l.bindsChoice k f = { l with
      codec := Codec.bound k
      ctx := some { x with params := x.params.choice f, sess := some { y with step := f.step } } } := by
  rw [Line.bindsChoice, onCtx_eq _ h, onSess_eq (x := { x with params := x.params.choice f }) _ rfl hy]

theorem accepts_eq (desk : Nat) (pool : Option Nat) (h : l.ctx = some x) (hy : x.sess = some y) :
    l.accepts desk pool = { l with
      state := .receiving, tx := l.tx ++ Frame.accept.chars, frameReply := some l.config.frameReply
      ctx := some { x with
        desk := some desk, pool := pool, counted := some (desk, pool)
        sess := some { y with storedReply := some .accept, headSince := false, stage := .waitHead, expiries := 0 } } } := by
  rw [Line.accepts, onCtx_eq _ h,
    stores_eq (x := { x with desk := some desk, pool := pool, counted := some (desk, pool) }) _ rfl hy, watches_eq _ rfl rfl]

theorem runsShort_eq (h : l.ctx = some x) (hy : x.sess = some y) : l.runsShort = { l with
    codec := {}, tx := l.tx ++ (Frame.decline 1).chars, frameReply := some l.config.frameReply
    ctx := some { x with
      sess := some { y with
        memExhausted := true, storedReply := some (.decline 1), headSince := false, declined := some .noMemory
        stage := .declined, expiries := 0 } } } := by
  rw [Line.runsShort, onSess_eq (l := { l with codec := {} }) _ h hy, declines_eq _ rfl rfl]
  rfl

/-- What a callee makes of a supported choice. -/
theorem acceptChoose_eq (hk : s.slotOf f.code = some k) (hx : (s.line n).ctx = some x) (hy : x.sess = some y) :
    s.acceptChoose n f = answersRoute n ((s.updLine n (·.bindsChoice k f)).routeRequest n x.callId f.tag) := by
  have binds : (((s.updCodec n fun _ => Codec.bound k).updCtx n fun x => { x with params := x.params.choice f }).updSess n
      fun x => { x with step := f.step }) = s.updLine n (·.bindsChoice k f) := by
    rw [State.updCodec, updCtx_eq, updSess_eq, updLine_updLine, updLine_updLine]
    rfl
  have call : ((s.updLine n (·.bindsChoice k f)).ctx n).callId = x.callId := by
    rw [State.ctx, line_updLine_self, bindsChoice_eq k f hx hy]
    rfl
  unfold State.acceptChoose
  dsimp only
  rw [hk]
  dsimp only
  rw [binds, call]
  rcases (s.updLine n (·.bindsChoice k f)).routeRequest n x.callId f.tag with ⟨u, _ | ⟨d, p⟩⟩ <;> dsimp only
  · rw [declineChoose_eq, State.updCodec, updSess_eq, updLine_updLine, updLine_updLine]
    rfl
  · rw [enterWatch_eq, State.enterState, sendStored_eq, updCtx_eq, updLine_updLine, updLine_updLine, updLine_updLine]
    rfl

end Accepted

theorem countCall_eq (s : State) (d : Nat) (p : Option Nat) (f : Nat → Nat) :
    s.countCall d p f = { s with chg := (s.countCall d p f).chg } := by
  unfold State.countCall
  dsimp only
  split <;> rfl

section Chosen

variable {s : State} {n : LineNo} {x : Ctx} {y : Session} {o : OfferFields} {f : ChooseFields} {k : Nat}

/-- The state in which a supported CHOOSE is routed: the far tag kept, the codec bound to slot `k`. -/
abbrev State.atRoute (s : State) (n : LineNo) (f : ChooseFields) (k : Nat) : State :=
  (s.atFrame n).updLine n fun l => (l.hearsChoice f.tag).bindsChoice k f

/-- A supported CHOOSE is answered as the router answers. -/
theorem State.InSession.choose_answersRoute (session : s.InSession n x y) (hr : y.role = .callee) (hg : y.stage = .offered)
    (ho : y.offered = some o) (hok : o.receiveOk = true) (hsup : s.choiceSupported o f = true) (hk : s.slotOf f.code = some k) :
    (s.atFrame n).takeFrame n (.choose f) = answersRoute n ((s.atRoute n f k).routeRequest n x.callId f.tag) := by
  have ctx := session.ctx_atFrame
  obtain ⟨takes, -⟩ := takeFrame_callee (s := s.atFrame n) (n := n) (by rw [session.sess_atFrame, hr])
  rw [takes, takeChoose_first ctx session.sess hg, firstChoose_eq ctx session.sess ho, if_neg (by rw [hok]; nofun)]
  refine (if_pos hsup).trans ((acceptChoose_eq (s := (s.atFrame n).updLine n (·.hearsChoice f.tag)) hk
    (hearsChoice_ctx ctx session.sess f.tag) rfl).trans ?_)
  rw [updLine_updLine]

/-- The line on which a supported CHOOSE is routed. -/
theorem State.InSession.line_atRoute (session : s.InSession n x y) (f : ChooseFields) (k : Nat) :
    (s.atRoute n f k).line n = { (s.line n).unframed with
      frameReply := none, codec := Codec.bound k
      ctx := some { x with
        senderTag := some f.tag, params := x.params.choice f
        sess := some { y with request := none, expiries := 0, farTag := f.tag, step := f.step } } } := by
  rw [State.atRoute, line_updLine_self, line_atFrame,
    hearsChoice_eq (l := (s.line n).unframed) f.tag session.ctx session.sess, bindsChoice_eq k f rfl rfl]

end Chosen

theorem shortageDeclinesChoose : Claims.ShortageDeclinesChoose := by
  intro s n x y o f h hx hy hr hg ho hs hp htag hok hsup hshort
  have session := inSession_of h (by rw [hs]; rfl) hx hy hp
  have supported : s.choiceSupported o f = true := hsup
  obtain ⟨k, hk⟩ : ∃ k, s.slotOf f.code = some k := by
    obtain ⟨⟨k, c, hk, hc⟩, -⟩ := (supportFollowsR102 s o f).1 supported
    exact Option.isSome_iff_exists.1 (slotOf_isSome.2 ⟨k, c, hk, hc⟩)
  have short := routeRequest_short (s := s.atRoute n f k) (n := n) (call := x.callId) (tag := f.tag) hshort
  have declines : (s.atFrame n).takeFrame n (.choose f) = (s.atFrame n).updLine n fun l =>
      ((l.hearsChoice f.tag).bindsChoice k f).runsShort := by
    rw [session.choose_answersRoute hr hg ho hok hsup hk, short]
    exact updLine_updLine ..
  obtain ⟨t, runs, c⟩ := session.frame_next (f := .choose f) (decide_eq_true htag) declines rfl
  have line : t.line n = _ := (c.line n).trans ((congrArg (State.line · n) (updLine_updLine ..).symm).trans
    ((line_updLine_self ..).trans (congrArg Line.runsShort (session.line_atRoute f k))))
  rw [runsShort_eq rfl rfl] at line
  have sess := sess_of_line (congrArg Line.ctx line) rfl
  have ctx := ctx_of_line (congrArg Line.ctx line)
  obtain ⟨-, -, ⟨notices, -⟩, -, same, -⟩ := c
  exact ⟨t, runs, by rw [line]; exact hs, by rw [sess], by rw [sess], by rw [sess], by rw [sess], by rw [ctx], by rw [ctx],
    by rw [line], by rw [line]; rfl, by rw [sess], by rw [line]; rfl, fun d => by rw [same]; rfl, by rw [same]; rfl,
    by rw [same]; rfl, notices⟩

theorem calleeAcceptsChoose : Claims.CalleeAcceptsChoose := by
  intro s n x y o f k d p rule route h hx hy hr hg ho hs hp htag hok hsup hk hpage hdoc hroute prints full
  have session := inSession_of h (by rw [hs]; rfl) hx hy hp
  have atRoute := session.line_atRoute f k
  have hasCall : (s.atRoute n f k).hasCall n x.callId = true := by
    rw [State.hasCall, atRoute]
    show ((s.line n).state.inCall && (x.callId == x.callId)) = true
    rw [hs, beq_self_eq_true]
    rfl
  obtain ⟨w, routes, routed⟩ := routeRequest_routed (s := s.atRoute n f k) hasCall hroute hpage hdoc
  let reception := s.receptionOf x.callId d rule route (if prints then s.freeEntry else none) full
  let v := w.setReception n (some reception)
  let pool := (s.desk route.desk).poolOf
  let u := (v.countCall route.desk pool (· + 1)).updLine n (·.accepts route.desk pool)
  have accepts : (s.atFrame n).takeFrame n (.choose f) = u := by
    rw [session.choose_answersRoute hr hg ho hok hsup hk, routes]
    rfl
  have counted : u = { v with chg := u.chg }.updLine n (·.accepts route.desk pool) := by
    show (v.countCall ..).updLine _ _ = _
    rw [countCall_eq]
    rfl
  obtain ⟨t, runs, c⟩ := session.frame_next (f := .choose f) (decide_eq_true htag) accepts (by
    rw [counted]
    exact routed.reports)
  have routedLine : w.line n = (s.atRoute n f k).line n := by
    rw [State.line, routed.lines]
    rfl
  have line : t.line n = _ := (c.line n).trans ((line_updLine_self ..).trans
    (congrArg (Line.accepts · route.desk pool) ((countCall_line ..).trans (routedLine.trans atRoute))))
  rw [accepts_eq _ _ rfl rfl] at line
  have sess := sess_of_line (congrArg Line.ctx line) rfl
  have ctx := ctx_of_line (congrArg Line.ctx line)
  rw [counted] at c
  obtain ⟨-, -, ⟨notices, -, kinds, -⟩, -, same, -⟩ := c
  have docs (e : Nat) : t.doc e = w.doc e := by rw [same]; rfl
  have prt : t.prt = w.prt := by rw [same]; rfl
  have entries (e : Nat) : t.entry e = w.entry e := by rw [State.entry, prt]; rfl
  refine ⟨t, runs, by rw [line], by rw [sess], by rw [line], by rw [line]; rfl, by rw [sess], by rw [ctx], by rw [ctx],
    by rw [ctx], by rw [ctx]; rfl, ?_, fun e he => ?_, ?_, fun e he hprints => ?_, fun none => ?_, fun hfull => ?_,
    fun hfull he hl => ?_⟩
  · have doc := routed.doc
    rw [doc_setDoc_self _ _ _ (lowest_lt hdoc)] at doc
    exact (docs d).trans (doc.trans (by rw [State.receivedDoc, Nat.zero_add]; rfl))
  · exact (docs e).trans ((routed.docs e he).trans (doc_setDoc_ne _ _ _ _ he.symm))
  · have rtr : t.rtr = v.rtr := by rw [same]; rfl
    rw [rtr]
    exact reception_setReception w n (some reception)
  · obtain ⟨entry, order, counter, others⟩ := routed.entry e he hprints
    rw [prt, entries]
    exact ⟨entry, order, counter, fun g hg => (entries g).trans (others g hg)⟩
  · exact prt.trans (routed.queue none)
  · rw [State.flagged, kinds]
    exact routed.flag hfull
  · have routing := ctx_of_line (s := (s.atRoute n f k).setDoc d ((s.atRoute n f k).receivedDoc n f.tag route))
      (congrArg Line.ctx atRoute)
    have raised := routed.notice hfull he hl
    rw [routing] at raised
    exact notices.trans raised

/-- Settles O46: the support of a choice, the route of a call, declines, acceptance and shortage. -/
theorem calleeAnswersChoose : Obligations.CalleeAnswersChoose :=
  ⟨supportFollowsR102, routeFollowsR139, calleeDeclinesChoose, calleeAcceptsChoose, shortageDeclinesChoose⟩

end Sys2Proof.Machine
end

section
/-!
PROOFS. Pages at the callee (O48): a PAGE_HEAD that opens a new page, and a PAGE_TAIL judged by the keep test. The verdict
writes the page's record; the callee's line is updated past it.
-/

namespace Sys2Proof.Machine

set_option Elab.async false

/-! ## PAGE_HEAD of a new page (R107) -/

/-- The line of a callee that begins to receive an attempt of session page `m` (R107). -/
def Line.beginsAttempt (l : Line) (m attempt step : Nat) : Line :=
  { (l.onCtx fun x => { x with page := some m, attempt := some attempt }).onSess fun y =>
      { y with step := step, headSince := true, stage := .training, expiries := 0 } with
    codec := l.codec.verifying, tx := l.tx ++ [.dataStart step .receive], phase := some { dir := .receive, step := step }
    renewed := false, pace := none, frameReply := some l.config.frameReply }

/-- The line of a callee that begins to receive session page `m` into the page of `r` (R107). -/
def Line.receivesPage (l : Line) (r : PageRef) (m step : Nat) : Line :=
  (l.onSess fun y => { y with page := some r }).beginsAttempt m 1 step

/-- What the callee's page open names (R107). -/
def Ctx.openRequest (x : Ctx) (n : LineNo) (document slot : Nat) : OpenRequest :=
  { filler := .lch n, document := document, source := .received, slot := slot, coding := x.params.coding
    width := x.params.width, density := x.params.density }

section Head

variable {s : State} {n : LineNo} {l : Line} {x : Ctx} {y : Session} {rc : Reception} {m st p k : Nat}

theorem beginAttempt_eq (s : State) (n : LineNo) (m attempt step : Nat) :
    s.beginAttempt n m attempt step = s.updLine n (·.beginsAttempt m attempt step) := by
  simp only [State.beginAttempt, State.startReply, State.startPhase, State.sendChars, State.updCodec, updSess_eq, updCtx_eq,
    updLine_updLine]
  rfl

theorem receivesPage_eq (r : PageRef) (m step : Nat) (h : l.ctx = some x) (hy : x.sess = some y) :
    l.receivesPage r m step = { l with
      codec := l.codec.verifying, tx := l.tx ++ [.dataStart step .receive]
      phase := some { dir := .receive, step := step }, renewed := false, pace := none
      frameReply := some l.config.frameReply
      ctx := some { x with
        page := some m, attempt := some 1
        sess := some { y with page := some r, step := step, headSince := true, stage := .training, expiries := 0 } } } := by
  rw [Line.receivesPage, onSess_eq _ h hy, Line.beginsAttempt, onCtx_eq _ rfl,
    onSess_eq (x := { x with page := some m, attempt := some 1, sess := some { y with page := some r } }) _ rfl rfl]

/-- A PAGE_HEAD of the next page, none being in progress under its number. -/
theorem takePageHead_new (hx : (s.line n).ctx = some x) (hy : x.sess = some y) (hr : y.role = .callee)
    (hg : y.stage.takesHead = true) (hh : y.headSince = false) (hm : m = y.settled + 1) (hle : m ≤ x.params.pages)
    (hp : x.page ≠ some m) : s.takePageHead n m 1 st = s.newPage n m st := by
  unfold State.takePageHead
  dsimp only
  rw [ctx_of_line hx, sess_of_line hx hy, if_pos ⟨hr, hg⟩, if_neg fun both => by simp [hh] at both,
    if_neg fun both => hp both.1, if_pos ⟨hm, hle, rfl, hp⟩]

theorem newPage_opens (hx : (s.line n).ctx = some x) (hy : x.sess = some y) (he : y.memExhausted = false)
    (hrc : tget s.rtr.reception n.val none = some rc) (hk : (s.line n).codec.slot = some k)
    (hopen : s.openPage (x.openRequest n rc.document k) =
      (s.pageOpened (x.openRequest n rc.document k) p, .ok { page := p, gen := s.pmm.generation })) :
    s.newPage n m st = (s.pageOpened (x.openRequest n rc.document k) p).updLine n
      (·.receivesPage { page := p, gen := s.pmm.generation } m st) := by
  unfold State.newPage
  rw [sess_of_line hx hy, if_neg (by rw [he]; nofun), hrc]
  dsimp only
  rw [ctx_of_line hx, hk, Option.getD_some]
  simp only [Ctx.openRequest] at hopen ⊢
  rw [hopen]
  dsimp only
  rw [beginAttempt_eq, updSess_eq, updLine_updLine]
  rfl

end Head

theorem calleeTakesPageHead : Claims.CalleeTakesPageHead := by
  intro s n x y rc m st p k h hx hy hr hg hh he hs hp hm hle h64 hst hpage hrc hk hd64 ho hf hl hn hfree
  have session := inSession_of h (by rw [hs]; rfl) hx hy hp
  have ctx := session.ctx_atFrame
  let r : PageRef := { page := p, gen := s.pmm.generation }
  let q := x.openRequest n rc.document k
  let u := (s.atFrame n).pageOpened q p
  have opens : (s.atFrame n).openPage q = (u, .ok r) := openPage_of_room (s := s.atFrame n) (q := q) ho hf hl hn hfree
  have takes : (s.atFrame n).takeFrame n (.pageHead m 1 st) = u.updLine n (·.receivesPage r m st) := by
    obtain ⟨-, takes, -⟩ := takeFrame_callee (s := s.atFrame n) (n := n) (by rw [session.sess_atFrame, hr])
    rw [takes, takePageHead_new ctx hy hr (by rw [hg]; rfl) hh hm hle hpage]
    exact newPage_opens ctx hy he hrc (by rw [line_atFrame]; exact hk) opens
  have inRange : (Frame.pageHead m 1 st).inRange = true := by
    simp [Frame.inRange, h64, hst, show 1 ≤ m by omega]
  obtain ⟨t, runs, c⟩ := session.frame_next inRange takes rfl
  have line : t.line n = _ := (c.line n).trans ((line_updLine_self ..).trans
    (congrArg (Line.receivesPage · r m st) (line_atFrame s n)))
  rw [receivesPage_eq (l := (s.line n).unframed) r m st hx hy] at line
  have sess := sess_of_line (congrArg Line.ctx line) rfl
  have ctx := ctx_of_line (congrArg Line.ctx line)
  refine ⟨t, runs, by rw [sess], by rw [sess], by rw [ctx], by rw [ctx], by rw [sess], by rw [line]; rfl, by rw [line],
    by rw [line]; rfl, ?_, ?_⟩
  · exact (c.page p).trans (page_setPage_self s p _ (lowest_lt hfree))
  · exact (congrArg DocRec.pages (c.doc rc.document)).trans
      (congrArg DocRec.pages (doc_setDoc_self (s.setPage p _) rc.document _ hd64))

/-! ## The keep test and the verdict (R111) -/

theorem keepTestFollowsR111 : Claims.KeepTestFollowsR111 := by
  intro s n g lines bytes check q st
  have apart : max q.found lines - min q.found lines = ((q.found : Int) - lines).natAbs := by omega
  refine ⟨by rw [badCount, apart], ?_⟩
  rw [State.keepTest]
  simp only [Bool.and_eq_true, decide_eq_true_eq, beq_iff_eq, and_assoc]
  rfl

theorem verdictOf_eq (g : PageRec) (pass : Bool) (attempt : Option Nat) :
    verdictOf (g.state == .damaged) pass (attempt.getD 0) =
      if g.state = .damaged then .keepPoor else if pass then .keep else if attempt = some 1 then .resend else .keepPoor := by
  have first : attempt.getD 0 = 1 ↔ attempt = some 1 := by cases attempt <;> simp
  simp [verdictOf, first]

/-! ## The page settled by its verdict (R8, R9, R112) -/

/-- A page record kept with its line and bad counts, poor or not (R8). -/
def PageRec.kept (g : PageRec) (lines bad : Nat) (poor : Bool) : PageRec :=
  { g with state := .complete, lineCount := lines, badLines := bad, poor := poor, final := true }

/-- From `s` to `t` the page of `r` is settled: the page memory changes, and what is owed is either final flags or freed
memory. -/
structure PageSettled (s t : State) : Prop where
  frame : t = { s with pmm := t.pmm, reports := t.reports }
  pending : t.pmm.pendingScan = s.pmm.pendingScan
  reports : (∀ r ∈ t.reports, ∃ d i, r = .pageFinal d i) ∨ ∀ r ∈ t.reports, r = .memoryFreed

section Settled

variable {s t : State} {n : LineNo} {r : PageRef} {v : Verdict} {lines bad : Nat}

theorem memoryFreed_nothingButChoice (hp : s.pmm.pendingScan = none) (hr : ∀ r ∈ s.reports, r = .memoryFreed) :
    NothingButChoice s s.finish := by
  rw [finish_memoryFreed hp hr]
  exact finish_nothingButChoice s.quieted rfl

/-- With no entry queued and no scan request pending, an event that settles a page and updates a line ends there. -/
theorem PageSettled.ends (h : PageSettled s t) (ho : s.prt.order = []) (hp : s.pmm.pendingScan = none) (F : Line → Line) :
    NothingButChoice (t.updLine n F) (t.updLine n F).finish := by
  rcases h.reports with finals | frees
  · refine pageFinal_nothingButChoice (s := t.updLine n F) finals ?_
    show t.prt.order = []
    rw [h.frame]
    exact ho
  · exact memoryFreed_nothingButChoice (s := t.updLine n F) (h.pending.trans hp) frees

theorem PageSettled.line (h : PageSettled s t) (n : LineNo) : t.line n = s.line n := by
  rw [h.frame]
  rfl

theorem completePage_of_damaged {poor : Bool} (hs : (s.page r.page).state = .damaged) :
    s.completePage r lines bad poor = s := by
  refine if_neg fun asked => ?_
  rw [hs] at asked
  simp at asked

theorem completePage_of_filling {poor : Bool} (hc : s.current r = true) (hs : (s.page r.page).state = .filling) :
    s.completePage r lines bad poor =
      (s.setPage r.page ((s.page r.page).kept lines bad poor)).reportFinal r.page := if_pos (by rw [hc, hs]; rfl)

theorem reportFinal_settles (p : Nat) (g : PageRec) (h : s.reports = []) : PageSettled s ((s.setPage p g).reportFinal p) where
  frame := by
    conv_lhs => rw [reportFinal_eq]
    rw [reportFinal_pmm]
    rfl
  pending := by
    rw [reportFinal_pmm]
    rfl
  reports := .inl (reportFinal_reports _ h)

theorem resetDiscard_of_filling (hc : s.current r = true) (hs : (s.page r.page).state = .filling) :
    s.resetDiscard r = (s.freeChain r.page).setPage r.page
      { (s.freeChain r.page).page r.page with byteCount := 0, lineCount := 0, check := 0xFFFF } := if_pos (by rw [hc, hs]; rfl)

theorem freeChain_pendingScan (s : State) (p : Nat) : (s.freeChain p).pmm.pendingScan = s.pmm.pendingScan := by
  by_cases h : s.chain p = []
  · rw [freeChain_of_empty h]
  · rw [freeChain_of_nonempty h]
    rfl

theorem freeChain_state (s : State) (p : Nat) : ((s.freeChain p).page p).state = (s.page p).state := by
  by_cases h : s.chain p = []
  · rw [freeChain_of_empty h]
  · rw [freeChain_of_nonempty h]
    by_cases hp : p < 256
    · exact (congrArg PageRec.state (page_setPage_self _ p _ hp)).trans rfl
    · rw [page_of_out hp, page_of_out hp]

theorem freeChain_settles (p : Nat) (g : PageRec) (h : s.reports = []) : PageSettled s ((s.freeChain p).setPage p g) where
  frame := by
    conv_lhs => rw [(freeChain_onlyFrees s p).frame]
    rfl
  pending := freeChain_pendingScan s p
  reports := .inr fun r hr => ((freeChain_onlyFrees s p).reports r hr).resolve_left (by rw [h]; nofun)

/-- A damaged page stands (R112). -/
theorem settleVerdict_damaged (hs : (s.page r.page).state = .damaged) (hv : v ≠ .resend) :
    s.settleVerdict r v lines bad = s := by
  cases v with
  | resend => contradiction
  | keep => exact completePage_of_damaged hs
  | keepPoor => exact completePage_of_damaged hs

section Filling

variable (hc : s.current r = true) (hlt : r.page < 256) (hr : s.reports = []) (hs : (s.page r.page).state = .filling)
include hc hlt hr hs

/-- A page kept is COMPLETE (R112). -/
theorem settleVerdict_keeps (hv : v ≠ .resend) : PageSettled s (s.settleVerdict r v lines bad) ∧
    (s.settleVerdict r v lines bad).page r.page = (s.page r.page).kept lines bad (decide (v = .keepPoor)) := by
  have keeps (poor : Bool) : PageSettled s (s.completePage r lines bad poor) ∧
      (s.completePage r lines bad poor).page r.page = (s.page r.page).kept lines bad poor := by
    rw [completePage_of_filling hc hs]
    exact ⟨reportFinal_settles _ _ hr, (reportFinal_page ..).trans (page_setPage_self _ _ _ hlt)⟩
  cases v with
  | resend => contradiction
  | keep => exact keeps false
  | keepPoor => exact keeps true

/-- A page to be sent again is an empty FILLING page (R9, R112). -/
theorem settleVerdict_resends : PageSettled s (s.settleVerdict r .resend lines bad) ∧
    ((s.settleVerdict r .resend lines bad).page r.page).state = .filling ∧
    ((s.settleVerdict r .resend lines bad).page r.page).byteCount = 0 ∧
    ((s.settleVerdict r .resend lines bad).page r.page).check = 0xFFFF := by
  have empties : s.settleVerdict r .resend lines bad = _ := resetDiscard_of_filling hc hs
  rw [empties, page_setPage_self _ _ _ hlt]
  exact ⟨freeChain_settles _ _ hr, (freeChain_state s r.page).trans hs, rfl, rfl⟩

end Filling

end Settled

/-! ## PAGE_TAIL (R111, R112) -/

/-- The session record of a callee that has judged its page: a page not to be sent again is settled (R112). -/
def Session.judged (y : Session) (v : Verdict) : Session :=
  if v = .resend then y else { y with settled := y.settled + 1, page := none }

/-- The line of a callee that answers a PAGE_TAIL with PAGE_ACK (R111, R112). -/
def Line.judges (l : Line) (m : Nat) (v : Verdict) (bad : Nat) : Line :=
  ({ l.onSess (·.judged v) with codec := l.codec.idle : Line }.stores (.pageAck m v.code bad)).watches .waitHead

section Judged

variable {s : State} {n : LineNo} {l : Line} {x : Ctx} {y : Session} {r : PageRef} {m lines bytes : Nat} {v : Verdict}
  {check : BitVec 16}

theorem judges_eq (m : Nat) (v : Verdict) (bad : Nat) (h : l.ctx = some x) (hy : x.sess = some y) : l.judges m v bad = { l with
    codec := l.codec.idle, tx := l.tx ++ (Frame.pageAck m v.code bad).chars, frameReply := some l.config.frameReply
    ctx := some { x with
      sess := some { y.judged v with
        storedReply := some (.pageAck m v.code bad), headSince := false, stage := .waitHead, expiries := 0 } } } := by
  rw [Line.judges, onSess_eq _ h hy, stores_eq _ rfl rfl, watches_eq _ rfl rfl]

theorem updSess_judged (hx : (s.line n).ctx = some x) (hy : x.sess = some y) :
    (if v = .resend then s else s.updSess n fun t => { t with settled := t.settled + 1, page := none }) =
      s.updLine n (·.onSess (·.judged v)) := by
  by_cases hv : v = .resend
  · have still : (s.line n).onSess (·.judged v) = s.line n := by
      have same : y.judged v = y := if_pos hv
      rw [onSess_eq _ hx hy, same, ← hy, ← hx]
    rw [if_pos hv, updLine_of_fixed still]
  · rw [if_neg hv, updSess_eq]
    refine updLine_congr ?_
    rw [onSess_eq _ hx hy, onSess_eq _ hx hy, Session.judged, if_neg hv]

/-- What a callee makes of a PAGE_TAIL in WAIT_TAIL. -/
theorem takePageTail_judges (hx : (s.line n).ctx = some x) (hy : x.sess = some y) (hg : y.stage = .waitTail)
    (hr : y.page = some r) (hm : x.page = some m) :
    let bad := badCount (s.line n).codec lines
    let v := verdictOf ((s.page r.page).state == .damaged) (s.keepTest n (s.page r.page) lines bytes check)
      (x.attempt.getD 0)
    (∀ k, (s.settleVerdict r v lines bad).line k = s.line k) →
      s.takePageTail n lines bytes check = (s.settleVerdict r v lines bad).updLine n (·.judges m v bad) := by
  intro bad v stands
  have ctx : ((s.settleVerdict r v lines bad).line n).ctx = some x := by rw [stands]; exact hx
  unfold State.takePageTail
  dsimp only
  rw [sess_of_line hx hy, hg]
  dsimp only
  rw [State.judge, sess_of_line hx hy, hr]
  dsimp only
  rw [ctx_of_line hx, hm, updSess_judged ctx hy, enterWatch_eq, sendStored_eq, State.updCodec, updLine_updLine,
    updLine_updLine, updLine_updLine]
  rfl

end Judged

theorem calleeJudgesPageTail : Claims.CalleeJudgesPageTail := by
  intro s n x y r lines bytes m check h ho hps hx hy hr hg hs hp hpage hcur hlt hm hatt g bad pass v hstate
  have session := inSession_of h (by rw [hs]; rfl) hx hy hp
  have ctx := session.ctx_atFrame
  let u := (s.atFrame n).settleVerdict r v lines bad
  have verdict : verdictOf (((s.atFrame n).page r.page).state == .damaged)
      ((s.atFrame n).keepTest n ((s.atFrame n).page r.page) lines bytes check) (x.attempt.getD 0) = v := by
    have kept : (s.atFrame n).keepTest n g lines bytes check = pass := by
      show _ = s.keepTest n g lines bytes check
      simp only [State.keepTest, line_atFrame, ctx_of_line ctx, ctx_of_line hx]
      rfl
    exact (congrArg (verdictOf (g.state == .damaged) · (x.attempt.getD 0)) kept).trans (verdictOf_eq g pass x.attempt)
  have counted : badCount ((s.atFrame n).line n).codec lines = bad := by rw [line_atFrame]; rfl
  have damaged (hd : g.state = .damaged) : u = s.atFrame n := by
    have poor : v = .keepPoor := if_pos hd
    exact settleVerdict_damaged hd (by rw [poor]; nofun)
  have keeps (hf : g.state = .filling) (hv : v ≠ .resend) : PageSettled (s.atFrame n) u ∧
      u.page r.page = g.kept lines bad (decide (v = .keepPoor)) :=
    settleVerdict_keeps (s := s.atFrame n) hcur hlt rfl hf hv
  have resends (hf : g.state = .filling) (hv : v = .resend) : PageSettled (s.atFrame n) u ∧
      (u.page r.page).state = .filling ∧ (u.page r.page).byteCount = 0 ∧ (u.page r.page).check = 0xFFFF := by
    rw [show u = (s.atFrame n).settleVerdict r .resend lines bad from
      congrArg ((s.atFrame n).settleVerdict r · lines bad) hv]
    exact settleVerdict_resends (s := s.atFrame n) hcur hlt rfl hf
  have settled : PageSettled (s.atFrame n) u := by
    rcases hstate with hf | hd
    · by_cases hv : v = .resend
      exacts [(resends hf hv).1, (keeps hf hv).1]
    · rw [damaged hd]
      exact ⟨rfl, rfl, .inl nofun⟩
  have takes : (s.atFrame n).takeFrame n (.pageTail lines bytes check) = u.updLine n (·.judges m v bad) := by
    obtain ⟨-, -, takes, -⟩ := takeFrame_callee (s := s.atFrame n) (n := n) (by rw [session.sess_atFrame, hr])
    have judges := takePageTail_judges (s := s.atFrame n) (lines := lines) (bytes := bytes) (check := check) ctx hy hg hpage hm
    rw [verdict, counted] at judges
    exact (takes ..).trans (judges settled.line)
  have c := settled.ends (n := n) ho hps (·.judges m v bad)
  have line : (u.updLine n (·.judges m v bad)).finish.line n = _ := (c.line n).trans ((line_updLine_self ..).trans
    (congrArg (Line.judges · m v bad) ((settled.line n).trans (line_atFrame s n))))
  rw [judges_eq (l := (s.line n).unframed) m v bad hx hy] at line
  have sess := sess_of_line (congrArg Line.ctx line) rfl
  have page := c.page r.page
  refine ⟨_, session.frame_gives (f := .pageTail lines bytes check) rfl takes, by rw [line]; rfl, by rw [sess],
    by rw [sess], by rw [sess], by rw [line]; rfl, fun hd => ?_, fun hf hk => ?_, fun hf hv => ?_, fun hv => ?_⟩
  · have stands : u.page r.page = g := by rw [damaged hd]; rfl
    exact page.trans stands
  · have kept : v ≠ .resend := by rcases hk with hk | hk <;> rw [hk] <;> nofun
    exact page.trans (keeps hf kept).2
  · obtain ⟨-, filling, empty, fresh⟩ := resends hf hv
    have same : y.judged v = y := if_pos hv
    rw [page, sess, same]
    exact ⟨filling, empty, fresh, hpage, rfl⟩
  · have judged : y.judged v = { y with settled := y.settled + 1, page := none } := if_neg hv
    rw [sess, judged]
    exact ⟨rfl, rfl⟩

/-- Settles O48: PAGE_HEAD of a new page, the keep test, and PAGE_TAIL. -/
theorem calleeReceivesPages : Obligations.CalleeReceivesPages :=
  ⟨calleeTakesPageHead, keepTestFollowsR111, calleeJudgesPageTail⟩

end Sys2Proof.Machine
end

section
/-!
PROOFS. Time (O52): dispatcher time and its upper value, and the clock with the elapsed counts of the calls in progress.
-/

namespace Sys2Proof.Machine

set_option Elab.async false

/-- The clock advanced by 1 ds, over midnight and from day 6 to day 0 (R168). -/
theorem stamp_tick_eq (c : Stamp) : c.tick =
    if c.time + 1 < 864000 then { day := c.day, time := c.time + 1 }
    else { day := if c.day < 6 then c.day + 1 else 0, time := 0 } := rfl

theorem line_tick (s : State) (n : LineNo) : s.tick.line n = (s.line n).elapse := by
  simp [State.line, State.tick]

/-- An elapsed count rises exactly where it runs (R175). -/
theorem elapse_eq (l : Line) : l.elapse =
    { l with ctx := l.ctx.map fun x => { x with elapsed := x.elapsed + x.elapsedOn.toNat } } := by
  have counts : (fun x : Ctx => if x.elapsedOn then { x with elapsed := x.elapsed + 1 } else x) =
      fun x => { x with elapsed := x.elapsed + x.elapsedOn.toNat } := by
    funext x
    split
    · next on => rw [show x.elapsedOn.toNat = 1 from congrArg Bool.toNat on]
    · next off => rw [show x.elapsedOn.toNat = 0 from congrArg Bool.toNat (Bool.eq_false_of_not_eq_true off)]; rfl
  rw [Line.elapse, counts]

/-- Settles O52: dispatcher time by the row's update; the clock's tick is `State.tick`, in which clock and lines are read. -/
theorem timeTicks : Obligations.TimeTicks := by
  intro s h
  refine ⟨heed_nothingButChoice
    (f := fun s => { s with dsp := { s.dsp with time := min (s.dsp.time + 1) Config.maxDispatcherTime } }) h rfl, ?_⟩
  obtain ⟨t, runs, c⟩ := heed_nothingButChoice (u := s.tick) (f := State.tick) h rfl
  have now : t.chg.clock.now = s.now.tick := congrArg (·.clock.now) c.chg
  refine ⟨t, runs, now.trans (stamp_tick_eq _), ?_, fun n => ?_⟩
  · rw [now, c.lines]
    exact c
  · rw [c.line, line_tick, elapse_eq]

end Sys2Proof.Machine
end

section
/-!
PROOFS. The dispatcher's records, and reports that ask nothing of anybody. A job's record is written by `State.setJob`; a
write of one of its destinations is one of the job. Evaluations bind nothing while no line can take a destination, and freed
memory resumes nothing while no scan request is pending: an event that owes these alone ends with the selector's choice.
-/

namespace Sys2Proof.Machine

set_option Elab.async false

/-! ## Jobs and their destinations (R118, R119) -/

theorem job_lt {s : State} {j : Nat} {r : Job} (h : s.job j = some r) : j < 32 := by
  by_contra out
  exact nomatch h.symm.trans (dif_neg out)

theorem job_setJob_ne (s : State) {j k : Nat} (r : Option Job) (h : k ≠ j) : (s.setJob j r).job k = s.job k :=
  tget_tset_ne _ _ _ _ _ h.symm

/-- The job with destination `d` replaced. -/
def Job.withDest (r : Job) (d : Nat) (x : Dest) : Job := { r with dests := r.dests.set d x }

section Records

variable {s : State} {j d : Nat} {r : Job} (hj : s.job j = some r)
include hj

theorem dest_of_job : s.dest j d = r.dests[d]? := by
  rw [State.dest, hj]
  rfl

theorem setDest_eq (x : Dest) : s.setDest j d x = s.setJob j (some (r.withDest d x)) := by
  rw [State.setDest, hj]
  rfl

/-- DEST_RESULT of a destination in its record (R131). -/
theorem destResult_eq {x : Dest} (hx : r.dests[d]? = some x) (o : Option OutcomeInfo) :
    s.destResult j d o = s.raise (.destResult j r.tag d x.state x.attempts x.calls x.confirmed
      (if x.state = .waitRetry then x.due else none) x.last o) := by
  rw [State.destResult, hj, dest_of_job hj, hx]
  simp

end Records

/-! ## Reports that ask nothing -/

/-- What the state owes asks nothing of anybody: evaluations while no line can take a destination (R125), and freed memory
while no scan request is pending (R18). -/
def State.owesNothing (s : State) : Prop :=
  ∀ r ∈ s.reports, r = .evaluate ∧ s.openLine = none ∨ r = .memoryFreed ∧ s.pmm.pendingScan = none

/-- While no line can take a destination an evaluation binds nothing (R125). -/
theorem evaluate_unbound {s : State} (h : s.openLine = none) : s.evaluate = s := by
  rw [State.evaluate, evaluateSteps, h]

theorem retryScan_of_none {s : State} (h : s.pmm.pendingScan = none) : s.retryScan = s := by
  rw [State.retryScan, h]

theorem State.owesNothing.idle {s : State} (h : s.owesNothing) :
    ∀ r ∈ s.reports, ∀ rs, { s with reports := rs }.handle r = { s with reports := rs } := by
  intro r hr rs
  rcases h r hr with ⟨rfl, none⟩ | ⟨rfl, none⟩
  · exact evaluate_unbound (s := { s with reports := rs }) none
  · exact retryScan_of_none (s := { s with reports := rs }) none

theorem State.owesNothing.finish {s : State} (h : s.owesNothing) : NothingButChoice s s.finish := by
  rw [finish_idle h.idle]
  exact finish_nothingButChoice s.quieted rfl

/-- One report worked off, after which nothing is asked of anybody. -/
theorem finish_handled {s : State} {r : Report} (hr : s.reports = [r]) (h : (s.quieted.handle r).owesNothing) :
    NothingButChoice (s.quieted.handle r) s.finish := by
  have first : drain drainBound s = drain 99999 (s.quieted.handle r) := by
    rw [drainBound, drain, hr]
    rfl
  have clears (u : State) (rs : List Report) : { u with reports := rs }.select.quieted = u.select.quieted := by
    rw [select_setReports]
    rfl
  have ends : s.finish = (s.quieted.handle r).quieted.finish := by
    rw [State.finish, first, drain_idle _ h.idle, finish_of_quiet (s.quieted.handle r).quieted rfl]
    exact (clears _ _).trans (clears _ []).symm
  rw [ends]
  exact finish_nothingButChoice (s.quieted.handle r).quieted rfl

/-! ## What the selector's choice leaves of the dispatcher, the documents and the notices -/

namespace NothingButChoice

variable {s t : State} (h : NothingButChoice s t)
include h

theorem dsp : t.dsp = s.dsp := by rw [h.same.1]
theorem job (k : Nat) : t.job k = s.job k := by rw [State.job, h.dsp]; rfl
theorem dest (j d : Nat) : t.dest j d = s.dest j d := by rw [State.dest, h.job]; rfl
theorem noticesOwed : t.noticesOwed = s.noticesOwed := by
  obtain ⟨-, -, ⟨notices, -⟩, -⟩ := h
  exact notices

end NothingButChoice

end Sys2Proof.Machine
end

section
/-!
PROOFS. Due timers and the dispatch of a ready destination (O53).
-/

namespace Sys2Proof.Machine

set_option Elab.async false

/-! ## DUE_TIMER_EXPIRY (R120) -/

section Due

variable {s : State} {j d : Nat} {r : Job} {x : Dest} (hj : s.job j = some r) (hx : r.dests[d]? = some x)
include hj hx

theorem dueExpires_due (ht : x.timer = true) (hw : x.state = .waitRetry) (hd : x.due.getD 0 ≤ s.dsp.time) :
    s.dueExpires j d = (s.setJob j (some (r.withDest d { x with timer := false }))).report .evaluate := by
  rw [State.dueExpires, dest_of_job hj, hx]
  exact (if_pos ⟨ht, hw, hd⟩).trans (congrArg (State.report · .evaluate) (setDest_eq hj _))

theorem dueExpires_early (h : x.timer = false ∨ x.state ≠ .waitRetry ∨ s.dsp.time < x.due.getD 0) :
    s.dueExpires j d = s := by
  rw [State.dueExpires, dest_of_job hj, hx]
  refine if_neg fun ⟨ht, hw, hd⟩ => ?_
  rcases h with h | h | h
  · exact nomatch ht.symm.trans h
  · exact h hw
  · omega

end Due

theorem dueTimersExpire : Claims.DueTimersExpire := by
  intro s j i r x h hj hx
  refine ⟨fun ht hw hd hn => ?_, fun early => ?_⟩
  · have due := dueExpires_due (s := s.quieted) hj hx ht hw hd
    exact ⟨_, heed_gives (f := fun s => s.dueExpires j.val i.val) h due,
      State.owesNothing.finish fun r hr => .inl ⟨List.mem_singleton.1 hr, hn⟩⟩
  · exact heed_nothingButChoice (f := fun s => s.dueExpires j.val i.val) h (dueExpires_early (s := s.quieted) hj hx early)

/-! ## The classification (R172, R173) -/

/-- The longest rule is a rule of the plan whose digits begin the key, and none that does is longer; there is none where no
digits of a rule begin the key (R172). -/
theorem longestRule_spec (plan : List DialRule) (key : Text) :
    (longestRule plan key = none ∧ ∀ r ∈ plan, ¬ r.digits <+: key) ∨
      ∃ q, longestRule plan key = some q ∧ q ∈ plan ∧ q.digits <+: key ∧
        ∀ r ∈ plan, r.digits <+: key → r.digits.length ≤ q.digits.length := by
  induction plan with
  | nil => exact .inl ⟨rfl, nofun⟩
  | cons r rs ih =>
    rw [longestRule]
    rcases ih with ⟨none, others⟩ | ⟨q, some, hq, begins, longest⟩
    · rw [none]
      dsimp only
      by_cases hr : r.digits <+: key
      · refine .inr ⟨r, if_pos (List.isPrefixOf_iff_prefix.2 hr), List.mem_cons_self, hr, ?_⟩
        rintro p (_ | ⟨_, hp⟩) bp
        exacts [le_rfl, absurd bp (others p hp)]
      · refine .inl ⟨if_neg (by rwa [List.isPrefixOf_iff_prefix]), ?_⟩
        rintro p (_ | ⟨_, hp⟩)
        exacts [hr, others p hp]
    · rw [some]
      dsimp only
      by_cases hr : r.digits <+: key ∧ q.digits.length < r.digits.length
      · refine .inr ⟨r, if_pos (by simpa [List.isPrefixOf_iff_prefix] using hr), List.mem_cons_self, hr.1, ?_⟩
        rintro p (_ | ⟨_, hp⟩) bp
        exacts [le_rfl, (longest p hp bp).trans hr.2.le]
      · refine .inr ⟨q, if_neg (by simpa [List.isPrefixOf_iff_prefix] using hr), List.mem_cons_of_mem _ hq, begins, ?_⟩
        rintro p (_ | ⟨_, hp⟩) bp
        exacts [Nat.le_of_not_lt fun shorter => hr ⟨bp, shorter⟩, longest p hp bp]

theorem longestRule_none {plan : List DialRule} {key : Text} (h : ∀ r ∈ plan, ¬ r.digits <+: key) :
    longestRule plan key = none := by
  rcases longestRule_spec plan key with ⟨none, -⟩ | ⟨q, -, hq, begins, -⟩
  exacts [none, absurd begins (h q hq)]

theorem longestRule_eq {plan : List DialRule} {key : Text} {r : DialRule} (hr : r ∈ plan) (begins : r.digits <+: key)
    (longest : ∀ q ∈ plan, q ≠ r → q.digits <+: key → q.digits.length < r.digits.length) :
    longestRule plan key = some r := by
  rcases longestRule_spec plan key with ⟨-, others⟩ | ⟨q, some, hq, bq, above⟩
  · exact absurd begins (others r hr)
  · by_cases same : q = r
    · rw [some, same]
    · exact absurd (longest q hq same bq) (Nat.not_lt.2 (above r hr begins))

section Desks

variable {s : State} {desk : Nat}

/-- What holds of the pool of a MEMBER, where it has one (R164). -/
theorem poolOf_forall (k : Desk) (P : Nat → Prop) :
    (∀ p, k.poolOf = some p → P p) ↔ ∀ p, k.kind = .member → k.pool = some p → P p := by
  unfold Desk.poolOf
  by_cases h : k.kind = .member <;> simp [h]

theorem permitted_iff (c : NumberClass) : s.permitted desk c = true ↔ (s.desk desk).classes.permits c = true ∧
    ∀ p, (s.desk desk).kind = .member → (s.desk desk).pool = some p → (s.desk p).classes.permits c = true := by
  rw [← poolOf_forall (s.desk desk) fun p => (s.desk p).classes.permits c = true, State.permitted, Bool.and_eq_true]
  cases (s.desk desk).poolOf <;> simp

theorem fundsOk_iff (tf : Tariff) : s.fundsOk desk tf = true ↔ tf.estimate ≤ (s.desk desk).balance ∧
    ∀ p, (s.desk desk).kind = .member → (s.desk desk).pool = some p →
      share (s.desk desk).weight tf.estimate ≤ (s.desk p).balance := by
  rw [← poolOf_forall (s.desk desk) fun p => share (s.desk desk).weight tf.estimate ≤ (s.desk p).balance, State.fundsOk,
    Bool.and_eq_true, decide_eq_true_eq]
  cases (s.desk desk).poolOf <;> simp

theorem estimate_eq (tf : Tariff) : tf.estimate = tf.setupCp + tf.stepCp * max 1 tf.minSteps := by
  rw [Tariff.estimate]
  push_cast
  rfl

end Desks

section Classified

variable {s : State} {desk : Nat} {t : Text} {r : DialRule} (rule : longestRule s.chg.plan (dialKey t) = some r)
include rule

theorem classify_blocked (h : r.cls = .blocked) : s.classify desk t = .barred := by
  rw [State.classify, rule]
  exact if_pos h

theorem classify_unrouted (h : r.cls ≠ .blocked)
    (fails : tget s.chg.tariffs r.tariff none = none ∨ transformDial r t = none) : s.classify desk t = .noRoute := by
  rw [State.classify, rule]
  refine (if_neg h).trans ?_
  rcases fails with fails | fails <;> rw [fails]
  cases tget s.chg.tariffs r.tariff none <;> rfl

/-- A string with a tariff and a transformation: barred, without funds, or a pass (R172, R173). -/
theorem classify_routed {tf : Tariff} {out : Text} (h : r.cls ≠ .blocked)
    (tariff : tget s.chg.tariffs r.tariff none = some tf) (transforms : transformDial r t = some out) :
    s.classify desk t =
      if !s.permitted desk r.cls then .barred
      else if !s.fundsOk desk tf then .noFunds
      else .pass { cls := r.cls, tariffId := r.tariff, tariff := tf, dial := out, pool := (s.desk desk).poolOf } := by
  rw [State.classify, rule]
  refine (if_neg h).trans ?_
  rw [tariff, transforms]

end Classified

theorem classificationFollowsR172 : Claims.ClassificationFollowsR172 := by
  intro s desk t key k
  refine ⟨fun none => ?_, fun r hr begins longest => ?_⟩
  · rw [State.classify, show longestRule s.chg.plan (dialKey t) = .none from longestRule_none none]
  · have rule : longestRule s.chg.plan (dialKey t) = some r := longestRule_eq hr begins longest
    refine ⟨classify_blocked rule, classify_unrouted rule, fun tf out dialled tariff transforms => ?_⟩
    intro allowed e funded
    have allows : s.permitted desk r.cls = true ↔ allowed := permitted_iff r.cls
    have funds : s.fundsOk desk tf = true ↔ funded := by
      rw [fundsOk_iff, estimate_eq]
      rfl
    rw [classify_routed rule dialled tariff transforms]
    refine ⟨fun barred => if_pos ?_, fun passes broke => ?_, fun passes paid => ?_⟩
    · simpa using mt allows.1 barred
    · rw [allows.2 passes, Bool.eq_false_of_not_eq_true (mt funds.1 broke)]
      rfl
    · rw [allows.2 passes, funds.2 paid, Desk.poolOf]
      simp [k]

/-! ## The transformation (R172) -/

/-- The first key characters go, with every P and W before the last of them. -/
theorem stripKey_append (a b : Text) (h : ∀ c ∈ a.getLast?, isKeyChar c = true) :
    stripKey (a.filter isKeyChar).length (a ++ b) = b := by
  induction a with
  | nil => simp [stripKey]
  | cons c a ih =>
    have rest : ∀ e ∈ a.getLast?, isKeyChar e = true := fun e he =>
      h e (by rw [List.getLast?_cons, Option.mem_def.1 he]; rfl)
    by_cases hc : isKeyChar c = true
    · rw [List.filter_cons_of_pos hc, List.length_cons, List.cons_append, stripKey, if_pos hc]
      exact ih rest
    · have key : ∃ n, (a.filter isKeyChar).length = n + 1 := by
        refine Nat.exists_eq_succ_of_ne_zero fun zero => ?_
        match e : a.getLast? with
        | none => exact hc (h c (by rw [List.getLast?_cons, e]; rfl))
        | some l =>
          have last : l ∈ a.filter isKeyChar := List.mem_filter.2 ⟨List.mem_of_getLast? e, rest l e⟩
          rw [List.length_eq_zero_iff.1 zero] at last
          contradiction
      obtain ⟨n, hn⟩ := key
      rw [List.filter_cons_of_neg hc, hn, List.cons_append, stripKey, if_neg hc, ← hn]
      exact ih rest

theorem transformationFollowsR172 : Claims.TransformationFollowsR172 := by
  refine ⟨fun r t short => if_pos short, fun r a b strip ends => ?_, by decide⟩
  have last : ∀ c ∈ a.getLast?, isKeyChar c = true := by
    rcases ends with rfl | ⟨u, c, rfl, key⟩
    · nofun
    · simpa using key
  have long : ¬(dialKey (a ++ b)).length < r.strip := by
    rw [dialKey, List.filter_append, List.length_append, strip]
    omega
  have stripped : stripKey r.strip (a ++ b) = b := strip ▸ stripKey_append a b last
  have fails : (!(r.prepend ++ b).any isKeyChar || decide (24 < (r.prepend ++ b).length)) = true ↔
      ¬((∃ c ∈ r.prepend ++ b, isKeyChar c = true) ∧ (r.prepend ++ b).length ≤ 24) := by
    rw [← List.any_eq_true, Bool.or_eq_true, decide_eq_true_eq, not_and_or, Nat.not_le, Bool.not_eq_true', Bool.not_eq_true]
  rw [transformDial, stripped]
  rw [if_neg long]
  by_cases ok : (∃ c ∈ r.prepend ++ b, isKeyChar c = true) ∧ (r.prepend ++ b).length ≤ 24
  · rw [if_neg (mt fails.1 (not_not.2 ok)), if_pos ok]
  · rw [if_pos (fails.2 ok), if_neg ok]

end Sys2Proof.Machine
end

section
/-!
PROOFS. The dispatch of a ready destination (O53): the one candidate, the line it is bound to, and the end of the evaluation.
-/

namespace Sys2Proof.Machine

set_option Elab.async false

/-! ## The bind (R83, R126) -/

/-- The context of a call bound for destination `dest` of job `job` (R93). -/
def State.boundCtx (s : State) (n : LineNo) (job dest jobTag desk : Nat) (p : Pass) : Ctx :=
  Ctx.clocked
    { callId := s.callCounter, dir := .out, job := some (job, dest), jobTag := jobTag, desk := some desk, pool := p.pool,
      counted := some (desk, p.pool), cls := some p.cls, tariffId := some p.tariffId, tariff := some p.tariff,
      metering := (s.line n).config.metering, start := s.now, reservation := true, dial := p.dial } s.chg.clock.set

/-- The line seized for a call with context `x` (R83). -/
def Line.seizes (l : Line) (x : Ctx) : Line :=
  { l with
    state := .seized, hookClosed := true, ringQual := none, ringGap := none, loopFound := false, toneSeen := false
    loopTimer := some 300, dialToneWait := some l.config.dialToneWait, meterQual := none, ctx := some x }

theorem seize_eq (s : State) (n : LineNo) (job dest jobTag desk : Nat) (p : Pass) : s.seize n job dest jobTag desk p =
    { s with callCounter := wrap16 s.callCounter }.updLine n (·.seizes (s.boundCtx n job dest jobTag desk p)) := by
  unfold State.seize State.takeCallId
  dsimp only
  rw [markClock_eq, updLine_updLine]
  rfl

/-- A count of active calls changes desks alone (R164). -/
theorem countCall_frame (s : State) (k : Nat) (p : Option Nat) (f : Nat → Nat) :
    s.countCall k p f = { s with chg := { s.chg with desks := (s.countCall k p f).chg.desks } } := by
  unfold State.countCall
  dsimp only
  split <;> rfl

/-- Destination `d` of job `r`, at place `j`, is IN_CALL on line `n`: a call id taken, a record place reserved, and the
calls counted on `desks` (R126). -/
def State.destBound (s : State) (j d : Nat) (r : Job) (x : Dest) (n : LineNo) (desks : Vector Desk 16) : State :=
  { s with
    callCounter := wrap16 s.callCounter
    chg := { s.chg with reservations := s.chg.reservations + 1, desks := desks } }.setJob j
      (some (r.withDest d { x with
        state := .inCall, line := some n, due := none, timer := false, calls := min (x.calls + 1) 65535 }))

theorem bindDest_eq {s : State} {n : LineNo} {c : Candidate} {r : Job} (x : Dest) (p : Pass) (hj : s.job c.job = some r) :
    ∃ desks, s.bindDest n c r x p =
      (s.destBound c.job c.dest r x n desks).updLine n (·.seizes (s.boundCtx n c.job c.dest r.tag r.desk p)) := by
  refine ⟨(s.reserve.countCall r.desk p.pool (· + 1)).chg.desks, ?_⟩
  unfold State.bindDest
  dsimp only
  rw [seize_eq, countCall_frame]
  refine (setDest_eq (r := r) ?_ _).trans ?_
  exacts [hj, rfl]

/-! ## The dispatch order (R125) -/

section Single

variable {s : State} {j : Nat} {r : Job} {x : Dest} (ho : s.dsp.order = [j]) (hj : s.job j = some r) (hx : r.dests = [x])
include ho hj hx

theorem nextCandidate_ready (h : s.ready r x = true) :
    s.nextCandidate = some { priority := r.priority, due := x.dueFor r, job := j, dest := 0 } := by
  simp [State.nextCandidate, State.candidates, ho, hj, hx, h]

theorem nextCandidate_waiting (h : s.ready r x = false) : s.nextCandidate = none := by
  simp [State.nextCandidate, State.candidates, ho, hj, hx, h]

end Single

theorem evaluateSteps_none (k : Nat) {s : State} (h : s.nextCandidate = none) : evaluateSteps k s = s := by
  cases k with
  | zero => rfl
  | succ k =>
    rw [evaluateSteps, h]
    cases s.openLine <;> rfl

/-- An evaluation that finds one destination ready binds it (R125, R126). -/
theorem evaluate_binds {s : State} {j : Nat} {r : Job} {x : Dest} {p : Pass} {n : LineNo} (ho : s.dsp.order = [j])
    (hj : s.job j = some r) (hx : r.dests = [x]) (ready : s.ready r x = true) (hn : s.openLine = some n)
    (place : s.placeFree = true) (passes : s.classify r.desk x.dial = .pass p) :
    ∃ c : Candidate, c.job = j ∧ c.dest = 0 ∧ s.evaluate = s.bindDest n c r x p := by
  let c : Candidate := { priority := r.priority, due := x.dueFor r, job := j, dest := 0 }
  have hd : s.dest c.job c.dest = some x := by
    rw [dest_of_job hj, hx]
    rfl
  have binds : s.dispatch n c = s.bindDest n c r x p := by
    rw [State.dispatch, hj, hd]
    dsimp only
    rw [passes]
  obtain ⟨desks, bound⟩ := bindDest_eq (n := n) (c := c) x p hj
  have ends : (s.bindDest n c r x p).nextCandidate = none := by
    rw [bound]
    refine nextCandidate_waiting (x := { x with
      state := .inCall, line := some n, due := none, timer := false, calls := min (x.calls + 1) 65535 }) ho
      (job_setJob_self _ _ _ (job_lt hj)) ?_ ?_
    · rw [Job.withDest, hx]
      rfl
    · simp [State.ready]
  refine ⟨c, rfl, rfl, ?_⟩
  rw [State.evaluate, evaluateSteps, hn, nextCandidate_ready ho hj hx ready]
  dsimp only
  rw [if_pos place, binds, evaluateSteps_none _ ends]

theorem dueDestinationIsDispatched : Claims.DueDestinationIsDispatched := by
  intro s j r x p n h ho hj active hx ht hw hd closed paged hn room passes
  let y : Dest := { x with timer := false }
  let u := s.quieted.setJob j (some (r.withDest 0 y))
  have first : r.dests[0]? = some x := by rw [hx]; rfl
  have due : s.quieted.dueExpires j 0 = u.report .evaluate := dueExpires_due (s := s.quieted) hj first ht hw hd
  have job : u.job j = some (r.withDest 0 y) := job_setJob_self _ _ _ j.isLt
  have ready : u.ready (r.withDest 0 y) y = true := by
    have waits : (y.state == .waitRetry && decide (y.due.getD 0 ≤ u.dsp.time)) = true := by
      rw [Bool.and_eq_true, beq_iff_eq, decide_eq_true_eq]
      exact ⟨hw, hd⟩
    have doc : u.doc r.document = s.doc r.document := rfl
    have listed : (s.doc r.document).pages.isEmpty = false := by simpa using paged
    simp [State.ready, waits, Job.withDest, active, doc, closed, listed]
  obtain ⟨c, hcj, hcd, binds⟩ := evaluate_binds (s := u) (r := r.withDest 0 y) ho job (by rw [Job.withDest, hx]; rfl) ready
    hn (decide_eq_true room) passes
  obtain ⟨desks, bound⟩ := bindDest_eq (s := u) (n := n) (c := c) y p (by rw [hcj]; exact job)
  have ends := finish_handled (s := u.report .evaluate) (r := .evaluate) rfl (by
    show u.evaluate.owesNothing
    rw [binds, bound]
    nofun)
  rw [show (u.report .evaluate).quieted.handle .evaluate = _ from binds.trans bound, hcj, hcd] at ends
  have calls : (u.report .evaluate).finish.dest j 0 = some { x with
      state := .inCall, line := some n, due := none, timer := false, calls := min (x.calls + 1) 65535 } := by
    rw [dest_of_job ((ends.job j).trans (job_setJob_self _ _ _ j.isLt)), Job.withDest, Job.withDest, hx]
    rfl
  have line : (u.report .evaluate).finish.line n = (s.line n).seizes (u.boundCtx n j 0 r.tag r.desk p) :=
    (ends.line n).trans (line_updLine_self ..)
  have ctx := ctx_of_line (congrArg Line.ctx line)
  refine ⟨_, heed_gives (f := fun s => s.dueExpires j.val 0) h due, ?_⟩
  rw [line, ctx, ends.chg]
  exact ⟨rfl, rfl, rfl, rfl, rfl, rfl, rfl, rfl, rfl, rfl, rfl, rfl, calls, fun m hm =>
    (ends.line m).trans (line_updLine_ne _ _ _ _ hm.symm)⟩

/-- Settles O53: due timers, the classification, the transformation, and the dispatch. -/
theorem dueDestinationsAreDispatched : Obligations.DueDestinationsAreDispatched :=
  ⟨dueTimersExpire, classificationFollowsR172, transformationFollowsR172, dueDestinationIsDispatched⟩

end Sys2Proof.Machine
end

section
/-!
PROOFS. Submitted and cancelled jobs (O51). A job whose destinations are all terminal completes in one way whoever ends it:
`JobCompleted` says what that leaves of the dispatcher, the document, the link and the reports.
-/

namespace Sys2Proof.Machine

set_option Elab.async false

/-! ## Replies and notices of one command -/

/-- The reply of a command whose link stands as the command found it (R184). -/
theorem reply_answers {s u : State} (h : u.bli = s.heeded.bli) (tag code : Nat) (r : ResultCode) (c : Nat) (b : ReplyBody) :
    Answered s (u.reply tag code r c b) (s.replyNow tag code r c b) := by
  have replies : u.bli.replies = s.bli.replies := by rw [h]; rfl
  have owed : u.repliesOwed = s.repliesOwed := by rw [State.repliesOwed, h]; rfl
  have lost : u.bli.summary.replyLost = s.bli.summary.replyLost := by rw [h]; rfl
  have now : u.replyNow tag code r c b = s.replyNow tag code r c b := by rw [State.replyNow, h]; rfl
  by_cases room : s.bli.replies.length < 8
  · rw [reply_room u tag code r c b (by rwa [replies]), now]
    exact ⟨by rw [if_pos room, ← owed]; exact (List.append_assoc ..).symm, by simpa [Nat.not_le.2 room] using lost⟩
  · rw [reply_full u tag code r c b (by rwa [replies])]
    exact ⟨by rw [if_neg room, ← owed]; rfl, by simp [Nat.not_lt.1 room]⟩

/-- What a command with fields leaves for the end of its event. -/
theorem commandArgs_gives {α : Type} {s u : State} {tag code : Nat} {x : α} {f : α → State → State} (h : s.inReset = false)
    (hf : f x s.heeded = u) : s.commandArgs tag code (.fields x) f = .next u.finish :=
  hf ▸ commandArgs_fields s tag code x f h

/-- A reply leaves notices and mask. -/
theorem reply_notices (s : State) (tag code : Nat) (r : ResultCode) (c : Nat) (b : ReplyBody) :
    (s.reply tag code r c b).noticesOwed = s.noticesOwed ∧ (s.reply tag code r c b).bli.notices = s.bli.notices ∧
      (s.reply tag code r c b).bli.mask = s.bli.mask := by
  unfold State.reply
  split <;> exact ⟨rfl, rfl, rfl⟩

theorem reply_frame (s : State) (tag code : Nat) (r : ResultCode) (c : Nat) (b : ReplyBody) :
    s.reply tag code r c b = { s with bli := (s.reply tag code r c b).bli } := by
  unfold State.reply
  split <;> rfl

theorem raise_frame (s : State) (b : NoticeBody) (tag : Nat) : s.raise b tag = { s with bli := (s.raise b tag).bli } := by
  unfold State.raise
  dsimp only
  split <;> rfl

/-- A notice is raised by the link and the clock alone (R187, R188). -/
theorem raise_bli_congr {s t : State} (hb : t.bli = s.bli) (hn : t.now = s.now) (b : NoticeBody) :
    (t.raise b).bli = (s.raise b).bli := by
  unfold State.raise
  rw [hb, hn]
  dsimp only
  split <;> rfl

theorem noticesOwed_congr {s t : State} (h : t.bli = s.bli) : t.noticesOwed = s.noticesOwed := by
  rw [State.noticesOwed, h]
  rfl

theorem repliesOwed_congr {s t : State} (h : t.bli = s.bli) : t.repliesOwed = s.repliesOwed := by
  rw [State.repliesOwed, h]
  rfl

theorem flagged_congr {s t : State} (h : t.bli = s.bli) (k : NoticeKind) : t.flagged k = s.flagged k := by
  rw [State.flagged, h]
  rfl

/-- A notice marks the flag of its own kind alone (R187). -/
theorem flagged_raise_ne (s : State) (b : NoticeBody) {k : NoticeKind} (h : b.kind.index ≠ k.index) :
    (s.raise b).flagged k = s.flagged k := by
  have stands : tget (tset s.bli.summary.kinds b.kind.index true) k.index false = s.flagged k := tget_tset_ne _ _ _ _ _ h
  unfold State.raise
  dsimp only
  split <;> exact stands

/-! ## The send hold lowered (R14, R16) -/

theorem dropPage_onlyFrees (s : State) (p : Nat) : OnlyFrees s (s.dropPage p) := by
  by_cases h : (s.page p).readers = 0
  exacts [(dropPage_unread h).only, (dropPage_read h).only]

theorem foldl_dropPage_onlyFrees (s : State) (ps : List Nat) : OnlyFrees s (ps.foldl State.dropPage s) := by
  induction ps generalizing s with
  | nil => exact .refl s
  | cons p ps ih => exact (dropPage_onlyFrees s p).trans (ih _)

theorem setDoc_onlyFrees (s : State) (d : Nat) (r : DocRec) : OnlyFrees s (s.setDoc d r) := ⟨rfl, fun _ => .inl⟩

/-- A document freed by its holds alone leaves no holder to be told (R16). -/
theorem freeTest_onlyFrees {s : State} {d : Nat} (h : s.freedByHolds d) : OnlyFrees s (s.freeTest d) := by
  unfold State.freeTest
  split
  · next frees =>
    obtain ⟨-, -, send, print⟩ := (freeable_of_holds s d h).1 frees
    rw [freeDoc_unheld send print]
    exact (foldl_dropPage_onlyFrees s _).trans (setDoc_onlyFrees _ _ _)
  · exact .refl s

theorem setDoc_of_out {s : State} {d : Nat} (h : ¬d < 64) (r : DocRec) : s.setDoc d r = s := by
  rw [State.setDoc, tset_out _ _ _ h]

section SendHold

variable {s : State} {d : Nat} (h : s.freedByHolds d)
include h

theorem lowerSendHold_onlyFrees : OnlyFrees s (s.lowerSendHold d) := by
  unfold State.lowerSendHold
  refine (setDoc_onlyFrees s d _).trans (freeTest_onlyFrees ?_)
  by_cases hd : d < 64
  · exact freedByHolds_setDoc s d _ hd rfl rfl h
  · rwa [setDoc_of_out hd]

theorem lowerSendHold_leaves : (s.lowerSendHold d).doc d = (s.doc d).sendHoldLowered := by
  by_cases hd : d < 64
  · exact lowerSendHold_doc s d hd h
  · rw [doc_of_out hd, doc_of_out hd]
    rfl

end SendHold

/-! ## A job completed (R134) -/

/-- The final state of a completed job (R134). -/
def Job.final (r : Job) : JobState := if r.cancel then .cancelled else .done

/-- JOB_DONE of job `r` at place `j` (R134). -/
def Job.doneNotice (r : Job) (j : Nat) : NoticeBody :=
  .jobDone j r.tag r.seq r.document r.final (r.dests.map fun x => (x.state, x.attempts, x.calls, x.confirmed, x.last))

/-- The record at place `j` free, and out of the order of submission (R134). -/
def State.jobDropped (s : State) (j : Nat) : State :=
  let u := s.setJob j none
  { u with dsp := { u.dsp with order := u.dsp.order.erase j } }

/-- From `s` to `t` job `r`, at place `j`, has been completed (R134): its record and its place in the order are free, the
send hold is lowered, JOB_DONE is raised, and nothing is owed beside but freed memory. -/
structure JobCompleted (s t : State) (j : Nat) (r : Job) : Prop where
  frame : t = { s with pmm := t.pmm, dsp := t.dsp, bli := t.bli, reports := t.reports }
  job : t.job j = none
  jobs : ∀ k, k ≠ j → t.job k = s.job k
  order : t.dsp.order = s.dsp.order.erase j
  doc : t.doc r.document = (s.doc r.document).sendHoldLowered
  link : t.bli = (s.raise (r.doneNotice j)).bli
  pendingScan : t.pmm.pendingScan = s.pmm.pendingScan
  reports : ∀ q ∈ t.reports, q ∈ s.reports ∨ q = .memoryFreed

section Complete

variable {s : State} {j : Nat} {r : Job} (hj : s.job j = some r)
include hj

/-- While a destination is not terminal the job goes on. -/
theorem completeJob_open (lower : Bool) (h : r.dests.all (·.state.terminal) = false) : s.completeJob j lower = s := by
  rw [State.completeJob, hj]
  exact if_neg (by rw [h]; nofun)

theorem completeJob_completes (h : r.dests.all (·.state.terminal) = true) (hf : s.freedByHolds r.document) :
    JobCompleted s (s.completeJob j true) j r := by
  let ends := s.setJob j (some { r with state := r.final })
  let lowered := ends.lowerSendHold r.document
  let raised := lowered.raise (r.doneNotice j)
  have frees : OnlyFrees ends lowered := lowerSendHold_onlyFrees (s := ends) hf
  have frame : raised = { s with
      pmm := lowered.pmm, dsp := ends.dsp, bli := raised.bli, reports := lowered.reports } :=
    (raise_frame lowered _ 0).trans (congrArg (fun u : State => { u with bli := raised.bli }) frees.frame)
  have completes : s.completeJob j true = raised.jobDropped j := by
    rw [State.completeJob, hj]
    exact if_pos h
  have link : raised.bli = (s.raise (r.doneNotice j)).bli := by
    refine raise_bli_congr ?_ ?_ _
    · exact (congrArg State.bli frees.frame).trans rfl
    · exact (congrArg State.now frees.frame).trans rfl
  rw [completes, frame]
  exact {
    frame := rfl
    job := job_setJob_self _ _ _ (job_lt hj)
    jobs := fun k hk => (job_setJob_ne _ _ hk).trans (job_setJob_ne s _ hk)
    order := rfl
    doc := lowerSendHold_leaves (s := ends) hf
    link := link
    pendingScan := ((Beside.refl ends).lowerSendHold).pendingScan
    reports := frees.reports }

end Complete

namespace JobCompleted

variable {s t : State} {j : Nat} {r : Job} (h : JobCompleted s t j r)
include h

theorem lines : t.lines = s.lines := by rw [h.frame]

theorem flagged : t.flagged .jobDone = true :=
  (flagged_congr h.link _).trans (flagged_raise s (r.doneNotice j) 0)

theorem noticesOwed (he : s.bli.enabled .jobDone = true) (hl : s.bli.notices.length < 32) :
    t.noticesOwed = s.noticesOwed ++ [{ tag := 0, body := r.doneNotice j, time := s.now }] :=
  (noticesOwed_congr h.link).trans (noticesOwed_raise (r.doneNotice j) 0 he hl)

/-- A completed job asks nothing more of anybody, with no scan request pending. -/
theorem owesNothing (ho : s.owesNothing) (hp : s.pmm.pendingScan = none) : t.owesNothing := by
  have line : t.openLine = s.openLine := by rw [h.frame]; rfl
  intro q hq
  rw [line, h.pendingScan]
  exact (h.reports q hq).elim (ho q) fun freed => .inr ⟨freed, hp⟩

end JobCompleted

/-! ## JOB_SUBMIT (R121, R122) -/

/-- The job of an accepted JOB_SUBMIT in its record `j`, and the document's send hold raised (R122). -/
def State.jobFilled (s : State) (j : Nat) (a : JobSubmitArgs) : State :=
  let u := s.setJob j (some (s.newJob a))
  { u with dsp := { u.dsp with order := u.dsp.order ++ [j], counter := wrap16 u.dsp.counter } }.raiseSendHold a.document

theorem submitJob_accepts {s : State} {a : JobSubmitArgs} {j : Nat} (tag : Nat) (hf : jobFieldsOk a = true)
    (hu : s.docInUse a.document = true) (hp : ¬((s.doc a.document).state = .closed ∧ (s.doc a.document).pages = []))
    (hj : s.freeJob = some j) :
    let clamped := clampedField a.maxAttempts 1 9 + clampedField a.redial 10 3600
    s.submitJob tag a =
      ((s.jobFilled j a).reply tag 17 (okCode clamped) clamped (.jobAccepted j s.dsp.counter)).report .evaluate := by
  unfold State.submitJob
  rw [hf, hu, if_neg nofun, if_neg nofun, if_neg hp, hj]
  rfl

theorem jobSubmitFillsARecord : Claims.JobSubmitFillsARecord := by
  intro s tag j a h hdoc hdesk hpri h1 h16 hdial hused hpages hj hn clamped
  have fields : jobFieldsOk a = true := by
    simp [jobFieldsOk, Config.docs, Config.desks, Config.destinations, hdoc, hdesk, hpri, h1, h16]
    exact hdial
  have used : s.heeded.docInUse a.document = true := bne_iff_ne.2 hused
  have paged : ¬((s.heeded.doc a.document).state = .closed ∧ (s.heeded.doc a.document).pages = []) := by
    rintro ⟨closed, empty⟩
    exact hpages.elim (fun opened => nomatch closed.symm.trans opened) fun paged => paged empty
  have accepts : s.heeded.submitJob tag a = ((s.heeded.jobFilled j a).reply tag 17 (okCode clamped) clamped
      (.jobAccepted j s.dsp.counter)).report .evaluate := submitJob_accepts (s := s.heeded) tag fields used paged hj
  have answers : Answered s ((s.heeded.jobFilled j a).reply tag 17 (okCode clamped) clamped (.jobAccepted j s.dsp.counter))
      (s.replyNow tag 17 (okCode clamped) clamped (.jobAccepted j s.dsp.counter)) :=
    reply_answers (u := s.heeded.jobFilled j a) rfl ..
  obtain ⟨b, hb⟩ : ∃ b, (s.heeded.jobFilled j a).reply tag 17 (okCode clamped) clamped (.jobAccepted j s.dsp.counter) =
    { s.heeded.jobFilled j a with bli := b } := ⟨_, reply_frame ..⟩
  rw [hb] at accepts answers
  let u : State := { s.heeded.jobFilled j a with bli := b }
  have ends : NothingButChoice (u.report .evaluate) (u.report .evaluate).finish :=
    State.owesNothing.finish fun r hr => .inl ⟨List.mem_singleton.1 hr, hn⟩
  have runs : exec (.jobSubmit tag (.fields a)) s = .next (u.report .evaluate).finish :=
    commandArgs_gives (tag := tag) (code := 17) (f := fun x s => s.submitJob tag x) h accepts
  have dsp : (u.report .evaluate).finish.dsp = (s.jobFilled j a).dsp := ends.dsp
  refine ⟨_, runs, ?_, fun i hi => ?_, ?_, ?_, ?_, ?_, answers.choice ends, ends.lines, ends.chg⟩
  · exact (ends.job j).trans (job_setJob_self s j (some (s.newJob a)) (lowest_lt hj))
  · exact (ends.job i).trans (job_setJob_ne s (some (s.newJob a)) hi)
  · rw [dsp]; rfl
  · rw [dsp]; rfl
  · rw [dsp]; rfl
  · exact (ends.doc _).trans (doc_setDoc_self s _ _ hdoc)

end Sys2Proof.Machine
end

section
/-!
PROOFS. JOB_CANCEL (O51). A pass over a job's destinations changes them one by one: `Job.upTo f k` is the job with the change
`f` made to its first `k` destinations.
-/

namespace Sys2Proof.Machine

set_option Elab.async false

/-! ## A pass over a job's destinations -/

theorem foldl_range_induction {α : Type} {P : Nat → α → Prop} {f : α → Nat → α} {a : α} (n : Nat) (h0 : P 0 a)
    (step : ∀ k b, P k b → P (k + 1) (f b k)) : P n ((List.range n).foldl f a) := by
  induction n with
  | zero => exact h0
  | succ n ih =>
    rw [List.range_succ, List.foldl_append]
    exact step n _ ih

/-- The job with `f` made of its first `k` destinations. -/
def Job.upTo (r : Job) (f : Dest → Dest) (k : Nat) : Job :=
  { r with dests := (r.dests.take k).map f ++ r.dests.drop k }

/-- The job with `f` made of all its destinations. -/
def Job.mapDests (r : Job) (f : Dest → Dest) : Job := { r with dests := r.dests.map f }

section Pass

variable (r : Job) (f : Dest → Dest) {k : Nat}

theorem upTo_all (h : r.dests.length ≤ k) : r.upTo f k = r.mapDests f := by
  rw [Job.upTo, List.take_of_length_le h, List.drop_of_length_le h, List.append_nil]
  rfl

theorem upTo_next : (r.upTo f k).dests[k]? = r.dests[k]? := by
  by_cases h : k < r.dests.length
  · simp [Job.upTo, h, Nat.min_eq_left h.le]
  · rw [upTo_all r f (Nat.not_lt.1 h), List.getElem?_eq_none (Nat.not_lt.1 h)]
    exact List.getElem?_eq_none (by simpa [Job.mapDests] using h)

theorem upTo_succ {x : Dest} (hx : r.dests[k]? = some x) : (r.upTo f k).withDest k (f x) = r.upTo f (k + 1) := by
  obtain ⟨h, rfl⟩ := List.getElem?_eq_some_iff.1 hx
  have first : ((r.dests.take k).map f).length = k := by simp [h.le]
  rw [Job.withDest, Job.upTo, Job.upTo, List.drop_eq_getElem_cons h, List.take_succ_eq_append_getElem h, List.map_append,
    List.set_append_right _ _ first.le, first, Nat.sub_self, List.append_assoc]
  rfl

theorem upTo_beyond (h : r.dests[k]? = none) : r.upTo f (k + 1) = r.upTo f k := by
  have short := List.getElem?_eq_none_iff.1 h
  rw [upTo_all r f short, upTo_all r f (short.trans k.le_succ)]

end Pass

/-! ## JOB_CANCEL (R133) -/

/-- A destination of a cancelled job: a waiting one is CANCELLED (R133). -/
def Dest.cancelled (x : Dest) : Dest :=
  if x.state.waits then { x with state := .cancelled, due := none, timer := false, last := some .cancelled } else x

/-- The line of a destination IN_CALL is asked to set the closing flag of its call (R133). -/
def State.asksLine (s : State) (x : Dest) : State :=
  match x.state, x.line with
  | .inCall, some n => s.updCtx n fun c => { c with closing := true }
  | _, _ => s

/-- The call of line `n`, where there is one, has its closing flag set. -/
def State.closes (s : State) (n : LineNo) : Prop := ∀ c ∈ (s.line n).ctx, c.closing = true

section AsksLine

variable {s : State} (x : Dest) (n : LineNo)

theorem asksLine_frame : s.asksLine x = { s with lines := (s.asksLine x).lines } := by
  unfold State.asksLine
  split <;> rfl

theorem asksLine_ctx : ((s.asksLine x).line n).ctx.isSome = (s.line n).ctx.isSome := by
  unfold State.asksLine
  split
  · next m _ _ =>
    rw [updCtx_eq]
    by_cases h : m = n
    · rw [h, line_updLine_self, Line.onCtx, Option.isSome_map]
    · rw [line_updLine_ne _ _ _ _ h]
  · rfl

theorem State.closes.asksLine (h : s.closes n) : (s.asksLine x).closes n := by
  unfold State.asksLine
  split
  · next m _ _ =>
    rw [State.closes, updCtx_eq]
    by_cases e : m = n
    · rw [e, line_updLine_self, Line.onCtx]
      intro c hc
      obtain ⟨_, -, rfl⟩ := Option.map_eq_some_iff.1 hc
      rfl
    · rw [line_updLine_ne _ _ _ _ e]
      exact h
  · exact h

theorem asksLine_closes (hx : x.state = .inCall) (hn : x.line = some n) : (s.asksLine x).closes n := by
  rw [State.asksLine, hx, hn]
  dsimp only
  rw [State.closes, updCtx_eq, line_updLine_self, Line.onCtx]
  intro c hc
  obtain ⟨_, -, rfl⟩ := Option.map_eq_some_iff.1 hc
  rfl

end AsksLine

theorem setJob_of_job {s : State} {j : Nat} {r : Job} (h : s.job j = some r) : s.setJob j (some r) = s := by
  have stands : tset s.dsp.jobs j (some r) = s.dsp.jobs := by
    rw [← h, State.job, tset, tget]
    simp [job_lt h]
  rw [State.setJob, stands]

/-- One destination of a cancelled job: it is cancelled where it waits, and its line is asked where it is in a call. -/
theorem cancelDest_eq {s : State} {j d : Nat} {r : Job} {x : Dest} (hj : s.job j = some r) (hx : r.dests[d]? = some x) :
    s.cancelDest j d = (s.setJob j (some (r.withDest d x.cancelled))).asksLine x := by
  rw [State.cancelDest, dest_of_job hj, hx, Dest.cancelled]
  dsimp only
  split
  · next waits =>
    have idle : x.state ≠ .inCall := fun call => by rw [call] at waits; contradiction
    rw [setDest_eq hj, State.asksLine]
    split
    exacts [absurd ‹_› idle, rfl]
  · have same : r.withDest d x = r := by
      obtain ⟨h, rfl⟩ := List.getElem?_eq_some_iff.1 hx
      rw [Job.withDest, List.set_getElem_self]
    rw [same, setJob_of_job hj]
    rfl

theorem cancelDest_none {s : State} {j d : Nat} {r : Job} (hj : s.job j = some r) (hx : r.dests[d]? = none) :
    s.cancelDest j d = s := by
  rw [State.cancelDest, dest_of_job hj, hx]

/-- What the cancel of the first `k` destinations of job `r`, at place `j`, leaves from `s` (R133). -/
structure Cancelled (s : State) (j : Nat) (r : Job) (k : Nat) (t : State) : Prop where
  frame : t = { s with dsp := { s.dsp with jobs := t.dsp.jobs }, lines := t.lines }
  job : t.job j = some (r.upTo Dest.cancelled k)
  jobs : ∀ i, i ≠ j → t.job i = s.job i
  ctx : ∀ n, (t.line n).ctx.isSome = (s.line n).ctx.isSome
  closes : ∀ (i : Nat) (x : Dest) (n : LineNo), i < k → r.dests[i]? = some x → x.state = .inCall → x.line = some n →
    t.closes n

section Cancel

variable {s : State} {j : Nat} {r : Job}

theorem cancelDest_next {k : Nat} {t : State} (hlt : j < 32) (h : Cancelled s j r k t) :
    Cancelled s j r (k + 1) (t.cancelDest j k) := by
  have next : (r.upTo Dest.cancelled k).dests[k]? = r.dests[k]? := upTo_next r _
  match hx : r.dests[k]? with
  | none =>
    rw [cancelDest_none h.job (next.trans hx)]
    refine { h with job := h.job.trans (by rw [upTo_beyond r _ hx]), closes := fun i x n hi hxi => ?_ }
    exact h.closes i x n (Nat.lt_of_le_of_ne (Nat.le_of_lt_succ hi) (by rintro rfl; cases hx.symm.trans hxi)) hxi
  | some x =>
    rw [cancelDest_eq h.job (next.trans hx), upTo_succ r _ hx]
    let u := t.setJob j (some (r.upTo Dest.cancelled (k + 1)))
    have frame := asksLine_frame (s := u) x
    have job (i : Nat) : (u.asksLine x).job i = u.job i := by rw [frame]; rfl
    refine {
      frame := by
        have dsp : u.dsp = { s.dsp with jobs := u.dsp.jobs } :=
          congrArg (fun v : State => { v.dsp with jobs := u.dsp.jobs }) h.frame
        have rest : ({ t with dsp := u.dsp, lines := (u.asksLine x).lines } : State) =
            { s with dsp := u.dsp, lines := (u.asksLine x).lines } :=
          congrArg (fun v : State => { v with dsp := u.dsp, lines := (u.asksLine x).lines }) h.frame
        rw [frame]
        exact rest.trans (congrArg (fun q => { s with dsp := q, lines := (u.asksLine x).lines }) dsp)
      job := (job j).trans (job_setJob_self _ _ _ hlt)
      jobs := fun i hi => (job i).trans ((job_setJob_ne _ _ hi).trans (h.jobs i hi))
      ctx := fun n => (asksLine_ctx x n).trans (h.ctx n)
      closes := fun i y n hi hy call hn => ?_ }
    rcases Nat.lt_succ_iff_lt_or_eq.1 hi with hi | rfl
    · exact State.closes.asksLine x n (h.closes i y n hi hy call hn)
    · cases hx.symm.trans hy
      exact asksLine_closes x n call hn

/-- The pass of JOB_CANCEL over a job's destinations (R133). -/
theorem cancelDests_cancelled (hj : s.job j = some r) :
    Cancelled s j r r.dests.length ((List.range r.dests.length).foldl (fun s d => s.cancelDest j d) s) :=
  foldl_range_induction (P := Cancelled s j r) _
    ⟨rfl, hj, fun _ _ => rfl, fun _ => rfl, fun _ _ _ hi => absurd hi (Nat.not_lt_zero _)⟩
    fun _ _ => cancelDest_next (job_lt hj)

/-- The state in which a job marked for its cancel is worked on: the reply is owed (R133). -/
def State.cancelMarked (s : State) (tag j : Nat) (r : Job) : State :=
  (s.reply tag 18 .ok 0 (.jobCancelled r.waiting r.inCalls)).setJob j (some { r with cancel := true })

theorem cancelJob_cancels (tag : Nat) (hj : s.job j = some r) (hc : r.cancel = false) :
    ∃ t, Cancelled (s.cancelMarked tag j r) j { r with cancel := true } r.dests.length t ∧
      s.cancelJob tag j = t.completeJob j true := by
  have marked : (s.cancelMarked tag j r).job j = some { r with cancel := true } := job_setJob_self _ _ _ (job_lt hj)
  refine ⟨_, cancelDests_cancelled marked, ?_⟩
  rw [State.cancelJob, if_neg (show ¬Config.jobs ≤ j from Nat.not_le.2 (job_lt hj)), hj]
  exact if_neg (by rw [hc]; nofun)

theorem cancelJob_badField (tag : Nat) (h : 32 ≤ j) : s.cancelJob tag j = s.reply tag 18 .badField := if_pos h

theorem cancelJob_notFound (tag : Nat) (h : j < 32) (hj : s.job j = none) : s.cancelJob tag j = s.reply tag 18 .notFound := by
  rw [State.cancelJob, if_neg (show ¬Config.jobs ≤ j from Nat.not_le.2 h), hj]

theorem cancelJob_again (tag : Nat) (hj : s.job j = some r) (hc : r.cancel = true) :
    s.cancelJob tag j = s.reply tag 18 .ok 0 (.jobCancelled 0 r.inCalls) := by
  rw [State.cancelJob, if_neg (show ¬Config.jobs ≤ j from Nat.not_le.2 (job_lt hj)), hj]
  exact if_pos hc

end Cancel

/-- The cancel leaves the command's reply and notices. -/
theorem Cancelled.bli {s t : State} {j k : Nat} {r : Job} (h : Cancelled s j r k t) : t.bli = s.bli := by rw [h.frame]

/-- A cancel leaves every destination terminal but those in a call (R119, R133). -/
theorem cancelled_terminal (x : Dest) : x.cancelled.state.terminal = true ↔ x.state ≠ .inCall := by
  rw [Dest.cancelled]
  cases h : x.state <;> simp [h, DestState.waits, DestState.terminal]

theorem exec_jobCancel_gives {s u : State} (tag j : Nat) (h : s.inReset = false) (hu : s.heeded.cancelJob tag j = u) :
    exec (.jobCancel tag (.fields j)) s = .next u.finish :=
  commandArgs_gives (tag := tag) (code := 18) (f := fun j s => s.cancelJob tag j) h hu

theorem cancelMarked_answers (s : State) (tag j : Nat) (r : Job) :
    Answered s (s.heeded.cancelMarked tag j r) (s.replyNow tag 18 .ok 0 (.jobCancelled r.waiting r.inCalls)) :=
  reply_answers (u := s.heeded) rfl ..

theorem jobCancelEndsWaitingDestinations : Claims.JobCancelEndsWaitingDestinations := by
  intro s tag j r h hlt hj hc ⟨d, hd, call⟩
  obtain ⟨t, cancels, runs⟩ := cancelJob_cancels (s := s.heeded) tag hj hc
  let u : Job := { r with cancel := true }.mapDests Dest.cancelled
  have job : t.job j = some u := cancels.job.trans (by rw [upTo_all _ _ le_rfl])
  have goes : u.dests.all (·.state.terminal) = false := by
    refine Bool.eq_false_of_not_eq_true fun all => ?_
    exact (cancelled_terminal d).1 (List.all_eq_true.1 all _ (List.mem_map_of_mem hd)) call
  rw [completeJob_open job true goes] at runs
  have ends := finish_nothingButChoice t (by rw [cancels.frame]; exact reply_reports ..)
  refine ⟨_, u, exec_jobCancel_gives tag j h runs, (ends.job j).trans job, rfl, List.length_map .., fun i x hx => ?_, ?_,
    fun i x n c hx call hn hctx => ?_⟩
  · exact (List.getElem?_map ..).trans (congrArg (Option.map Dest.cancelled) hx)
  · exact ((cancelMarked_answers s tag j r).raisesOnly (by rw [RaisesOnly, cancels.bli])).choice ends
  · have there : (t.line n).ctx.isSome = true := by
      have lines : (s.heeded.cancelMarked tag j r).lines = s.lines := reply_lines (s := s.heeded) ..
      rw [cancels.ctx, State.line, lines]
      exact congrArg Option.isSome hctx
    obtain ⟨y, hy⟩ := Option.isSome_iff_exists.1 there
    rw [ends.ctx, ctx_of_line hy]
    exact cancels.closes i x n (List.getElem?_eq_some_iff.1 hx).1 hx call hn y hy

/-! ## JOB_CANCEL of a job with no call (R133, R134), and its refusals -/

theorem cancelMarked_stands (s : State) (tag j : Nat) (r : Job) :
    (s.cancelMarked tag j r).reports = s.reports ∧ (s.cancelMarked tag j r).pmm = s.pmm ∧
      (s.cancelMarked tag j r).dsp.order = s.dsp.order ∧ (s.cancelMarked tag j r).now = s.now ∧
      ∀ k, k ≠ j → (s.cancelMarked tag j r).job k = s.job k := by
  obtain ⟨b, hb⟩ : ∃ b, s.reply tag 18 .ok 0 (.jobCancelled r.waiting r.inCalls) = { s with bli := b } := ⟨_, reply_frame ..⟩
  rw [State.cancelMarked, hb]
  exact ⟨rfl, rfl, rfl, rfl, fun k hk => job_setJob_ne _ _ hk⟩

theorem cancelMarked_link (s : State) (tag j : Nat) (r : Job) :
    (s.cancelMarked tag j r).noticesOwed = s.noticesOwed ∧ (s.cancelMarked tag j r).bli.notices = s.bli.notices ∧
      (s.cancelMarked tag j r).bli.mask = s.bli.mask ∧
      ∀ k, (s.cancelMarked tag j r).flagged k = s.flagged k := by
  obtain ⟨owed, notices, mask⟩ := reply_notices s tag 18 .ok 0 (.jobCancelled r.waiting r.inCalls)
  exact ⟨owed, notices, mask, fun k => flagged_reply ..⟩

theorem inCalls_zero {r : Job} (h : ∀ x ∈ r.dests, x.state ≠ .inCall) : r.inCalls = 0 :=
  List.countP_eq_zero.2 fun x hx => by simpa using h x hx

theorem jobCancelCompletes (s : State) (tag i : Nat) (h : s.inReset = false) (j : Job) (hj : s.job i = some j)
    (hc : j.cancel = false) (idle : ∀ x ∈ j.dests, x.state ≠ .inCall) (hp : s.pmm.pendingScan = none)
    (holds : s.freedByHolds j.document) :
    let r := { j with cancel := true }.mapDests Dest.cancelled
    ∃ t, exec (.jobCancel tag (.fields i)) s = .next t ∧ t.job i = none ∧ t.dsp.order = s.dsp.order.erase i ∧
      (∀ k, k ≠ i → t.job k = s.job k) ∧ t.doc j.document = (s.doc j.document).sendHoldLowered ∧
      t.flagged .jobDone = true ∧ t.flagged .destResult = s.flagged .destResult ∧
      (s.bli.enabled .jobDone = true → s.bli.notices.length < 32 →
        t.noticesOwed = s.noticesOwed ++ [{ tag := 0, body := r.doneNotice i, time := s.now }]) ∧
      Answered s t (s.replyNow tag 18 .ok 0 (.jobCancelled j.waiting 0)) := by
  intro r
  obtain ⟨u, cancels, runs⟩ := cancelJob_cancels (s := s.heeded) tag hj hc
  obtain ⟨reports, pmm, order, now, jobs⟩ := cancelMarked_stands s.heeded tag i j
  obtain ⟨owed, notices, mask, flags⟩ := cancelMarked_link s.heeded tag i j
  have frame := cancels.frame
  have uPmm : u.pmm = s.pmm := (congrArg State.pmm frame).trans pmm
  have job : u.job i = some r := cancels.job.trans (by rw [upTo_all _ _ le_rfl])
  have all : r.dests.all (·.state.terminal) = true := by
    refine List.all_eq_true.2 fun y hy => ?_
    obtain ⟨x, hx, rfl⟩ := List.mem_map.1 hy
    exact (cancelled_terminal x).2 (idle x hx)
  have free : u.freedByHolds j.document := by
    simpa only [State.freedByHolds, State.doc, State.page, uPmm] using holds
  have done : JobCompleted u (u.completeJob i true) i r := completeJob_completes job all free
  have quiet : u.reports = [] := (congrArg State.reports frame).trans reports
  have asks : (u.completeJob i true).owesNothing :=
    done.owesNothing (by rw [State.owesNothing, quiet]; nofun) (by rw [uPmm, hp])
  have ends := asks.finish
  have answers : Answered s u (s.replyNow tag 18 .ok 0 (.jobCancelled j.waiting 0)) := by
    have marked := cancelMarked_answers s tag i j
    rw [inCalls_zero idle] at marked
    exact marked.raisesOnly (by rw [RaisesOnly, cancels.bli])
  refine ⟨_, exec_jobCancel_gives tag i h runs, (ends.job i).trans done.job, ?_, fun k hk => ?_, ?_, ?_, ?_,
    fun enabled room => ?_, ?_⟩
  · rw [ends.dsp, done.order, (congrArg (·.dsp.order) frame : u.dsp.order = _), order]
    rfl
  · exact (ends.job k).trans ((done.jobs k hk).trans ((cancels.jobs k hk).trans (jobs k hk)))
  · rw [ends.doc, show j.document = r.document from rfl, done.doc, State.doc, uPmm]
    rfl
  · exact (ends.flagged _).trans done.flagged
  · calc _ = (u.completeJob i true).flagged .destResult := ends.flagged _
      _ = (u.raise (r.doneNotice i)).flagged .destResult := flagged_congr done.link _
      _ = u.flagged .destResult := flagged_raise_ne _ _ (show NoticeKind.index .jobDone ≠ NoticeKind.index .destResult by decide)
      _ = _ := (flagged_congr cancels.bli _).trans (flags _)
  · have on : u.bli.enabled .jobDone = true := by
      rw [cancels.bli, Bli.enabled, mask]
      exact enabled
    have few : u.bli.notices.length < 32 := by
      rw [cancels.bli, notices]
      exact room
    rw [ends.noticesOwed, done.noticesOwed on few, noticesOwed_congr cancels.bli, owed,
      ((congrArg State.now frame).trans now : u.now = s.heeded.now)]
    rfl
  · refine (answers.raisesOnly ?_).choice ends
    rw [RaisesOnly, done.link]
    exact raise_raisesOnly ..

/-- JOB_DONE of a job after a pass that leaves attempts, calls and pages of its destinations (R134). -/
theorem doneNotice_mapDests (r : Job) {f : Dest → Dest}
    (kept : ∀ x, (f x).attempts = x.attempts ∧ (f x).calls = x.calls ∧ (f x).confirmed = x.confirmed) (i : Nat) :
    (r.mapDests f).doneNotice i = .jobDone i r.tag r.seq r.document r.final
      (r.dests.map fun x => ((f x).state, x.attempts, x.calls, x.confirmed, (f x).last)) := by
  refine congrArg (NoticeBody.jobDone i r.tag r.seq r.document r.final)
    (List.map_map.trans (List.map_congr_left fun x _ => ?_))
  obtain ⟨attempts, calls, confirmed⟩ := kept x
  dsimp only [Function.comp_apply]
  rw [attempts, calls, confirmed]

theorem cancelled_kept (x : Dest) :
    x.cancelled.attempts = x.attempts ∧ x.cancelled.calls = x.calls ∧ x.cancelled.confirmed = x.confirmed := by
  rw [Dest.cancelled]
  split <;> exact ⟨rfl, rfl, rfl⟩

theorem jobCancelCompletesOrRefuses : Claims.JobCancelCompletesOrRefuses := by
  intro s tag i h
  refine ⟨fun j _ hj hc idle _ hp holds => ?_, fun out => ?_, fun lt none => ?_, fun j _ hj hc => ?_⟩
  · have completes := jobCancelCompletes s tag i h j hj hc idle hp holds
    simp only [doneNotice_mapDests _ cancelled_kept] at completes
    exact completes
  · exact commandArgs_onlyAnswered (u := s) (code := 18) (f := fun j s => s.cancelJob tag j) h
      (cancelJob_badField (s := s.heeded) tag out)
  · exact commandArgs_onlyAnswered (u := s) (code := 18) (f := fun j s => s.cancelJob tag j) h
      (cancelJob_notFound (s := s.heeded) tag lt none)
  · obtain ⟨t, runs, answered⟩ := commandArgs_onlyAnswered (u := s) (code := 18) (f := fun j s => s.cancelJob tag j) h
      (cancelJob_again (s := s.heeded) tag hj hc)
    exact ⟨t, _, runs, answered⟩

/-- Settles O51: a job is filled, marked for its cancel or completed in one step each, and its reply is owed. -/
theorem jobsAreSubmittedAndCancelled : Obligations.JobsAreSubmittedAndCancelled :=
  ⟨jobSubmitFillsARecord, jobCancelEndsWaitingDestinations, jobCancelCompletesOrRefuses⟩

end Sys2Proof.Machine
end

section
/-!
PROOFS. The outcome of a call settles its destination (O54, R128 to R131). `OutcomeSettled` is read off the one state in which the
dispatcher takes the outcome; what the end of the event does to blocks that it does not read keeps it.
-/

namespace Sys2Proof.Machine

set_option Elab.async false

/-! ## The table of R128 to R130 -/

section Settle

variable (x : Dest) (j : Job) (total now : Nat)

/-- A destination out of its call, before its outcome is read (R128). -/
def Dest.outOfCall : Dest := { x with line := none, due := none, timer := false }

theorem settle_done (o : CallOutcome) (h : x.confirmed = total) :
    x.settle j total now o = { x.outOfCall with state := .done, last := some .completed } := if_pos h

theorem settle_cancelled (o : CallOutcome) (h : x.confirmed ≠ total) (hc : j.cancel = true) :
    x.settle j total now o = { x.outOfCall with state := .cancelled, last := some .cancelled } :=
  (if_neg h).trans (if_pos hc)

variable (h : x.confirmed ≠ total) (hc : j.cancel = false)
include h hc

/-- While pages are missing and the job is not cancelled the outcome decides (R128). -/
theorem settle_lineFault : x.settle j total now .lineFault = { x.outOfCall with state := .pending, last := some .lineFault } :=
  (if_neg h).trans (if_neg (by rw [hc]; nofun))

theorem settle_completed :
    x.settle j total now (.released .completed) = { x.outOfCall with state := .waitFunds, last := some .fundsClosing } :=
  (if_neg h).trans (if_neg (by rw [hc]; nofun))

theorem settle_noDialTone : x.settle j total now (.released .noDialTone) =
    { x.outOfCall with last := some .noDialTone }.retryAt (dueAt now 10) :=
  (if_neg h).trans (if_neg (by rw [hc]; nofun))

theorem settle_counted {r : EndReason} (hr : r.counted = true) :
    let y := { x.outOfCall with attempts := x.attempts + 1, last := some r.last }
    x.settle j total now (.released r) =
      if x.attempts + 1 < j.maxAttempts then y.retryAt (dueAt now j.redial) else { y with state := .failed } := by
  refine (if_neg h).trans ((if_neg (by rw [hc]; nofun)).trans ?_)
  split
  case h_1 e => cases e
  case h_2 e => cases e; cases hr
  case h_3 e => cases e; cases hr
  case h_4 r _ _ e =>
    cases e
    exact if_pos hr

theorem settle_uncounted {r : EndReason} (hr : r.counted = false) (hd : r ≠ .completed) (ht : r ≠ .noDialTone) :
    x.settle j total now (.released r) = { x.outOfCall with state := .failed, last := some r.last } := by
  refine (if_neg h).trans ((if_neg (by rw [hc]; nofun)).trans ?_)
  split
  case h_1 e => cases e
  case h_2 e => cases e; exact absurd rfl hd
  case h_3 e => cases e; exact absurd rfl ht
  case h_4 r _ _ e =>
    cases e
    exact if_neg (by rw [hr]; nofun)

end Settle

theorem destinationsSettleByR128 : Claims.DestinationsSettleByR128 := by
  intro x j total now o z
  refine ⟨settle_done x j total now o, settle_cancelled x j total now o, fun h hc => ⟨?_, ?_, ?_, ?_, ?_⟩⟩
  · rintro r l rfl named
    have counted : r.counted = true ∧ r.last = l := by
      simp only [List.mem_cons, Prod.mk.injEq, List.not_mem_nil, or_false] at named
      rcases named with ⟨rfl, rfl⟩ | ⟨rfl, rfl⟩ | ⟨rfl, rfl⟩ | ⟨rfl, rfl⟩ | ⟨rfl, rfl⟩ | ⟨rfl, rfl⟩ | ⟨rfl, rfl⟩ <;>
        exact ⟨rfl, rfl⟩
    obtain ⟨counts, rfl⟩ := counted
    rw [settle_counted x j total now h hc counts]
    exact ⟨fun less => if_pos less, fun most => if_neg (Nat.not_lt.2 most)⟩
  · rintro rfl
    exact settle_completed x j total now h hc
  · rintro rfl
    exact settle_noDialTone x j total now h hc
  · rintro r l rfl named
    simp only [List.mem_cons, Prod.mk.injEq, List.not_mem_nil, or_false] at named
    rcases named with ⟨rfl, rfl⟩ | ⟨rfl, rfl⟩ | ⟨rfl, rfl⟩ <;> exact settle_uncounted x j total now h hc rfl nofun nofun
  · rintro rfl
    exact settle_lineFault x j total now h hc

/-! ## A destination that asks for an evaluation (R120, R123) -/

/-- Whether a destination left by an outcome asks for an evaluation at dispatcher time `now` (R120, R123). -/
def Dest.presses (y : Dest) (now : Nat) : Bool :=
  y.state == .pending || (y.state == .waitRetry && decide (y.due.getD 0 ≤ now))

theorem presses_of_state {y : Dest} (now : Nat) (h : y.state ≠ .pending) (hr : y.state ≠ .waitRetry) :
    y.presses now = false := by
  simp [Dest.presses, h, hr]

theorem presses_retryAt (y : Dest) {now after : Nat} (ha : 1 ≤ after) (ht : now < 4294967295) :
    (y.retryAt (dueAt now after)).presses now = false := by
  have later : now < min (now + after) 4294967295 := lt_min (Nat.lt_add_of_pos_right ha) ht
  have due : ¬(min (now + after) 4294967295 ≤ now) := Nat.not_le.2 later
  simp [Dest.presses, Dest.retryAt, dueAt, Config.maxDispatcherTime, due]

/-- A release leaves no destination that asks for an evaluation at once where retries fall due later (R129, R130). -/
theorem presses_settle_released (x : Dest) (j : Job) (total : Nat) {now : Nat} (r : EndReason) (ha : 1 ≤ j.redial)
    (ht : now < 4294967295) : (x.settle j total now (.released r)).presses now = false := by
  by_cases h : x.confirmed = total
  · rw [settle_done x j total now _ h]
    exact presses_of_state now nofun nofun
  by_cases hc : j.cancel = true
  · rw [settle_cancelled x j total now _ h hc]
    exact presses_of_state now nofun nofun
  have hc := Bool.eq_false_of_not_eq_true hc
  by_cases counts : r.counted = true
  · rw [settle_counted x j total now h hc counts]
    split
    · exact presses_retryAt _ ha ht
    · exact presses_of_state now nofun nofun
  by_cases completed : r = .completed
  · rw [completed, settle_completed x j total now h hc]
    exact presses_of_state now nofun nofun
  by_cases dead : r = .noDialTone
  · rw [dead, settle_noDialTone x j total now h hc]
    exact presses_retryAt _ (by decide) ht
  · rw [settle_uncounted x j total now h hc (Bool.eq_false_of_not_eq_true counts) completed dead]
    exact presses_of_state now nofun nofun

/-! ## The outcome taken (R128, R131, R134) -/

/-- DEST_RESULT of destination `d`, as `y`, of job `r` at place `j` (R131). -/
def Job.result (r : Job) (j d : Nat) (y : Dest) (o : Option OutcomeInfo) : NoticeBody :=
  .destResult j r.tag d y.state y.attempts y.calls y.confirmed (if y.state = .waitRetry then y.due else none) y.last o

/-- Destination `d` of job `r`, at place `j`, has been left as `y` and its DEST_RESULT raised (R131). -/
def State.destLeft (s : State) (j d : Nat) (r : Job) (y : Dest) (o : Option OutcomeInfo) : State :=
  (s.setJob j (some (r.withDest d y))).raise (r.result j d y o)

theorem withDest_get {r : Job} {d : Nat} {x : Dest} (hx : r.dests[d]? = some x) (y : Dest) :
    (r.withDest d y).dests[d]? = some y :=
  List.getElem?_set_self (List.getElem?_eq_some_iff.1 hx).1

section Left

variable {s : State} {j d : Nat} {r : Job} {x : Dest} (hj : s.job j = some r) (hx : r.dests[d]? = some x)
include hj hx

theorem setDest_destResult (y : Dest) (o : Option OutcomeInfo) :
    (s.setDest j d y).destResult j d o = s.destLeft j d r y o := by
  rw [setDest_eq hj, destResult_eq (job_setJob_self _ _ _ (job_lt hj)) (withDest_get hx y)]
  rfl

omit hx in
theorem destLeft_job (y : Dest) (o : Option OutcomeInfo) : (s.destLeft j d r y o).job j = some (r.withDest d y) := by
  rw [State.destLeft, raise_frame]
  exact job_setJob_self _ _ _ (job_lt hj)

theorem takeOutcome_eq (o : CallOutcome) (info : OutcomeInfo) :
    let y := { x with confirmed := x.confirmed + info.confirmed }.settle r (s.doc r.document).pages.length s.dsp.time o
    let u := s.destLeft j d r y (some info)
    s.takeOutcome j d o info = (if y.presses s.dsp.time then u.report .evaluate else u).completeJob j true := by
  intro y u
  have time : u.dsp.time = s.dsp.time := by
    rw [show u = _ from raise_frame ..]
    rfl
  rw [State.takeOutcome, hj, dest_of_job hj, hx]
  dsimp only
  rw [setDest_destResult hj hx]
  show (if y.presses u.dsp.time = true then u.report .evaluate else u).completeJob j true = _
  rw [time]

end Left

/-- From `s` to `t` the dispatcher, the documents, the board link and the clock's reading stand. -/
structure DispatchStands (s t : State) : Prop where
  dsp : t.dsp = s.dsp
  docs : t.pmm.docs = s.pmm.docs
  bli : t.bli = s.bli
  now : t.now = s.now

/-! ### Notices that follow one another -/

section Raised

variable (s : State) (b : NoticeBody)

theorem raise_enabled (k : NoticeKind) : (s.raise b).bli.enabled k = s.bli.enabled k := by rw [raise_raisesOnly s b 0]; rfl

theorem raise_disabled {s : State} {b : NoticeBody} (h : s.bli.enabled b.kind = false) :
    (s.raise b).noticesOwed = s.noticesOwed ∧ (s.raise b).bli.notices = s.bli.notices := by
  have off : ¬((s.bli.enabled b.kind && decide (s.bli.notices.length < Config.noticePlaces)) = true) := by
    rw [h]
    nofun
  have same : s.raise b = { s with bli := { s.bli with summary := s.bli.summary.mark b.kind } } := if_neg off
  rw [same]
  exact ⟨rfl, rfl⟩

/-- A notice takes one place at most (R188). -/
theorem raise_length {n : Nat} (h : s.bli.notices.length + 1 + n ≤ 32) : (s.raise b).bli.notices.length + n ≤ 32 := by
  by_cases on : s.bli.enabled b.kind = true
  · rw [raise_queued b 0 on (by omega), List.length_append]
    exact h
  · rw [(raise_disabled (Bool.eq_false_of_not_eq_true on)).2]
    omega

end Raised

namespace OutcomeSettled

variable {s t u : State} {jd : Nat × Nat} {j : Job} {z : Dest} {info : OutcomeInfo} {before : List Notice}

/-- The dispatcher's side alone is read of the state in which the outcome is taken. -/
theorem of_stands (h : OutcomeSettled u t jd j z info before) (k : DispatchStands s u) :
    OutcomeSettled s t jd j z info before := by
  obtain ⟨dsp, docs, bli, now⟩ := k
  simpa only [OutcomeSettled, State.job, State.doc, State.noticesOwed, dsp, docs, bli, now] using h

/-- Dispatcher, documents and board link alone are read of the state that the outcome leaves. -/
theorem congr_right (h : OutcomeSettled s u jd j z info before) (dsp : t.dsp = u.dsp) (docs : t.pmm.docs = u.pmm.docs)
    (bli : t.bli = u.bli) : OutcomeSettled s t jd j z info before := by
  simpa only [OutcomeSettled, State.job, State.doc, State.noticesOwed, State.flagged, dsp, docs, bli] using h

theorem choice (h : OutcomeSettled s u jd j z info before) (k : NothingButChoice u t) :
    OutcomeSettled s t jd j z info before := by
  simpa only [OutcomeSettled, k.dsp, k.job, k.doc, k.flagged, k.noticesOwed] using h

/-- A notice raised before the outcome is taken goes before its own. -/
theorem after (b : NoticeBody) (h : OutcomeSettled (s.raise b) t jd j z info []) :
    OutcomeSettled s t jd j z info (if s.bli.enabled b.kind then [{ tag := 0, time := s.now, body := b }] else []) := by
  have dsp : (s.raise b).dsp = s.dsp := raise_dsp ..
  have pmm : (s.raise b).pmm = s.pmm := raise_pmm ..
  have now : (s.raise b).now = s.now := congrArg (·.clock.now) (raise_chg ..)
  obtain ⟨flag, jobs, goes, ends⟩ := h
  simp only [State.job, State.doc, dsp, pmm, now, raise_enabled, List.append_nil, List.length_nil, Nat.add_zero] at jobs goes ends
  have sent {tail : List Notice}
      (k : (s.bli.enabled .destResult = true ∧ s.bli.enabled .jobDone = true ∧ (s.raise b).bli.notices.length + 2 ≤ 32) →
        t.noticesOwed = (s.raise b).noticesOwed ++ tail)
      (ok : s.bli.enabled .destResult = true ∧ s.bli.enabled .jobDone = true ∧ s.bli.notices.length +
        (if s.bli.enabled b.kind then [{ tag := 0, time := s.now, body := b }] else [] : List Notice).length + 2 ≤ 32) :
      t.noticesOwed = s.noticesOwed ++
        (if s.bli.enabled b.kind then [{ tag := 0, time := s.now, body := b }] else []) ++ tail := by
    obtain ⟨results, dones, room⟩ := ok
    by_cases on : s.bli.enabled b.kind = true
    · rw [if_pos on] at room ⊢
      rw [k ⟨results, dones, raise_length s b room⟩, noticesOwed_raise b 0 on (by rw [List.length_singleton] at room; omega)]
    · rw [if_neg on] at room ⊢
      obtain ⟨owed, notices⟩ := raise_disabled (Bool.eq_false_of_not_eq_true on)
      rw [k ⟨results, dones, by rw [notices]; exact room⟩, owed, List.append_nil]
  refine ⟨flag, jobs, fun all => ?_, fun all => ?_⟩
  · obtain ⟨job, order, doc, notices⟩ := goes all
    exact ⟨job, order, doc, sent notices⟩
  · obtain ⟨job, order, done, doc, notices⟩ := ends all
    exact ⟨job, order, done, doc, sent notices⟩

end OutcomeSettled

section Taken

variable {s : State} {j d : Nat} {r : Job} (hj : s.job j = some r) (y : Dest) (info : OutcomeInfo)

theorem destLeft_frame (o : Option OutcomeInfo) : s.destLeft j d r y o =
    { s with dsp := (s.setJob j (some (r.withDest d y))).dsp, bli := (s.destLeft j d r y o).bli } := raise_frame ..

/-- DEST_RESULT queued leaves a place where two were free (R188). -/
theorem destLeft_notices (o : Option OutcomeInfo) {n : Nat} (he : s.bli.enabled .destResult = true)
    (hl : s.bli.notices.length + 1 + n ≤ 32) :
    (s.destLeft j d r y o).noticesOwed = s.noticesOwed ++ [{ tag := 0, body := r.result j d y o, time := s.now }] ∧
      (s.destLeft j d r y o).bli.notices.length + n ≤ 32 :=
  ⟨noticesOwed_raise (s := s.setJob j (some (r.withDest d y))) (r.result j d y o) 0 he
      (show s.bli.notices.length < 32 by omega),
    raise_length (s.setJob j (some (r.withDest d y))) (r.result j d y o) hl⟩

include hj

/-- The job goes on, or completes, behind the DEST_RESULT of one of its destinations (R131, R134). -/
theorem destLeft_settles {u : State} (hu : u = { s with
      dsp := (s.setJob j (some (r.withDest d y))).dsp, bli := (s.destLeft j d r y (some info)).bli, reports := u.reports })
    (hf : (r.dests.set d y).all (·.state.terminal) = true → s.freedByHolds r.document) :
    OutcomeSettled s (u.completeJob j true) (j, d) r y info [] := by
  have dsp : u.dsp = (s.setJob j (some (r.withDest d y))).dsp := (congrArg State.dsp hu).trans rfl
  have pmm : u.pmm = s.pmm := (congrArg State.pmm hu).trans rfl
  have now : u.now = s.now := (congrArg State.now hu).trans rfl
  have bli : u.bli = (s.destLeft j d r y (some info)).bli := (congrArg State.bli hu).trans rfl
  have job : u.job j = some (r.withDest d y) :=
    (congrArg (fun q : Dsp => tget q.jobs j none) dsp).trans (job_setJob_self _ _ _ (job_lt hj))
  have jobs (k : Nat) (hk : k ≠ j) : u.job k = s.job k :=
    (congrArg (fun q : Dsp => tget q.jobs k none) dsp).trans (job_setJob_ne _ _ hk)
  have order : u.dsp.order = s.dsp.order := (congrArg Dsp.order dsp).trans rfl
  have doc (k : Nat) : u.doc k = s.doc k := by rw [State.doc, pmm]; rfl
  have flag : u.flagged .destResult = true := (flagged_congr bli _).trans (flagged_raise _ (r.result j d y (some info)) 0)
  have notices (ok : s.bli.enabled .destResult = true ∧ s.bli.enabled .jobDone = true ∧ s.bli.notices.length + 2 ≤ 32) :
      u.noticesOwed = s.noticesOwed ++ [{ tag := 0, body := r.result j d y (some info), time := s.now }] ∧
        u.bli.notices.length < 32 ∧ u.bli.enabled .jobDone = true := by
    obtain ⟨results, dones, room⟩ := ok
    obtain ⟨owed, more⟩ := destLeft_notices (j := j) (d := d) (r := r) y (some info) (n := 1) results room
    exact ⟨(noticesOwed_congr bli).trans owed, by rw [bli]; exact more, by rw [bli]; exact (raise_enabled ..).trans dones⟩
  by_cases all : (r.dests.set d y).all (·.state.terminal) = true
  · have free : u.freedByHolds r.document := by
      simpa only [State.freedByHolds, State.doc, State.page, pmm] using hf all
    have done : JobCompleted u (u.completeJob j true) j (r.withDest d y) := completeJob_completes job all free
    refine ⟨?_, fun k hk => (done.jobs k hk).trans (jobs k hk), fun goes => absurd all (by rw [goes]; nofun), fun _ =>
      ⟨done.job, done.order.trans (by rw [order]), done.flagged, done.doc.trans (by rw [doc]; rfl), fun ok => ?_⟩⟩
    · exact (flagged_congr done.link _).trans (flagged_raise_of_flagged _ 0 flag)
    · obtain ⟨owed, room, on⟩ := notices ok
      rw [done.noticesOwed on room, owed, now, List.append_nil, List.append_assoc]
      rfl
  · have goes := Bool.eq_false_of_not_eq_true all
    rw [completeJob_open job true goes]
    refine ⟨flag, jobs, fun _ => ⟨job, order, doc _, fun ok => ?_⟩, fun ends => absurd ends all⟩
    rw [(notices ok).1, List.append_nil]
    rfl

end Taken

section Taken

variable {s : State} {j d : Nat} {r : Job} {x : Dest} (hj : s.job j = some r) (hx : r.dests[d]? = some x)
include hj hx

theorem takeOutcome_settles {y : Dest} (o : CallOutcome) (info : OutcomeInfo)
    (hy : { x with confirmed := x.confirmed + info.confirmed }.settle r (s.doc r.document).pages.length s.dsp.time o = y)
    (hs : s.owesNothing) (quiet : s.openLine = none ∨ y.presses s.dsp.time = false)
    (hf : (r.dests.set d y).all (·.state.terminal) = true → s.pmm.pendingScan = none ∧ s.freedByHolds r.document) :
    OutcomeSettled s (s.takeOutcome j d o info) (j, d) r y info [] ∧ (s.takeOutcome j d o info).owesNothing := by
  let v := s.destLeft j d r y (some info)
  have frame : v = _ := destLeft_frame y (some info)
  let u := if y.presses s.dsp.time then v.report .evaluate else v
  have taken : s.takeOutcome j d o info = u.completeJob j true := by
    rw [takeOutcome_eq hj hx o info, hy]
  have hu : u = { s with
      dsp := (s.setJob j (some (r.withDest d y))).dsp, bli := (s.destLeft j d r y (some info)).bli, reports := u.reports } := by
    have reports : u = { v with reports := u.reports } := by
      by_cases presses : y.presses s.dsp.time = true
      · rw [show u = v.report .evaluate from if_pos presses]
        rfl
      · rw [show u = v from if_neg presses]
    exact reports.trans (congrArg (fun q : State => { q with reports := u.reports }) frame)
  have line : u.openLine = s.openLine := (congrArg State.openLine hu).trans rfl
  have owes : u.owesNothing := by
    have still : v.reports = s.reports := (congrArg State.reports frame).trans rfl
    intro q hq
    rw [line, (congrArg (·.pmm.pendingScan) hu : u.pmm.pendingScan = s.pmm.pendingScan)]
    by_cases presses : y.presses s.dsp.time = true
    · have more : u.reports = s.reports ++ [.evaluate] := by
        rw [show u = v.report .evaluate from if_pos presses, ← still]
        rfl
      rcases List.mem_append.1 (more ▸ hq) with old | new
      · exact hs q old
      · exact .inl ⟨List.mem_singleton.1 new, quiet.resolve_right (by rw [presses]; nofun)⟩
    · rw [show u = v from if_neg presses, still] at hq
      exact hs q hq
  rw [taken]
  refine ⟨destLeft_settles hj y info hu fun all => (hf all).2, ?_⟩
  have job : u.job j = some (r.withDest d y) :=
    (congrArg (fun q : State => q.job j) hu).trans (job_setJob_self _ _ _ (job_lt hj))
  by_cases all : (r.dests.set d y).all (·.state.terminal) = true
  · obtain ⟨none, free⟩ := hf all
    have pmm : u.pmm = s.pmm := (congrArg State.pmm hu).trans rfl
    have done : JobCompleted u (u.completeJob j true) j (r.withDest d y) :=
      completeJob_completes job all (by simpa only [Job.withDest, State.freedByHolds, State.doc, State.page, pmm] using free)
    exact done.owesNothing owes (by rw [pmm, none])
  · rw [completeJob_open job true (Bool.eq_false_of_not_eq_true all)]
    exact owes

end Taken

end Sys2Proof.Machine
end

section
/-!
PROOFS. The release of an outbound call at the dispatcher (O54). On its way there a release changes its own line, gives the
call's reader back and leaves the dispatcher's side as it found it; behind it the charges alone are changed.
-/

namespace Sys2Proof.Machine

set_option Elab.async false

/-! ## Lines that can take a destination (R125) -/

theorem openLine_none_iff {s : State} : s.openLine = none ↔ ∀ n, (s.line n).takesBind = false := by
  have all (n : LineNo) : n ∈ allLines := by revert n; decide
  rw [State.openLine, List.find?_eq_none]
  exact ⟨fun h n => Bool.eq_false_of_not_eq_true (h n (all n)), fun h n _ => by rw [h n]; nofun⟩

/-- A line in a call takes no destination: where no line could, none can. -/
theorem openLine_none_of {s t : State} {n : LineNo} (h : s.openLine = none) (others : ∀ m, m ≠ n → t.line m = s.line m)
    (busy : (t.line n).state ≠ .idle) : t.openLine = none := by
  rw [openLine_none_iff] at h ⊢
  intro m
  by_cases e : m = n
  · rw [e]
    simp [Line.takesBind, busy]
  · rw [others m e]
    exact h m

/-! ## The charges of a release (R178) -/

/-- From `s` to `t` line `n` and the charge unit alone have changed. -/
structure ChargesOnly (n : LineNo) (s t : State) : Prop where
  frame : t = { s with lines := t.lines, chg := t.chg }
  line : ∀ m, m ≠ n → t.line m = s.line m

namespace ChargesOnly

variable {n : LineNo} {s t u : State}

theorem trans (h : ChargesOnly n s t) (k : ChargesOnly n t u) : ChargesOnly n s u :=
  ⟨k.frame.trans (congrArg (fun v : State => { v with lines := u.lines, chg := u.chg }) h.frame),
    fun m hm => (k.line m hm).trans (h.line m hm)⟩

theorem updLine (s : State) (f : Line → Line) : ChargesOnly n s (s.updLine n f) :=
  ⟨rfl, fun _ hm => line_updLine_ne _ _ _ _ hm.symm⟩

theorem charge (s : State) (m : Bool) (c : Int) : ChargesOnly n s (s.charge n m c).1 := by
  unfold State.charge
  dsimp only
  split
  · exact ⟨rfl, fun k hk => line_updLine_ne _ n k _ hk.symm⟩
  · exact ⟨rfl, fun k hk => line_updLine_ne _ n k _ hk.symm⟩

theorem topUp (c : Int) (k : Nat) (s : State) : ChargesOnly n s (topUp n c k s) := by
  induction k generalizing s with
  | zero => exact ⟨rfl, fun _ _ => rfl⟩
  | succ k ih => exact ((charge s true c).trans (updLine _ _)).trans (ih _)

theorem chargeRelease (s : State) : ChargesOnly n s (s.chargeRelease n) := by
  have stops : ChargesOnly n s (s.updCtx n fun x => { x with nextDue := none, elapsedOn := false }) := updLine s _
  unfold State.chargeRelease
  dsimp only
  split
  exacts [stops.trans (topUp _ _ _), stops]

/-- What the charges of a release leave alone. -/
theorem stands (h : ChargesOnly n s t) :
    t.reports = s.reports ∧ t.bli = s.bli ∧ t.dsp = s.dsp ∧ t.pmm = s.pmm := by
  rw [h.frame]
  exact ⟨rfl, rfl, rfl, rfl⟩

end ChargesOnly

/-! ## The reader given back (R10, R90) -/

/-- From `s` to `t` page records alone have changed, and of no page the state. -/
structure LowersReaders (s t : State) : Prop where
  frame : t = { s with pmm := { s.pmm with pages := t.pmm.pages } }
  state : ∀ p, (t.page p).state = (s.page p).state

/-- A reader of a page that a document holds is given back, and the page stays (R10, R11). -/
theorem release_lowers {s : State} {r : PageRef} (k : ReaderKind)
    (h : s.current r = true → (s.page r.page).document.isSome = true) : LowersReaders s (s.release k r) := by
  unfold State.release
  dsimp only
  split
  · next held =>
    obtain ⟨current, -⟩ := Bool.and_eq_true_iff.1 held
    have document (m : Nat) : ((s.page r.page).setReaders k m).document = (s.page r.page).document := by cases k <;> rfl
    have state (m : Nat) : ((s.page r.page).setReaders k m).state = (s.page r.page).state := by cases k <;> rfl
    rw [if_neg (by rw [document, Option.isNone_eq_false_iff.2 (h current)]; simp)]
    refine ⟨rfl, fun p => ?_⟩
    by_cases e : p = r.page
    · by_cases lt : r.page < 256
      · rw [e, page_setPage_self _ _ _ lt, state]
      · rw [State.setPage, tset_out _ _ _ lt]
    · rw [page_setPage_ne _ _ _ _ (Ne.symm e)]
  · exact ⟨rfl, fun _ => rfl⟩

/-! ## The release on its way to the dispatcher (R90, R117) -/

/-- What a release reads of its call for the dispatcher and of its pages. -/
def Session.outcome (y : Session) := (y.farTag, y.step, y.recoded, y.page, y.reader)

/-- What a release hands to the dispatcher, and the pages it settles. -/
def Ctx.outcome (x : Ctx) := (x.callId, x.confirmed, x.job, x.sess.map Session.outcome)

theorem outcome_eq {x y : Ctx} (h : x.outcome = y.outcome) :
    x.callId = y.callId ∧ x.confirmed = y.confirmed ∧ x.job = y.job ∧ x.sess.map Session.outcome = y.sess.map Session.outcome := by
  simpa only [Ctx.outcome, Prod.mk.injEq] using h

/-- The outcome's information, from the context of a call (R117, R131). -/
def Ctx.info (x : Ctx) : OutcomeInfo :=
  { callId := x.callId, confirmed := x.confirmed, farTag := (x.sess.getD {}).farTag, step := x.sess.map (·.step)
    recoded := (x.sess.getD {}).recoded }

theorem outcomeInfo_eq {s : State} {n : LineNo} {x : Ctx} (h : (s.line n).ctx = some x) : s.outcomeInfo n = x.info := by
  rw [State.outcomeInfo, State.sess, ctx_of_line h]
  rfl

/-- Contexts of one outcome tell the dispatcher the same, and settle the same pages. -/
theorem info_congr {x y : Ctx} (h : x.outcome = y.outcome) : x.info = y.info ∧
    (x.sess.getD {}).page = (y.sess.getD {}).page ∧ (x.sess.getD {}).reader = (y.sess.getD {}).reader := by
  obtain ⟨callId, confirmed, -, sess⟩ := outcome_eq h
  rw [Ctx.info, Ctx.info, callId, confirmed]
  match hx : x.sess, hy : y.sess with
  | none, none => exact ⟨rfl, rfl, rfl⟩
  | none, some _ => rw [hx, hy] at sess; cases sess
  | some _, none => rw [hx, hy] at sess; cases sess
  | some a, some b =>
    rw [hx, hy] at sess
    simp only [Option.map_some, Option.some.injEq, Session.outcome, Prod.mk.injEq] at sess
    obtain ⟨tag, step, recoded, page, reader⟩ := sess
    exact ⟨by simp only [Option.getD_some, Option.map_some, tag, step, recoded], page, reader⟩

/-- From `u` to `w` line `n`'s call has been released as far as the dispatcher: its line is RELEASING, and what the
dispatcher reads stands. -/
structure ReleasedTo (u : State) (n : LineNo) (w : State) : Prop extends DispatchStands u w where
  reports : w.reports = u.reports
  pendingScan : w.pmm.pendingScan = u.pmm.pendingScan
  page : ∀ p, (w.page p).state = (u.page p).state
  line : ∀ m, m ≠ n → w.line m = u.line m
  state : (w.line n).state = .releasing

theorem onSess_info {l : Line} {x : Ctx} {g : Session → Session} (hx : l.ctx = some x)
    (hg : ∀ y, (g y).farTag = y.farTag ∧ (g y).step = y.step ∧ (g y).recoded = y.recoded) :
    ∃ z, (l.onSess g).ctx = some z ∧ z.info = x.info ∧ z.job = x.job := by
  refine ⟨{ x with sess := x.sess.map g }, by rw [Line.onSess, hx]; rfl, ?_, rfl⟩
  cases hy : x.sess with
  | none => simp only [Ctx.info, hy, Option.map_none]
  | some y =>
    obtain ⟨tag, step, recoded⟩ := hg y
    simp only [Ctx.info, hy, Option.map_some, Option.getD_some, tag, step, recoded]

/-- The call's reader is given back: the pages' states, the other lines and what the call tells stand (R10, R90). -/
theorem dropTransmission_lowers {s : State} {n : LineNo}
    (hd : ∀ p, (s.sess n).reader = some p → s.current p = true → (s.page p.page).document.isSome = true) :
    ∃ t g, LowersReaders s t ∧ s.dropTransmission n = t.updLine n (·.onSess g) ∧
      ∀ y, (g y).farTag = y.farTag ∧ (g y).step = y.step ∧ (g y).recoded = y.recoded := by
  unfold State.dropTransmission
  split
  · next p hp =>
    exact ⟨s.release .transmission p, fun y => { y with reader := none }, release_lowers _ (hd p hp), rfl,
      fun _ => ⟨rfl, rfl, rfl⟩⟩
  · refine ⟨s, id, ⟨rfl, fun _ => rfl⟩, (updLine_of_fixed ?_).symm, fun _ => ⟨rfl, rfl, rfl⟩⟩
    simp [Line.onSess]

/-- A release with no page being received and no page freed hands the outcome over and is then charged (R90, R117). -/
theorem releaseCall_hands {u : State} {n : LineNo} {x : Ctx} {jd : Nat × Nat} (r : EndReason)
    (hr : (u.line n).state.releasable = true) (hx : (u.line n).ctx = some x) (hj : x.job = some jd)
    (hp : (x.sess.getD {}).page = none) (hrec : tget u.rtr.reception n.val none = none)
    (hd : ∀ p, (x.sess.getD {}).reader = some p → u.current p = true → (u.page p.page).document.isSome = true) :
    ∃ w, ReleasedTo u n w ∧
      u.releaseCall n r = (w.takeOutcome jd.1 jd.2 (.released r) x.info).chargeRelease n := by
  let v := u.updLine n (·.released r u.now u.chg.clock.set)
  let z := Ctx.clocked { x with reason := some r, releaseTime := some u.now } u.chg.clock.set
  have line : v.line n = (u.line n).released r u.now u.chg.clock.set := line_updLine_self ..
  have ctx : (v.line n).ctx = some z := (congrArg Line.ctx line).trans (released_ctx r _ _ hx)
  have sess : v.sess n = x.sess.getD {} := by rw [State.sess, ctx_of_line ctx]; rfl
  have settles : v.settleReceived n = v := by rw [State.settleReceived, sess, hp]
  obtain ⟨t, g, lowers, drops, keeps⟩ := dropTransmission_lowers (s := v) (n := n) (by rw [sess]; exact hd)
  have frame := lowers.frame
  have lines : t.lines = v.lines := (congrArg State.lines frame).trans rfl
  obtain ⟨y, yctx, info, job⟩ := onSess_info ctx keeps
  let w := (t.updLine n (·.onSess g)).updCodec n fun _ => {}
  have wline : w.line n = { (v.line n).onSess g with codec := {} } := by
    refine (line_updLine_self ..).trans ?_
    rw [line_updLine_self, State.line, lines]
    rfl
  have wctx : (w.line n).ctx = some y := (congrArg Line.ctx wline).trans yctx
  have stands : ReleasedTo u n w := {
    dsp := (congrArg State.dsp frame).trans rfl
    docs := (congrArg (·.pmm.docs) frame).trans rfl
    bli := (congrArg State.bli frame).trans rfl
    now := (congrArg State.now frame).trans rfl
    reports := (congrArg State.reports frame).trans rfl
    pendingScan := (congrArg (·.pmm.pendingScan) frame).trans rfl
    page := lowers.state
    line := fun m hm => by
      have still : t.line m = v.line m := by rw [State.line, lines]; rfl
      rw [show w.line m = t.line m from (line_updLine_ne _ _ _ _ hm.symm).trans (line_updLine_ne _ _ _ _ hm.symm), still]
      exact line_updLine_ne _ _ _ _ hm.symm
    state := by rw [wline]; exact (congrArg Line.state line).trans rfl }
  have received : w.endReception n r = w := by
    have none : tget w.rtr.reception n.val none = none := by
      rw [show w.rtr = u.rtr from (congrArg State.rtr frame).trans rfl, hrec]
    rw [State.endReception, none]
  have hands : w.handOutcome n (.released r) = w.takeOutcome jd.1 jd.2 (.released r) x.info := by
    rw [State.handOutcome, ctx_of_line wctx, job, show z.job = x.job from rfl, hj, outcomeInfo_eq wctx, info]
    rfl
  refine ⟨w, stands, (releaseCall_eq r hr).trans (congrArg (fun q : State => q.chargeRelease n) ?_)⟩
  calc v.releaseSettled n r
    _ = (w.endReception n r).handOutcome n (.released r) := by rw [State.releaseSettled, settles, drops]
    _ = _ := by rw [received, hands]

/-! ## The event that releases a call -/

/-- The event `c` releases line `n`'s call with reason `r`: the line has been changed by `F` on the way, in nothing that the
release hands over, and is changed by `G` behind it. -/
structure ReleaseRuns (s : State) (n : LineNo) (c : Instr) (r : EndReason) (F G : Line → Line) : Prop where
  runs : exec c s = .next (((s.quieted.updLine n F).releaseCall n r).updLine n G).finish
  releasable : (F (s.line n)).state.releasable = true
  outcome : (F (s.line n)).ctx.map Ctx.outcome = (s.line n).ctx.map Ctx.outcome
  after : ∀ l, (G l).state = l.state

section Released

variable {s : State} {n : LineNo} {x : Ctx} {c : Instr} {r : EndReason} {F G : Line → Line}
  {jd : Nat × Nat} {j : Job} {d : Dest}

theorem ReleaseRuns.settles (h : ReleaseRuns s n c r F G) (hx : (s.line n).ctx = some x) (hjd : x.job = some jd)
    (hj : s.job jd.1 = some j) (hd : j.dests[jd.2]? = some d) (hrec : tget s.rtr.reception n.val none = none)
    (hp : (s.sess n).page = none)
    (hread : ∀ p, (s.sess n).reader = some p → s.current p = true → (s.page p.page).document.isSome = true)
    (quiet : s.openLine = none ∨ 1 ≤ j.redial ∧ s.dsp.time < 4294967295) :
    let z := s.destAfter x j d (.released r)
    ((j.dests.set jd.2 z).all (·.state.terminal) = true → s.pmm.pendingScan = none ∧ s.freedByHolds j.document) →
    ∃ t, exec c s = .next t ∧ OutcomeSettled s t jd j z x.info [] ∧ (t.line n).state = .releasing ∧
      t.repliesOwed = s.repliesOwed := by
  intro z hf
  have sess : s.sess n = x.sess.getD {} := by rw [State.sess, ctx_of_line hx]
  let u := s.quieted.updLine n F
  have line : u.line n = F (s.line n) := line_updLine_self ..
  obtain ⟨y, hy, same⟩ : ∃ y, (F (s.line n)).ctx = some y ∧ y.outcome = x.outcome := by
    have told := h.outcome
    rw [hx] at told
    exact Option.map_eq_some_iff.1 told
  obtain ⟨info, page, reader⟩ := info_congr same
  obtain ⟨-, confirmed, job, -⟩ := outcome_eq same
  have releasable : (u.line n).state.releasable = true := by rw [line]; exact h.releasable
  have ctx : (u.line n).ctx = some y := (congrArg Line.ctx line).trans hy
  obtain ⟨w, way, released⟩ := releaseCall_hands r releasable ctx (job.trans hjd) (by rw [page, ← sess]; exact hp) hrec
    (by rw [reader, ← sess]; exact hread)
  have quietly : w.openLine = none ∨ z.presses w.dsp.time = false := by
    refine quiet.imp (fun none => ?_) fun ⟨redial, time⟩ => ?_
    · refine openLine_none_of none (fun m hm => ?_) (by rw [way.state]; nofun)
      exact (way.line m hm).trans (line_updLine_ne _ _ _ _ hm.symm)
    · rw [way.dsp]
      exact presses_settle_released _ j _ r redial time
  have doc : w.doc j.document = s.doc j.document := by rw [State.doc, way.docs]; rfl
  have settled : { d with confirmed := d.confirmed + y.info.confirmed }.settle j (w.doc j.document).pages.length w.dsp.time
      (.released r) = z := by
    rw [doc, way.dsp, show y.info.confirmed = x.confirmed from confirmed]
    rfl
  have free : (j.dests.set jd.2 z).all (·.state.terminal) = true →
      w.pmm.pendingScan = none ∧ w.freedByHolds j.document := fun all => by
    obtain ⟨none, holds⟩ := hf all
    refine ⟨way.pendingScan.trans none, ?_⟩
    simp only [State.freedByHolds, doc, way.page]
    exact holds
  have owes : w.owesNothing := by
    rw [State.owesNothing, way.reports]
    nofun
  have hj : w.job jd.1 = some j := by rw [State.job, way.dsp]; exact hj
  obtain ⟨outcome, asks⟩ := takeOutcome_settles hj hd (.released r) y.info settled owes quietly free
  let v := w.takeOutcome jd.1 jd.2 (.released r) y.info
  let q := (v.chargeRelease n).updLine n G
  have charges : ChargesOnly n v q := (ChargesOnly.chargeRelease v).trans (.updLine _ G)
  obtain ⟨reports, bli, dsp, pmm⟩ := charges.stands
  have state : (q.line n).state = .releasing := by
    have before : ((v.chargeRelease n).line n).state = .releasing := by
      rw [show v.chargeRelease n = u.releaseCall n r from released.symm]
      exact (releaseCall_reason r releasable ctx).1
    rw [line_updLine_self, h.after, before]
  have asksNothing : q.owesNothing := by
    intro a ha
    rw [pmm]
    rw [reports] at ha
    refine (asks a ha).imp_left fun ⟨evaluates, shut⟩ => ⟨evaluates, ?_⟩
    exact openLine_none_of shut charges.line (by rw [state]; nofun)
  have ends := asksNothing.finish
  have replies : q.repliesOwed = s.repliesOwed := by
    have taken : AccountsStand w v := ((GoesOn.refl w).takeOutcome).toAccountsStand
    calc q.repliesOwed
      _ = v.repliesOwed := repliesOwed_congr bli
      _ = w.repliesOwed := taken.link.repliesOwed
      _ = s.repliesOwed := repliesOwed_congr (way.bli.trans rfl)
  have stands : DispatchStands s w :=
    ⟨way.dsp.trans rfl, way.docs.trans rfl, way.bli.trans rfl, way.now.trans rfl⟩
  have runs : exec c s = .next q.finish := by rw [h.runs, released]
  refine ⟨_, runs, ?_, (congrArg Line.state (ends.line n)).trans state, ends.repliesOwed.trans replies⟩
  rw [← info]
  exact ((outcome.of_stands stands).congr_right dsp (by rw [pmm]) bli).choice ends

end Released

end Sys2Proof.Machine
end

section
/-!
PROOFS. The events that release an outbound call (O54). `State.releaseAsked` names them and their reasons; each runs the
release on a line changed in nothing that the release hands over.
-/

namespace Sys2Proof.Machine

set_option Elab.async false

section Runs

variable {s : State} {n : LineNo} {c : Instr} {r : EndReason}

/-- An event that changes its line and releases the call. -/
theorem ReleaseRuns.of_line (F : Line → Line) (runs : exec c s = .next ((s.quieted.updLine n F).releaseCall n r).finish)
    (releasable : (F (s.line n)).state.releasable = true)
    (outcome : (F (s.line n)).ctx.map Ctx.outcome = (s.line n).ctx.map Ctx.outcome) : ReleaseRuns s n c r F id := by
  have same (u : State) : u.updLine n id = u := updLine_of_fixed rfl
  exact ⟨runs.trans (by rw [same]), releasable, outcome, fun _ => rfl⟩

/-- An event that releases the call at once. -/
theorem ReleaseRuns.at_once (runs : exec c s = .next (s.quieted.releaseCall n r).finish)
    (releasable : (s.line n).state.releasable = true) : ReleaseRuns s n c r id id := by
  have same (u : State) : u.updLine n id = u := updLine_of_fixed rfl
  exact .of_line id (runs.trans (by rw [same])) releasable rfl

end Runs

/-- A session record that is not the empty one stands in the context (R97). -/
theorem sess_filled {s : State} {n : LineNo} {x : Ctx} (hx : (s.line n).ctx = some x) (h : s.sess n ≠ {}) :
    ∃ y, x.sess = some y ∧ s.sess n = y := by
  rw [State.sess, ctx_of_line hx] at h ⊢
  cases hy : x.sess with
  | none => exact absurd (by rw [hy]; rfl) h
  | some y => exact ⟨y, rfl, rfl⟩

theorem releasable_of_takesFrames {q : LineState} (h : q.takesFrames = true) : q.releasable = true := by
  cases q
  case negotiating | sending | receiving | closing => rfl
  all_goals cases h

/-- Changes of a session record that a release does not hand over leave the outcome. -/
theorem onSess_outcome (l : Line) {f : Session → Session} (hf : ∀ y, (f y).outcome = y.outcome) :
    (l.onSess f).ctx.map Ctx.outcome = l.ctx.map Ctx.outcome := by
  rw [Line.onSess]
  cases l.ctx with
  | none => rfl
  | some x =>
    simp only [Option.map_some, Ctx.outcome, Option.map_map, Option.some.injEq, Prod.mk.injEq, true_and]
    exact congrArg (fun g => x.sess.map g) (funext hf)

/-- A request sent three times. -/
theorem request_of_thrice {y : Session} (h : (y.request.any fun q => decide (3 ≤ q.sent)) = true) :
    ∃ q, y.request = some q ∧ 3 ≤ q.sent := by
  obtain ⟨q, hq, sent⟩ := (Option.any_eq_true ..).1 h
  exact ⟨q, hq, of_decide_eq_true sent⟩

section Events

variable {s : State} {n : LineNo} {x : Ctx} {c : Instr} {r : EndReason} (h : s.inReset = false) (hx : (s.line n).ctx = some x)
include h

/-! ## Tones and waits (R83 to R85) -/

theorem busyTone_releases (ha : s.releaseAsked n (.busyTone n) = some r) : ReleaseRuns s n (.busyTone n) r id id := by
  obtain ⟨⟨-, state⟩, e⟩ := Option.ite_none_right_eq_some.1 ha
  cases e
  refine .at_once ?_ (by rcases state with e | e <;> rw [e] <;> rfl)
  rw [exec_busyTone]
  refine heed_gives (f := fun s => s.busyToneHeard n) h ?_
  rw [State.busyToneHeard]
  rcases state with e | e <;> rw [show (s.quieted.line n).state = _ from e]

theorem dialToneWaitExpiry_releases (ha : s.releaseAsked n (.dialToneWaitExpiry n) = some r) :
    ReleaseRuns s n (.dialToneWaitExpiry n) r id id := by
  obtain ⟨⟨-, waits, state⟩, e⟩ := Option.ite_none_right_eq_some.1 ha
  cases e
  refine .at_once ?_ (by rcases state with e | e <;> rw [e] <;> rfl)
  rw [exec_dialToneWaitExpiry]
  exact heed_gives h (if_pos waits)

theorem answerWaitExpiry_releases (ha : s.releaseAsked n (.answerWaitExpiry n) = some r) :
    ReleaseRuns s n (.answerWaitExpiry n) r id id := by
  obtain ⟨⟨-, waits, state⟩, e⟩ := Option.ite_none_right_eq_some.1 ha
  cases e
  refine .at_once ?_ (by rw [state]; rfl)
  rw [exec_answerWaitExpiry]
  exact heed_gives h (if_pos waits)

/-! ## The session (R88, R98, R99, R106, R113 to R115) -/

theorem carrierLost_releases (ha : s.releaseAsked n (.carrierLost n) = some r) :
    ReleaseRuns s n (.carrierLost n) r id id := by
  obtain ⟨⟨-, takes⟩, e⟩ := Option.ite_none_right_eq_some.1 ha
  cases e
  refine .at_once ?_ (releasable_of_takesFrames takes)
  rw [exec_carrierLost]
  exact heed_gives (f := fun s => s.loseCarrier n) h (if_pos takes)

include hx

theorem endAck_releases (ha : s.releaseAsked n (.endAck n) = some r) :
    ReleaseRuns s n (.endAck n) r (fun l => l.unframed.takesAnswer) id := by
  obtain ⟨⟨-, closing, phase, role, stage⟩, e⟩ := Option.ite_none_right_eq_some.1 ha
  obtain ⟨cause, hc, rfl⟩ := Option.map_eq_some_iff.1 e
  obtain ⟨y, hy, sess⟩ := sess_filled hx fun e => by rw [e] at stage; cases stage
  rw [sess] at role stage hc
  have session := inSession_of h (by rw [closing]; rfl) hx hy phase
  have at_frame := session.sess_atFrame
  have takes := (takeFrame_endAck (s := s.atFrame n) (by rw [at_frame, role]) (by rw [at_frame, stage])).trans
    (takeEndAck_releases session.ctx_atFrame hy hc)
  refine .of_line _ ((session.frame_gives (f := .endAck) rfl takes).trans ?_) (by rw [Line.takesAnswer]; exact congrArg _ closing) ?_
  · rw [updLine_updLine]
  · exact onSess_outcome _ fun _ => rfl

theorem pageAck_releasesCall {m v bad : Nat} (ha : s.releaseAsked n (.pageAck n m v bad) = some r) :
    ReleaseRuns s n (.pageAck n m v bad) r (fun l => l.unframed.takesAnswer) id := by
  obtain ⟨⟨-, sending, phase, role, stage, rfl, page, h1, h64, attempt⟩, e⟩ := Option.ite_none_right_eq_some.1 ha
  cases e
  rw [ctx_of_line hx] at page attempt
  obtain ⟨y, hy, sess⟩ := sess_filled hx fun e => by rw [e] at stage; cases stage
  rw [sess] at role stage
  have session := inSession_of h (by rw [sending]; rfl) hx hy phase
  refine .of_line _ ((pageAck_gives session role stage page h1 h64
    (takePageAck_releases session.ctx_atFrame hy page attempt)).trans ?_) (by rw [Line.takesAnswer]; exact congrArg _ sending) ?_
  · rw [updLine_updLine]
  · exact onSess_outcome _ fun _ => rfl

theorem trainFail_releases (ha : s.releaseAsked n (.trainFail n) = some r) :
    ReleaseRuns s n (.trainFail n) r (·.onSess fun y => { y with trainFails := y.trainFails + 1 }) id := by
  obtain ⟨⟨-, takes, awaits, role, fails⟩, e⟩ := Option.ite_none_right_eq_some.1 ha
  cases e
  obtain ⟨y, hy, sess⟩ := sess_filled hx fun e => by rw [e] at fails; cases fails
  rw [sess] at role fails
  obtain ⟨p, hp⟩ := Option.isSome_iff_exists.1 awaits
  refine .of_line _ ?_ (releasable_of_takesFrames takes) (onSess_outcome _ fun _ => rfl)
  rw [exec_trainFail]
  refine heed_gives (f := fun s => s.phaseFails n) h ?_
  rw [State.phaseFails, show (s.quieted.line n).awaiting = some p from hp]
  exact (trainingFailed_caller (s := s.quieted) hx hy role).trans (callerTrainFailed_releases (s := s.quieted) hx hy fails)

/-- The line whose frame reply timer has expired (R98). -/
def Line.repliesNo (l : Line) : Line := { l with frameReply := none }

section Expiry

variable {y : Session} (hy : x.sess = some y) (takes : (s.line n).state.takesFrames = true)
  (waits : (s.line n).frameReply.isSome = true)

omit hx in
include takes in
/-- An expiry that releases the call with the timer stopped. -/
theorem expiry_stops (hr : s.quieted.replyExpires n = (s.quieted.stopReply n).releaseCall n r) :
    ReleaseRuns s n (.frameReplyExpiry n) r Line.repliesNo id :=
  .of_line _ (heed_gives (f := fun s => s.replyExpires n) h hr) (releasable_of_takesFrames takes) rfl

include hy takes waits

theorem expiry_releases_request {q : Request} (hq : y.request = some q) (h3 : 3 ≤ q.sent)
    (hg : y.stage = .waitReply ∨ y.stage = .waitAck ∨ y.stage = .offered) :
    ReleaseRuns s n (.frameReplyExpiry n) .protocolTimeout Line.repliesNo id := by
  obtain ⟨r, asks, is⟩ := replyExpires_request (s := s.quieted) hx hy waits (by tauto)
  rw [is (by rcases hg with e | e | e <;> rw [e] <;> nofun)] at asks
  exact expiry_stops h takes (asks.trans (requestExpires_releases (stopReply_ctx (s := s.quieted) hx) hy _ hq h3))

theorem expiry_releases_close {q : Request} {cause : CloseCause} (hq : y.request = some q) (h3 : 3 ≤ q.sent)
    (hg : y.stage = .waitEndAck) (hc : y.closeCause = some cause) :
    ReleaseRuns s n (.frameReplyExpiry n) cause.reason Line.repliesNo id := by
  have sess : (s.quieted.stopReply n).sess n = y := sess_of_line (stopReply_ctx (s := s.quieted) hx) hy
  have asks : s.quieted.replyExpires n = (s.quieted.stopReply n).requestExpires n cause.reason := by
    refine (if_pos waits).trans ?_
    dsimp only
    rw [sess, hg, hc]
    rfl
  exact expiry_stops h takes (asks.trans (requestExpires_releases (stopReply_ctx (s := s.quieted) hx) hy _ hq h3))

theorem expiry_releases_watch (h2 : 2 ≤ y.expiries)
    (hg : y.stage = .waitOffer ∨ y.stage = .declined ∨ y.stage = .waitHead ∨ y.stage = .waitTail) :
    ReleaseRuns s n (.frameReplyExpiry n) .protocolTimeout Line.repliesNo id :=
  expiry_stops h takes ((replyExpires_watch (s := s.quieted) hx hy waits hg).trans
    (watchExpires_releases (stopReply_ctx (s := s.quieted) hx) hy h2))

theorem expiry_releases_linger (hg : y.stage = .linger) :
    ReleaseRuns s n (.frameReplyExpiry n) y.lingerReason Line.repliesNo id :=
  expiry_stops h takes (replyExpires_linger (s := s.quieted) hx hy waits hg)

theorem expiry_releases_training (hg : y.stage = .training) (role : y.role = .caller) (fails : 1 ≤ y.trainFails) :
    ReleaseRuns s n (.frameReplyExpiry n) .trainFail
      (fun l => l.repliesNo.onSess fun y => { y with trainFails := y.trainFails + 1 }) (·.marks true) := by
  obtain ⟨expiry, is, runs⟩ := trainingFailure_exec (p := { dir := .send, step := 0 }) h hx hy hg (.inr ⟨rfl, waits⟩)
  rw [decide_eq_true rfl] at is
  subst is
  have ctx : ((s.quieted.updLine n (·.fails true)).line n).ctx = some x := (congrArg Line.ctx (line_updLine_self ..)).trans hx
  have failed := (trainingFailed_caller ctx hy role).trans (callerTrainFailed_releases ctx hy fails)
  refine ⟨runs.trans ?_, releasable_of_takesFrames takes, onSess_outcome _ fun _ => rfl, fun l => (marks_kept l true).1⟩
  rw [failed, updLine_updLine]
  rfl

end Expiry

theorem frameReplyExpiry_releases (ha : s.releaseAsked n (.frameReplyExpiry n) = some r) :
    ∃ F G, ReleaseRuns s n (.frameReplyExpiry n) r F G := by
  rw [State.releaseAsked] at ha
  split at ha
  case isFalse => cases ha
  case isTrue expires =>
  obtain ⟨-, takes, waits⟩ := expires
  split at ha
  case h_1 hg | h_2 hg | h_3 hg =>
    obtain ⟨k, e⟩ := Option.ite_none_right_eq_some.1 ha
    cases e
    obtain ⟨y, hy, sess⟩ := sess_filled hx fun e => by rw [e] at hg; cases hg
    rw [sess] at hg k
    obtain ⟨q, hq, h3⟩ := request_of_thrice k
    exact ⟨_, _, expiry_releases_request h hx hy takes waits hq h3 (by rw [hg]; decide)⟩
  case h_4 hg =>
    split at ha
    case isFalse => cases ha
    case isTrue k =>
    obtain ⟨cause, hc, rfl⟩ := Option.map_eq_some_iff.1 ha
    obtain ⟨y, hy, sess⟩ := sess_filled hx fun e => by rw [e] at hg; cases hg
    rw [sess] at hg k hc
    obtain ⟨q, hq, h3⟩ := request_of_thrice k
    exact ⟨_, _, expiry_releases_close h hx hy takes waits hq h3 hg hc⟩
  case h_5 hg | h_6 hg | h_7 hg | h_8 hg =>
    obtain ⟨k, e⟩ := Option.ite_none_right_eq_some.1 ha
    cases e
    obtain ⟨y, hy, sess⟩ := sess_filled hx fun e => by rw [e] at k; cases k
    rw [sess] at hg k
    exact ⟨_, _, expiry_releases_watch h hx hy takes waits k (by rw [hg]; decide)⟩
  case h_9 hg =>
    obtain ⟨⟨role, fails⟩, e⟩ := Option.ite_none_right_eq_some.1 ha
    cases e
    obtain ⟨y, hy, sess⟩ := sess_filled hx fun e => by rw [e] at hg; cases hg
    rw [sess] at hg role fails
    exact ⟨_, _, expiry_releases_training h hx hy takes waits hg role fails⟩
  case h_10 hg =>
    cases ha
    obtain ⟨y, hy, sess⟩ := sess_filled hx fun e => by rw [e] at hg; cases hg
    rw [sess] at hg ⊢
    exact ⟨_, _, expiry_releases_linger h hx hy takes waits hg⟩
  case h_11 | h_12 => cases ha

theorem stepBoundary_releases (ha : s.releaseAsked n (.stepBoundary n) = some r) :
    ReleaseRuns s n (.stepBoundary n) r (·.onCtx fun x => { x with nextDue := none }) id := by
  rw [State.releaseAsked, ctx_of_line hx] at ha
  split at ha
  case h_2 => cases ha
  case h_1 due t hdue htariff =>
  obtain ⟨⟨-, releasable, reached, broke⟩, e⟩ := Option.ite_none_right_eq_some.1 ha
  cases e
  refine .of_line _ ?_ releasable ?_
  · rw [exec_stepBoundary]
    refine heed_gives (f := fun s => s.boundaryOf n) h ?_
    have ctx : s.quieted.ctx n = x := ctx_of_line (s := s.quieted) hx
    rw [State.boundaryOf, ctx, hdue, htariff]
    refine (if_neg (Nat.not_lt.2 reached)).trans (if_neg ?_)
    rw [show s.quieted.guardPasses n t.stepCp = s.guardPasses n t.stepCp from rfl, broke]
    nofun
  · rw [Line.onCtx, hx]
    rfl

/-- Whatever event asks for the release, it runs the release (R90). -/
theorem releaseAsked_runs (ha : s.releaseAsked n c = some r) : ∃ F G, ReleaseRuns s n c r F G := by
  cases c with
  | busyTone k =>
    obtain ⟨⟨rfl, -⟩, -⟩ := Option.ite_none_right_eq_some.1 ha
    exact ⟨_, _, busyTone_releases h ha⟩
  | dialToneWaitExpiry k =>
    obtain ⟨⟨rfl, -⟩, -⟩ := Option.ite_none_right_eq_some.1 ha
    exact ⟨_, _, dialToneWaitExpiry_releases h ha⟩
  | answerWaitExpiry k =>
    obtain ⟨⟨rfl, -⟩, -⟩ := Option.ite_none_right_eq_some.1 ha
    exact ⟨_, _, answerWaitExpiry_releases h ha⟩
  | carrierLost k =>
    obtain ⟨⟨rfl, -⟩, -⟩ := Option.ite_none_right_eq_some.1 ha
    exact ⟨_, _, carrierLost_releases h ha⟩
  | endAck k =>
    have named : k = n := by
      rw [State.releaseAsked] at ha
      split at ha
      exacts [‹_ ∧ _›.1, nomatch ha]
    subst named
    exact ⟨_, _, endAck_releases h hx ha⟩
  | pageAck k m v bad =>
    obtain ⟨⟨rfl, -⟩, -⟩ := Option.ite_none_right_eq_some.1 ha
    exact ⟨_, _, pageAck_releasesCall h hx ha⟩
  | trainFail k =>
    obtain ⟨⟨rfl, -⟩, -⟩ := Option.ite_none_right_eq_some.1 ha
    exact ⟨_, _, trainFail_releases h hx ha⟩
  | frameReplyExpiry k =>
    have named : k = n := by
      rw [State.releaseAsked] at ha
      split at ha
      exacts [‹_ ∧ _›.1, nomatch ha]
    subst named
    exact frameReplyExpiry_releases h hx ha
  | stepBoundary k =>
    have named : k = n := by
      rw [State.releaseAsked] at ha
      split at ha
      exacts [(Option.ite_none_right_eq_some.1 ha).1.1, nomatch ha]
    subst named
    exact ⟨_, _, stepBoundary_releases h hx ha⟩
  | _ => cases ha

end Events

theorem releasedCallsSettleDestinations : Claims.ReleasedCallsSettleDestinations := by
  intro s n x c r jd j d h hx ha hjd hj hd hrec hp hread quiet z hf
  obtain ⟨F, G, releases⟩ := releaseAsked_runs h hx ha
  have told : s.outcomeInfo n = x.info := outcomeInfo_eq hx
  obtain ⟨t, runs, outcome, state, replies⟩ := releases.settles hx hjd hj hd hrec hp hread quiet hf
  rw [← told] at outcome
  refine ⟨t, runs, ?_, state, replies⟩
  rw [State.outcomeInfo, ctx_of_line hx] at outcome
  exact outcome

end Sys2Proof.Machine
end

section
/-!
PROOFS. The line fault at seize hands its outcome back (O54, R80): the line's part leaves the dispatcher's side but for
LINE_STATE, and an evaluation that binds nothing.
-/

namespace Sys2Proof.Machine

set_option Elab.async false

/-- The line's part of a line fault, LINE_STATE apart (R80). -/
def State.lineFaulted (s : State) (n : LineNo) : State := (s.uncounted n).returnReservation.updLine n Line.faulted

theorem uncounted_chargesOnly (s : State) (n : LineNo) : ChargesOnly n s (s.uncounted n) ∧ (s.uncounted n).now = s.now := by
  unfold State.uncounted
  split
  · unfold State.countCall
    dsimp only
    split <;> exact ⟨⟨rfl, fun _ _ => rfl⟩, rfl⟩
  · exact ⟨⟨rfl, fun _ _ => rfl⟩, rfl⟩

theorem lineFaulted_stands (s : State) (n : LineNo) : DispatchStands s (s.lineFaulted n) ∧
    (s.lineFaulted n).pmm = s.pmm ∧ (s.lineFaulted n).reports = s.reports ++ [.evaluate] ∧
    ∀ m, m ≠ n → (s.lineFaulted n).line m = s.line m := by
  obtain ⟨only, now⟩ := uncounted_chargesOnly s n
  obtain ⟨reports, bli, dsp, pmm⟩ := only.stands
  refine ⟨⟨dsp, congrArg (·.docs) pmm, bli, now⟩, pmm, congrArg (· ++ [Report.evaluate]) reports, fun m hm => ?_⟩
  exact (line_updLine_ne _ _ _ _ hm.symm).trans (only.line m hm)

section Fault

variable {s : State} {n : LineNo} {x : Ctx} {jd : Nat × Nat} {j : Job} {d : Dest}

theorem loopFault_settles (hr : s.reports = []) (hx : (s.line n).ctx = some x) (hjd : x.job = some jd)
    (hj : s.job jd.1 = some j) (hd : j.dests[jd.2]? = some d) (shut : s.openLine = none) :
    let z := s.destAfter x j d .lineFault
    ((j.dests.set jd.2 z).all (·.state.terminal) = true → s.pmm.pendingScan = none ∧ s.freedByHolds j.document) →
    OutcomeSettled s (s.loopFault n) jd j z x.info
        (if s.bli.enabled .lineState then [{ tag := 0, time := s.now, body := .lineState n .outOfService .loopFault }] else []) ∧
      (s.loopFault n).owesNothing := by
  intro z hf
  let b : NoticeBody := .lineState n .outOfService .loopFault
  let w := s.lineFault n
  obtain ⟨⟨dsp, docs, bli, now⟩, pmm, reports, others⟩ := lineFaulted_stands s n
  have frame : w = { s.lineFaulted n with bli := ((s.lineFaulted n).raise b).bli } := raise_frame ..
  have wdsp : w.dsp = s.dsp := (congrArg State.dsp frame).trans dsp
  have wpmm : w.pmm = s.pmm := (congrArg State.pmm frame).trans pmm
  have fault : s.loopFault n = w.takeOutcome jd.1 jd.2 .lineFault x.info := by
    rw [loopFault_eq, ctx_of_line hx, hjd, outcomeInfo_eq hx]
  have closed : w.openLine = none := by
    refine openLine_none_of shut (fun m hm => ?_) (by rw [show w.line n = (s.line n).faulted from lineFault_line s n]; nofun)
    exact (congrArg (·.line m) frame).trans (others m hm)
  have owes : w.owesNothing := by
    intro q hq
    rw [show w.reports = [.evaluate] from (congrArg State.reports frame).trans (reports.trans (by rw [hr]; rfl))] at hq
    exact .inl ⟨List.mem_singleton.1 hq, closed⟩
  have doc (k : Nat) : w.doc k = s.doc k := by rw [State.doc, wpmm]; rfl
  have settled : { d with confirmed := d.confirmed + x.info.confirmed }.settle j (w.doc j.document).pages.length w.dsp.time
      .lineFault = z := by
    rw [doc, wdsp]
    rfl
  have free : (j.dests.set jd.2 z).all (·.state.terminal) = true → w.pmm.pendingScan = none ∧ w.freedByHolds j.document := by
    simpa only [State.freedByHolds, State.doc, State.page, wpmm] using hf
  obtain ⟨outcome, asks⟩ := takeOutcome_settles (s := w) (by rw [State.job, wdsp]; exact hj) hd .lineFault x.info settled owes
    (.inl closed) free
  rw [fault]
  have stands : DispatchStands (s.raise b) w :=
    ⟨wdsp.trans (raise_dsp ..).symm, by rw [wpmm, raise_pmm], raise_bli_congr bli now b,
      (congrArg State.now frame).trans (now.trans (congrArg (·.clock.now) (raise_chg s b 0)).symm)⟩
  exact ⟨(outcome.of_stands stands).after, asks⟩

end Fault

theorem lineFaultReturnsTheDestination : Claims.LineFaultReturnsTheDestination := by
  intro s n x jd j d h seized loop hx hjd hj hd shut z hf
  let u := s.quieted.updLine n fun l => { l with loopTimer := none }
  have fails : s.quieted.checkLoop n false = u.loopFault n :=
    (if_pos loop).trans (by rw [show (s.quieted.line n).state = _ from seized]; rfl)
  have line : u.line n = { s.line n with loopTimer := none } := line_updLine_self ..
  have closed : u.openLine = none :=
    openLine_none_of shut (fun m hm => line_updLine_ne _ _ _ _ hm.symm) (by rw [line, seized]; nofun)
  obtain ⟨outcome, asks⟩ := loopFault_settles (s := u) (n := n) rfl ((congrArg Line.ctx line).trans hx) hjd hj hd closed hf
  obtain ⟨faulted, accounts, -⟩ := loopFault_finish u n
  have told : x.info = s.outcomeInfo n := (outcomeInfo_eq hx).symm
  rw [told, State.outcomeInfo, ctx_of_line hx] at outcome
  refine ⟨_, heed_gives (f := fun s => s.checkLoop n false) h fails, ?_, ?_, ?_, accounts.repliesOwed⟩
  · exact (outcome.of_stands (s := s) ⟨rfl, rfl, rfl, rfl⟩).choice asks.finish
  · rw [faulted]; rfl
  · rw [faulted]; rfl

end Sys2Proof.Machine
end

section
/-!
PROOFS. Credits return the destinations that wait for funds (O54, R132). The pass goes through the jobs in submission order and
through the destinations of each; on a job gone through twice it does nothing the second time.
-/

namespace Sys2Proof.Machine

set_option Elab.async false

/-- Whether a destination of a job of `desk` is returned by a credit of desk `k` (R132). -/
def State.refunds (s : State) (k desk : Nat) (x : Dest) : Bool :=
  x.state == .waitFunds && (desk == k || (s.desk desk).poolOf == some k) && s.fundsTest desk x.dial

/-- A destination as a credit of desk `k` leaves it (R132). -/
def State.refunded (s : State) (k desk : Nat) (x : Dest) : Dest :=
  if s.refunds k desk x then { x with state := .pending } else x

/-- The jobs of a credit pass: all destinations of the job as the credit leaves them (R132). -/
def State.jobRefunded (s : State) (k : Nat) (r : Job) : Job := r.mapDests (s.refunded k r.desk)

/-- One destination of a credit pass (R132). -/
def State.refundDest (s : State) (k j d : Nat) : State :=
  match s.job j, s.dest j d with
  | some r, some x => if s.refunds k r.desk x then (s.setDest j d { x with state := .pending }).report .evaluate else s
  | _, _ => s

/-- One job of a credit pass (R132). -/
def State.refundJob (s : State) (k j : Nat) : State :=
  (List.range Config.destinations).foldl (fun s d => s.refundDest k j d) s

theorem jobFundsChanged_eq (s : State) (k : Nat) :
    s.jobFundsChanged k = s.dsp.order.foldl (fun s j => s.refundJob k j) s := rfl

section Refunded

variable (s : State) (k : Nat)

theorem refunded_refunded (desk : Nat) (x : Dest) : s.refunded k desk (s.refunded k desk x) = s.refunded k desk x := by
  by_cases h : s.refunds k desk x = true
  · have pending : s.refunds k desk { x with state := .pending } = false := rfl
    rw [State.refunded, State.refunded, if_pos h, pending]
    rfl
  · have stays : s.refunded k desk x = x := if_neg h
    rw [stays, stays]

theorem jobRefunded_jobRefunded (r : Job) : s.jobRefunded k (s.jobRefunded k r) = s.jobRefunded k r := by
  have twice : s.refunded k r.desk ∘ s.refunded k r.desk = s.refunded k r.desk := funext (refunded_refunded s k r.desk)
  have dests : (r.dests.map (s.refunded k r.desk)).map (s.refunded k r.desk) = r.dests.map (s.refunded k r.desk) := by
    rw [List.map_map, twice]
  exact congrArg (fun q => { r with dests := q }) dests

end Refunded

/-! ## The pass -/

/-- From `s` to `t` jobs have been changed, and evaluations alone reported. -/
structure Refunds (s t : State) : Prop where
  frame : t = { s with dsp := { s.dsp with jobs := t.dsp.jobs }, reports := t.reports }
  reports : ∀ q ∈ t.reports, q ∈ s.reports ∨ q = .evaluate

namespace Refunds

variable {s t u : State}

theorem refl (s : State) : Refunds s s := ⟨rfl, fun _ => .inl⟩

theorem trans (h : Refunds s t) (k : Refunds t u) : Refunds s u := by
  refine ⟨?_, fun q hq => (k.reports q hq).elim (h.reports q) .inr⟩
  have frame := h.frame
  rw [k.frame, frame]

theorem refunded (h : Refunds s t) (k desk : Nat) : t.refunded k desk = s.refunded k desk := by
  rw [h.frame]
  rfl

theorem setJob (s : State) (j : Nat) (r : Job) : Refunds s ((s.setJob j (some r)).report .evaluate) :=
  ⟨rfl, fun _ hq => (List.mem_append.1 hq).imp id List.mem_singleton.1⟩

end Refunds

theorem withDest_of_get {r : Job} {d : Nat} {x : Dest} (hx : r.dests[d]? = some x) : r.withDest d x = r := by
  obtain ⟨h, rfl⟩ := List.getElem?_eq_some_iff.1 hx
  rw [Job.withDest, List.set_getElem_self]

theorem refundDest_eq {s : State} {k j d : Nat} {r : Job} {x : Dest} (hj : s.job j = some r) (hx : r.dests[d]? = some x) :
    Refunds s (s.refundDest k j d) ∧ (s.refundDest k j d).job j = some (r.withDest d (s.refunded k r.desk x)) ∧
      ∀ i, i ≠ j → (s.refundDest k j d).job i = s.job i := by
  rw [State.refundDest, hj, dest_of_job hj, hx, State.refunded]
  dsimp only
  split
  · rw [setDest_eq hj]
    exact ⟨.setJob .., job_setJob_self _ _ _ (job_lt hj), fun i hi => job_setJob_ne _ _ hi⟩
  · refine ⟨.refl s, ?_, fun _ _ => rfl⟩
    rw [hj, withDest_of_get hx]

theorem refundDest_none {s : State} {k j d : Nat} (h : s.dest j d = none) : s.refundDest k j d = s := by
  rw [State.refundDest, h]
  split
  · next e => cases e
  · rfl

/-- A job of the pass is left as the credit leaves it, and no other job changed (R132). -/
theorem refundJob_refunds (s : State) (k j : Nat) (short : ∀ r, s.job j = some r → r.dests.length ≤ 16) :
    Refunds s (s.refundJob k j) ∧ (s.refundJob k j).job j = (s.job j).map (s.jobRefunded k) ∧
      ∀ i, i ≠ j → (s.refundJob k j).job i = s.job i := by
  unfold State.refundJob
  match hj : s.job j with
  | none =>
    refine foldl_range_induction (P := fun _ t => Refunds s t ∧ t.job j = none ∧ ∀ i, i ≠ j → t.job i = s.job i) _
      ⟨.refl s, hj, fun _ _ => rfl⟩ fun d t ⟨goes, job, jobs⟩ => ?_
    rw [refundDest_none (by rw [State.dest, job]; rfl)]
    exact ⟨goes, job, jobs⟩
  | some r =>
    let f := s.refunded k r.desk
    have pass := foldl_range_induction (P := fun d t => Refunds s t ∧ t.job j = some (r.upTo f d) ∧ ∀ i, i ≠ j → t.job i = s.job i)
      (f := fun s d => s.refundDest k j d) Config.destinations ⟨.refl s, hj, fun _ _ => rfl⟩ fun d t ⟨goes, job, jobs⟩ => by
        have next : (r.upTo f d).dests[d]? = r.dests[d]? := upTo_next r f
        match hx : r.dests[d]? with
        | none =>
          rw [refundDest_none (by rw [dest_of_job job, next, hx]), upTo_beyond r f hx]
          exact ⟨goes, job, jobs⟩
        | some x =>
          obtain ⟨goes', job', jobs'⟩ := refundDest_eq (k := k) job (next.trans hx)
          rw [goes.refunded, show (r.upTo f d).desk = r.desk from rfl, upTo_succ r f hx] at job'
          exact ⟨goes.trans goes', job', fun i hi => (jobs' i hi).trans (jobs i hi)⟩
    obtain ⟨goes, job, jobs⟩ := pass
    exact ⟨goes, job.trans (congrArg some (upTo_all r f (short r hj))), jobs⟩

theorem jobRefunded_congr {s t : State} (h : Refunds s t) (k : Nat) (r : Job) : t.jobRefunded k r = s.jobRefunded k r := by
  rw [State.jobRefunded, h.refunded]
  rfl

/-- The pass over a list of jobs (R132). -/
theorem refundJobs_refunds (s : State) (k : Nat) (js : List Nat)
    (short : ∀ j ∈ js, ∀ r, s.job j = some r → r.dests.length ≤ 16) :
    let t := js.foldl (fun s j => s.refundJob k j) s
    Refunds s t ∧ (∀ j ∈ js, t.job j = (s.job j).map (s.jobRefunded k)) ∧ ∀ i, i ∉ js → t.job i = s.job i := by
  induction js generalizing s with
  | nil => exact ⟨.refl s, nofun, fun _ _ => rfl⟩
  | cons j js ih =>
    obtain ⟨first, job, jobs⟩ := refundJob_refunds s k j (short j List.mem_cons_self)
    have known (i : Nat) : (s.refundJob k j).job i = s.job i ∨ (s.refundJob k j).job i = (s.job i).map (s.jobRefunded k) := by
      by_cases e : i = j
      · exact .inr (by rw [e, job])
      · exact .inl (jobs i e)
    obtain ⟨rest, done, others⟩ := ih (s.refundJob k j) fun i hi r hr => by
      rcases known i with same | refunded
      · exact short i (List.mem_cons_of_mem j hi) r (same ▸ hr)
      · obtain ⟨q, hq, rfl⟩ := Option.map_eq_some_iff.1 (refunded ▸ hr)
        exact (List.length_map ..).trans_le (short i (List.mem_cons_of_mem j hi) q hq)
    have same (r : Job) : (s.refundJob k j).jobRefunded k r = s.jobRefunded k r := jobRefunded_congr first k r
    refine ⟨first.trans rest, fun i hi => ?_, fun i hi => ?_⟩
    · by_cases later : i ∈ js
      · rw [List.foldl_cons, done i later, show (s.refundJob k j).jobRefunded k = s.jobRefunded k from funext same]
        rcases known i with same | refunded
        · rw [same]
        · rw [refunded, Option.map_map]
          exact congrArg (fun g => (s.job i).map g) (funext (jobRefunded_jobRefunded s k))
      · have first : i = j := (List.mem_cons.1 hi).resolve_right later
        rw [List.foldl_cons, others i later, first, job]
    · obtain ⟨ne, later⟩ := not_or.1 (mt List.mem_cons.2 hi)
      rw [List.foldl_cons, others i later, jobs i ne]

/-! ## DESK_CREDIT (R132, R166) -/

theorem creditDesk_credits {s : State} {k : Nat} {amount : Int} (tag : Nat) (hk : k < 16)
    (low : -(s.desk k).margin ≤ (s.desk k).balance + amount) (high : (s.desk k).balance + amount ≤ 2147483647) :
    let b := (s.desk k).balance + amount
    s.creditDesk tag { desk := k, amount := amount } =
      ((s.updDesk k fun d => { d with balance := b, credits := d.credits + amount }).reply tag 25 .ok 0 (.balance b)).report
        (.fundsChanged k) := by
  refine if_neg ?_
  rintro (out | less | more)
  · exact Nat.not_lt.2 out hk
  · exact absurd low (Int.not_le.2 less)
  · exact absurd high (Int.not_le.2 more)

theorem updDesk_poolOf (s : State) {k : Nat} (f : Desk → Desk) (hk : k < 16) (hf : ∀ d, (f d).poolOf = d.poolOf) (desk : Nat) :
    ((s.updDesk k f).desk desk).poolOf = (s.desk desk).poolOf := by
  by_cases e : k = desk
  · rw [← e, desk_updDesk_self _ _ _ hk, hf]
  · rw [desk_updDesk_ne _ _ _ _ e]

theorem creditReturnsDestinations : Claims.CreditReturnsDestinations := by
  intro s tag k amount h hk shut low high short u
  let b := (s.desk k).balance + amount
  let v := s.heeded.updDesk k fun d => { d with balance := b, credits := d.credits + amount }
  have chg : v.chg = u.chg := rfl
  have credits : s.heeded.creditDesk tag { desk := k, amount := amount } = (v.reply tag 25 .ok 0 (.balance b)).report
    (.fundsChanged k) := creditDesk_credits (s := s.heeded) tag hk low high
  have answers : Answered s (v.reply tag 25 .ok 0 (.balance b)) (s.replyNow tag 25 .ok 0 (.balance b)) :=
    reply_answers (u := v) rfl ..
  obtain ⟨owed, -, -⟩ := reply_notices v tag 25 .ok 0 (.balance b)
  obtain ⟨l, hl⟩ : ∃ l, v.reply tag 25 .ok 0 (.balance b) = { v with bli := l } := ⟨_, reply_frame ..⟩
  rw [hl] at credits answers owed
  let w : State := { v with bli := l }
  obtain ⟨goes, done, others⟩ := refundJobs_refunds w k s.dsp.order fun j hj r hr => (short j hj r hr).2
  let t := s.dsp.order.foldl (fun s j => s.refundJob k j) w
  have frame : t = { w with dsp := { w.dsp with jobs := t.dsp.jobs }, reports := t.reports } := goes.frame
  have asks : t.owesNothing := by
    intro q hq
    refine .inl ⟨(goes.reports q hq).resolve_left (List.not_mem_nil), ?_⟩
    rw [frame]
    exact shut
  have handled : (w.report (.fundsChanged k)).quieted.handle (.fundsChanged k) = t := jobFundsChanged_eq w k
  have ends : NothingButChoice t (w.report (.fundsChanged k)).finish := by
    rw [← handled]
    exact finish_handled (r := .fundsChanged k) rfl (by rw [handled]; exact asks)
  have bli : t.bli = w.bli := by rw [frame]
  refine ⟨_, commandArgs_gives (tag := tag) (code := 25) (f := fun x s => s.creditDesk tag x) h credits, ?_, ?_,
    fun i hi r hr => ?_, fun i hi => ?_, ?_, ?_⟩
  · rw [ends.chg, frame]
    exact chg
  · rw [ends.dsp, frame]
    rfl
  · have is (x : Dest) : w.refunded k r.desk x = if x.state = .waitFunds ∧ (r.desk = k ∨ (s.desk r.desk).poolOf = some k) ∧
        u.fundsTest r.desk x.dial = true then { x with state := .pending } else x := by
      have pool : (w.desk r.desk).poolOf = (s.desk r.desk).poolOf := 
        updDesk_poolOf s.heeded (fun d => { d with balance := b, credits := d.credits + amount }) hk (fun _ => rfl) r.desk
      have funds : w.fundsTest r.desk x.dial = u.fundsTest r.desk x.dial := rfl
      simp only [State.refunded, State.refunds, pool, funds, Bool.and_eq_true, Bool.or_eq_true, beq_iff_eq, and_assoc]
    have left : t.job i = some (w.jobRefunded k r) := by
      rw [done i hi, show w.job i = some r from hr]
      rfl
    rw [ends.job, left, State.jobRefunded, Job.mapDests, show w.refunded k r.desk = _ from funext is]
  · exact (ends.job i).trans (others i hi)
  · exact ends.noticesOwed.trans ((noticesOwed_congr bli).trans owed)
  · exact (answers.raisesOnly (by rw [RaisesOnly, bli])).choice ends

end Sys2Proof.Machine
end

section
/-!
PROOFS. A document closed empty fails its job (O54, R124, R134): the pass over the job's destinations fails those that wait, each
with its DEST_RESULT, and the job completes behind it.
-/

namespace Sys2Proof.Machine

set_option Elab.async false

/-! ## The pass over the waiting destinations (R124) -/

/-- A destination of a job that fails for a reason: a waiting one is FAILED (R124). -/
def Dest.failed (reason : LastReason) (x : Dest) : Dest :=
  if x.state.waits then { x with state := .failed, due := none, timer := false, last := some reason } else x

/-- The DEST_RESULT of destination `d` of job `r`, at place `j`, where the job's failure raises one (R124, R131). -/
def Job.failure (r : Job) (j : Nat) (reason : LastReason) (now : Stamp) (d : Nat) : Option Notice :=
  (r.dests[d]?).bind fun x =>
    if x.state.waits then
      some { tag := 0, time := now
             body := .destResult j r.tag d .failed x.attempts x.calls x.confirmed none (some reason) none }
    else none

/-- One destination of a job that fails (R124). -/
def State.failDest (s : State) (j : Nat) (reason : LastReason) (d : Nat) : State :=
  match s.dest j d with
  | some x =>
    if x.state.waits then
      (s.setDest j d { x with state := .failed, due := none, timer := false, last := some reason }).destResult j d none
    else s
  | none => s

theorem failWaiting_eq (s : State) (j : Nat) (reason : LastReason) :
    s.failWaiting j reason = (List.range Config.destinations).foldl (fun s d => s.failDest j reason d) s := rfl

theorem failed_kept (reason : LastReason) (x : Dest) : (x.failed reason).attempts = x.attempts ∧
    (x.failed reason).calls = x.calls ∧ (x.failed reason).confirmed = x.confirmed := by
  rw [Dest.failed]
  split <;> exact ⟨rfl, rfl, rfl⟩

theorem failed_terminal (reason : LastReason) {x : Dest} (h : x.state ≠ .inCall) : (x.failed reason).state.terminal = true := by
  rw [Dest.failed]
  cases e : x.state <;> simp [e, DestState.waits, DestState.terminal] at h ⊢

/-- What the failure of the first `k` destinations of job `r`, at place `j`, leaves from `s` (R124, R131). -/
structure Failing (s : State) (j : Nat) (r : Job) (reason : LastReason) (k : Nat) (t : State) : Prop where
  frame : t = { s with dsp := { s.dsp with jobs := t.dsp.jobs }, bli := t.bli }
  link : RaisesOnly s t
  job : t.job j = some (r.upTo (Dest.failed reason) k)
  jobs : ∀ i, i ≠ j → t.job i = s.job i
  flag : ∀ (i : Nat) (x : Dest), i < k → r.dests[i]? = some x → x.state.waits = true → t.flagged .destResult = true
  notices : ∀ m, s.bli.enabled .destResult = true → s.bli.notices.length + k + m ≤ 32 →
    t.noticesOwed = s.noticesOwed ++ (List.range k).filterMap (r.failure j reason s.now) ∧ t.bli.notices.length + m ≤ 32

section Fails

variable {s : State} {j : Nat} {r : Job} {reason : LastReason}

theorem Failing.enabled {k : Nat} {t : State} (h : Failing s j r reason k t) (q : NoticeKind) :
    t.bli.enabled q = s.bli.enabled q := by
  rw [h.link]
  rfl

/-- A destination that does not wait is passed by. -/
theorem Failing.passes {k : Nat} {t : State} (h : Failing s j r reason k t)
    (job : r.upTo (Dest.failed reason) (k + 1) = r.upTo (Dest.failed reason) k) (none : r.failure j reason s.now k = none)
    (still : ∀ x, r.dests[k]? = some x → x.state.waits = false) : Failing s j r reason (k + 1) t := by
  refine { h with job := h.job.trans (by rw [job]), flag := fun i x hi hx waits => ?_, notices := fun m on room => ?_ }
  · refine h.flag i x (Nat.lt_of_le_of_ne (Nat.le_of_lt_succ hi) ?_) hx waits
    rintro rfl
    exact absurd waits (by rw [still x hx]; nofun)
  · obtain ⟨owed, few⟩ := h.notices (m + 1) on (by omega)
    refine ⟨?_, by omega⟩
    rw [owed, List.range_succ, List.filterMap_append, List.filterMap_cons_none none, List.filterMap_nil, List.append_nil]

/-- A waiting destination is left FAILED with its DEST_RESULT. -/
theorem Failing.fails {k : Nat} {t : State} {x : Dest} (h : Failing s j r reason k t) (hx : r.dests[k]? = some x)
    (waits : x.state.waits = true) :
    Failing s j r reason (k + 1) (t.destLeft j k (r.upTo (Dest.failed reason) k) (x.failed reason) none) := by
  let y := x.failed reason
  have failed : y = { x with state := .failed, due := none, timer := false, last := some reason } := if_pos waits
  let u := t.destLeft j k (r.upTo (Dest.failed reason) k) y none
  let q := t.setJob j (some ((r.upTo (Dest.failed reason) k).withDest k y))
  have frame : u = { t with dsp := q.dsp, bli := u.bli } := destLeft_frame y none
  have link : RaisesOnly t u := raise_raisesOnly (t.setJob j _) _ 0
  have rest : ({ t with dsp := q.dsp, bli := u.bli } : State) = { s with dsp := q.dsp, bli := u.bli } :=
    congrArg (fun v : State => { v with dsp := q.dsp, bli := u.bli }) h.frame
  have jobsOnly : q.dsp = { s.dsp with jobs := q.dsp.jobs } :=
    congrArg (fun v : State => { v.dsp with jobs := q.dsp.jobs }) h.frame
  have dsp : u.dsp = q.dsp := (congrArg State.dsp frame).trans rfl
  refine ⟨?_, h.link.trans link, ?_, fun i hi => ?_, fun _ _ _ _ _ => flagged_raise _ ((r.upTo _ k).result j k y none) 0,
    fun m on room => ?_⟩
  · rw [dsp]
    exact frame.trans (rest.trans (congrArg (fun d => { s with dsp := d, bli := u.bli }) jobsOnly))
  · rw [destLeft_job h.job, upTo_succ r _ hx]
  · exact (congrArg (fun q : State => q.job i) frame).trans ((job_setJob_ne _ _ hi).trans (h.jobs i hi))
  · obtain ⟨owed, few⟩ := h.notices (m + 1) on (by omega)
    obtain ⟨more, left⟩ := destLeft_notices (s := t) (j := j) (d := k) (r := r.upTo (Dest.failed reason) k) y none (n := m)
      ((h.enabled _).trans on) (by omega)
    refine ⟨?_, left⟩
    have raised : r.failure j reason s.now k =
        some { tag := 0, body := (r.upTo (Dest.failed reason) k).result j k y none, time := t.now } := by
      rw [Job.failure, hx, failed, ((congrArg State.now h.frame).trans rfl : t.now = s.now)]
      exact if_pos waits
    rw [more, owed, List.range_succ, List.filterMap_append, List.filterMap_cons_some raised, List.filterMap_nil,
      List.append_assoc]

theorem failDest_failing {k : Nat} {t : State} (h : Failing s j r reason k t) :
    Failing s j r reason (k + 1) (t.failDest j reason k) := by
  have next : (r.upTo (Dest.failed reason) k).dests[k]? = r.dests[k]? := upTo_next r _
  match hx : r.dests[k]? with
  | none =>
    have stands : t.failDest j reason k = t := by rw [State.failDest, dest_of_job h.job, next, hx]
    rw [stands]
    exact h.passes (upTo_beyond r _ hx) (by rw [Job.failure, hx]; rfl) fun x e => nomatch hx.symm.trans e
  | some x =>
    by_cases waits : x.state.waits = true
    · have fails : t.failDest j reason k = t.destLeft j k (r.upTo (Dest.failed reason) k) (x.failed reason) none := by
        rw [State.failDest, dest_of_job h.job, next, hx]
        refine (if_pos waits).trans ((setDest_destResult h.job (next.trans hx) _ none).trans ?_)
        rw [Dest.failed, if_pos waits]
      rw [fails]
      exact h.fails hx waits
    · have stands : t.failDest j reason k = t := by
        rw [State.failDest, dest_of_job h.job, next, hx]
        exact if_neg waits
      have same : x.failed reason = x := if_neg waits
      have job : r.upTo (Dest.failed reason) (k + 1) = r.upTo (Dest.failed reason) k := by
        rw [← upTo_succ r _ hx, same, withDest_of_get (next.trans hx)]
      rw [stands]
      exact h.passes job (by rw [Job.failure, hx]; exact if_neg waits) fun y e => by
        cases hx.symm.trans e
        exact Bool.eq_false_of_not_eq_true waits

theorem failWaiting_failing (hj : s.job j = some r) : Failing s j r reason Config.destinations (s.failWaiting j reason) := by
  rw [failWaiting_eq]
  refine foldl_range_induction (P := Failing s j r reason) _ ?_ fun _ _ => failDest_failing
  refine ⟨rfl, rfl, hj, fun _ _ => rfl, fun _ _ hi => absurd hi (Nat.not_lt_zero _), fun m _ room => ⟨?_, room⟩⟩
  exact (List.append_nil _).symm

/-- Beyond the destinations of a job no DEST_RESULT is raised. -/
theorem failures_beyond (now : Stamp) {k : Nat} (h : r.dests.length ≤ k) :
    (List.range k).filterMap (r.failure j reason now) = (List.range r.dests.length).filterMap (r.failure j reason now) := by
  obtain ⟨m, rfl⟩ := Nat.exists_eq_add_of_le h
  have none : ((List.range m).map (r.dests.length + ·)).filterMap (r.failure j reason now) = [] := by
    rw [List.filterMap_eq_nil_iff]
    intro d hd
    obtain ⟨i, -, rfl⟩ := List.mem_map.1 hd
    rw [Job.failure, List.getElem?_eq_none (Nat.le_add_right _ _)]
    rfl
  rw [List.range_add, List.filterMap_append, none, List.append_nil]

end Fails

/-! ## The document closed empty (R15, R124) -/

section Closed

variable {s : State} {d i : Nat} {r : Job}

theorem jobDocClosed_empty (order : s.dsp.order = [i]) (hj : s.job i = some r) (hd : r.document = d) :
    s.jobDocClosed d 0 = (s.failWaiting i .noPages).completeJob i true := by
  have naming : s.jobsNaming d = [i] := by
    rw [State.jobsNaming, order]
    exact List.filter_cons_of_pos (by rw [hj]; exact beq_iff_eq.2 hd)
  rw [State.jobDocClosed, naming]
  rfl

theorem printDocClosed_idle (d n : Nat) (h : s.prt.order = []) : s.printDocClosed d n = s := by
  rw [State.printDocClosed, h]
  rfl

/-- A document that is held is closed and reported (R15, R124). -/
theorem closeDoc_sendHeld (hd : d < 64) (ho : (s.doc d).state = .opened) (origin : (s.doc d).origin ≠ .received)
    (held : 0 < (s.doc d).sendHold) :
    s.closeDoc d = (s.setDoc d { s.doc d with state := .closed }).report (.docClosed d (s.doc d).pages.length) := by
  have closed := doc_setDoc_self s d { s.doc d with state := .closed } hd
  have kept : (s.setDoc d { s.doc d with state := .closed }).freeable d = false :=
    not_freeable_of_held (by rw [closed]; exact origin) (.inr (.inl (by rw [closed]; exact held)))
  unfold State.closeDoc
  dsimp only
  rw [if_pos (beq_iff_eq.2 ho), if_neg (Bool.eq_false_iff.1 kept), if_pos (.inl held)]

end Closed

/-- The end of a job whose destinations have failed for a reason, none of them being in a call (R124, R134). -/
theorem failedJob_completes {s : State} {j : Nat} {r : Job} {reason : LastReason} (hj : s.job j = some r)
    (short : r.dests.length ≤ 16) (idle : ∀ x ∈ r.dests, x.state ≠ .inCall) (free : s.freedByHolds r.document) :
    let u := s.failWaiting j reason
    Failing s j r reason 16 u ∧ JobCompleted u (u.completeJob j true) j (r.mapDests (Dest.failed reason)) := by
  intro u
  have fails : Failing s j r reason 16 u := failWaiting_failing hj
  have job : u.job j = some (r.mapDests (Dest.failed reason)) := fails.job.trans (congrArg some (upTo_all r _ short))
  refine ⟨fails, completeJob_completes job (List.all_eq_true.2 fun y hy => ?_) ?_⟩
  · obtain ⟨x, hx, rfl⟩ := List.mem_map.1 hy
    exact failed_terminal reason (idle x hx)
  · have pmm : u.pmm = s.pmm := (congrArg State.pmm fails.frame).trans rfl
    simpa only [Job.mapDests, State.freedByHolds, State.doc, State.page, pmm] using free

theorem emptyDocumentFailsItsJob : Claims.EmptyDocumentFailsItsJob := by
  intro s tag d i j h hd opened unfilled empty origin held scans prints order hj hdoc short ⟨x, hx, waits⟩ idle
  subst hdoc
  let d := j.document
  let v := s.heeded.setDoc d { s.doc d with state := .closed }
  have closes : s.heeded.closeByBoard tag d = (v.report (.docClosed d 0)).reply tag 3 .ok := by
    have unrefused : s.heeded.docRefusal d = none := docRefusal_none hd (by rw [show s.heeded.doc d = s.doc d from rfl, opened]; nofun)
    rw [closeByBoard_unfilled (s := s.heeded) tag unrefused opened unfilled,
      closeDoc_sendHeld (s := s.heeded) hd opened origin held, show s.heeded.doc d = s.doc d from rfl, empty]
    rfl
  have answers : Answered s ((v.report (.docClosed d 0)).reply tag 3 .ok) (s.replyNow tag 3 .ok) :=
    reply_answers (u := v.report (.docClosed d 0)) rfl ..
  obtain ⟨sOwed, sNotices, sMask⟩ := reply_notices (v.report (.docClosed d 0)) tag 3 .ok 0 .none
  obtain ⟨l, hl⟩ : ∃ l, (v.report (.docClosed d 0)).reply tag 3 .ok = { v.report (.docClosed d 0) with bli := l } :=
    ⟨_, reply_frame ..⟩
  rw [hl] at closes answers sOwed sNotices sMask
  let a : State := { v.report (.docClosed d 0) with bli := l }
  let q := a.quieted
  have doc : q.doc d = { s.doc d with state := .closed } := doc_setDoc_self s d _ hd
  have free : q.freedByHolds d := .inl (by rw [doc]; exact origin)
  obtain ⟨fails, done⟩ := failedJob_completes (s := q) (reason := .noPages) hj short idle free
  let u := q.failWaiting i .noPages
  let t := u.completeJob i true
  have frame := fails.frame
  have handles : q.handle (.docClosed d 0) = t := by
    have jobs : q.jobDocClosed d 0 = t := jobDocClosed_empty (s := q) order hj rfl
    have prt : t.prt.order = [] := by
      rw [show t.prt = u.prt from (congrArg State.prt done.frame).trans rfl,
        show u.prt = s.prt from (congrArg State.prt frame).trans rfl, prints]
    exact (congrArg (fun w : State => w.printDocClosed d 0) jobs).trans (printDocClosed_idle d 0 prt)
  have quiet : u.reports = [] := (congrArg State.reports frame).trans rfl
  have pmm : u.pmm = q.pmm := (congrArg State.pmm frame).trans rfl
  have asks : t.owesNothing := done.owesNothing (by rw [State.owesNothing, quiet]; nofun) (by rw [pmm]; exact scans)
  have ends : NothingButChoice t a.finish := by
    rw [← handles]
    exact finish_handled (s := a) (r := .docClosed d 0) rfl (by rw [handles]; exact asks)
  have link : RaisesOnly q t := fails.link.trans (by rw [RaisesOnly, done.link]; exact raise_raisesOnly ..)
  obtain ⟨k, hk⟩ := List.mem_iff_getElem?.1 hx
  have within : k < 16 := (List.getElem?_eq_some_iff.1 hk).1.trans_le short
  refine ⟨_, commandArgs_gives (tag := tag) (code := 3) (f := fun d s => s.closeByBoard tag d) h closes,
    (ends.job i).trans done.job, ?_, ?_, ?_, (ends.flagged _).trans done.flagged, ?_, fun results dones room => ?_⟩
  · rw [ends.dsp, done.order, show u.dsp.order = s.dsp.order from (congrArg (·.dsp.order) frame).trans rfl, order]
    simp
  · have last : u.doc d = { s.doc d with state := .closed } := by
      rw [← doc, State.doc, pmm]
      rfl
    exact (ends.doc d).trans (done.doc.trans (congrArg DocRec.sendHoldLowered last))
  · refine (ends.flagged _).trans ((flagged_congr done.link _).trans (flagged_raise_of_flagged _ 0 ?_))
    exact fails.flag k x within hk waits
  · exact (answers.raisesOnly link).choice ends
  · have on (n : NoticeKind) : q.bli.enabled n = s.bli.enabled n := by
      rw [Bli.enabled, show q.bli.mask = s.bli.mask from sMask]
      rfl
    have few : q.bli.notices.length + 16 + 1 ≤ 32 := by
      rw [show q.bli.notices = s.bli.notices from sNotices]
      exact room
    obtain ⟨owed, left⟩ := fails.notices 1 ((on _).trans results) few
    rw [ends.noticesOwed, done.noticesOwed ((fails.enabled _).trans ((on _).trans dones)) left, owed,
      failures_beyond _ short, show q.noticesOwed = s.noticesOwed from sOwed, doneNotice_mapDests _ (failed_kept _),
      show u.now = s.now from (congrArg State.now frame).trans rfl]
    rfl

/-- Settles O54: the outcome is taken in one state, whoever releases the call; credits and failures are passes over the jobs. -/
theorem outcomesSettleDestinations : Obligations.OutcomesSettleDestinations :=
  ⟨destinationsSettleByR128, releasedCallsSettleDestinations, lineFaultReturnsTheDestination, creditReturnsDestinations,
    emptyDocumentFailsItsJob⟩

end Sys2Proof.Machine
end

section
/-!
PROOFS. The print unit's shared facts: what the end of an event leaves of it, its entries read after a write, print readers,
the arbiter's choice, and the start of a page (R10, R149, R154 to R156).
-/

namespace Sys2Proof.Machine

/-! ## What the selector's choice leaves of the print unit -/

section Kept

variable {s t : State}

theorem SameButLink.prt (h : SameButLink s t) : t.prt = s.prt := by rw [h.1]
theorem SameButLink.doc (h : SameButLink s t) (d : Nat) : t.doc d = s.doc d := by rw [h.1]; rfl
theorem SameButLink.page (h : SameButLink s t) (p : Nat) : t.page p = s.page p := by rw [h.1]; rfl
theorem NothingButChoice.prt (h : NothingButChoice s t) : t.prt = s.prt := h.same.prt

theorem entry_congr (h : t.prt = s.prt) (e : Nat) : t.entry e = s.entry e := by rw [State.entry, h]; rfl

theorem waitingEntries_congr (h : t.prt = s.prt) : t.waitingEntries = s.waitingEntries := by
  unfold State.waitingEntries State.entry
  rw [h]

theorem arbiterPick_congr (h : t.prt = s.prt) : t.arbiterPick = s.arbiterPick := by
  rw [State.arbiterPick, State.arbiterPick, waitingEntries_congr h]

/-- Reports owed after an event are worked off already in what the choice leaves. -/
theorem NothingButChoice.of_quieted (h : NothingButChoice s.quieted t) : NothingButChoice s t := h

end Kept

/-! ## The end of an event -/

/-- One report worked off, after which the handlers of what is owed leave the state as it is. -/
theorem finish_of_handled {s : State} {r : Report} (hr : s.reports = [r])
    (idle : ∀ q ∈ (s.quieted.handle r).reports, ∀ rs,
      { s.quieted.handle r with reports := rs }.handle q = { s.quieted.handle r with reports := rs }) :
    s.finish = (s.quieted.handle r).quieted.finish := by
  have first : drain drainBound s = drain 99999 (s.quieted.handle r) := by
    rw [drainBound, drain, hr]
    rfl
  have clears (rs : List Report) :
      { s.quieted.handle r with reports := rs }.select.quieted = (s.quieted.handle r).select.quieted := by
    rw [select_setReports]
    rfl
  rw [State.finish, first, drain_idle _ idle, finish_of_quiet (s.quieted.handle r).quieted rfl]
  exact (clears _).trans (clears []).symm

/-- The reports owed ask nothing of the print unit or the scan unit: freed memory while no scan request is pending (R18), and
a choice while the engine is busy or no entry waits (R155). -/
def State.asksNoPrint (s : State) : Prop :=
  ∀ r ∈ s.reports, r = .memoryFreed ∧ s.pmm.pendingScan = none ∨
    r = .arbiter ∧ (s.prt.engine ≠ .idle ∨ s.waitingEntries = [])

theorem arbiterChoice_busy {s : State} (h : s.prt.engine ≠ .idle) : s.arbiterChoice = s := by simp [State.arbiterChoice, h]

theorem arbiterChoice_none {s : State} (h : s.waitingEntries = []) : s.arbiterChoice = s := by
  simp [State.arbiterChoice, State.arbiterPick, h]

theorem arbiterChoice_starts {s : State} {e : Nat} (h : s.prt.engine = .idle) (he : s.arbiterPick = some e) :
    s.arbiterChoice = s.startPage e := by
  simp [State.arbiterChoice, h, he]

namespace State.asksNoPrint

variable {s : State}

theorem idle (h : s.asksNoPrint) :
    ∀ r ∈ s.reports, ∀ rs, { s with reports := rs }.handle r = { s with reports := rs } := by
  intro r hr rs
  rcases h r hr with ⟨rfl, none⟩ | ⟨rfl, busy | none⟩
  · exact retryScan_of_none (s := { s with reports := rs }) none
  · exact arbiterChoice_busy (s := { s with reports := rs }) busy
  · exact arbiterChoice_none (s := { s with reports := rs }) none

theorem finish (h : s.asksNoPrint) : NothingButChoice s s.finish := by
  rw [finish_idle h.idle]
  exact (finish_nothingButChoice s.quieted rfl).of_quieted

end State.asksNoPrint

/-- An event that owes a choice alone ends with the choice, which owes nothing here (R155). -/
theorem finish_arbiter {s u : State} (hr : s.reports = [.arbiter]) (hu : s.quieted.arbiterChoice = u) (quiet : u.reports = []) :
    NothingButChoice u s.finish := by
  subst hu
  rw [finish_of_handled hr (show ∀ q ∈ s.quieted.arbiterChoice.reports, _ by rw [quiet]; nofun)]
  exact (finish_nothingButChoice s.quieted.arbiterChoice.quieted rfl).of_quieted

/-! ## Entries (R149) -/

theorem entry_lt {s : State} {e : Nat} {r : Entry} (h : s.entry e = some r) : e < 32 := by
  by_contra out
  rw [State.entry, tget, dif_neg out] at h
  cases h

theorem setEntry_setEntry (s : State) (e : Nat) (r q : Option Entry) : (s.setEntry e r).setEntry e q = s.setEntry e q := by
  simp only [State.setEntry, tset_tset]

theorem setEntry_of_entry {s : State} {e : Nat} {r : Entry} (h : s.entry e = some r) : s.setEntry e (some r) = s := by
  have stands : tset s.prt.entries e (some r) = s.prt.entries := by
    rw [← h, State.entry, tset, tget]
    simp [entry_lt h]
  rw [State.setEntry, stands]

theorem updEntry_eq {s : State} {e : Nat} {r : Entry} (f : Entry → Entry) (h : s.entry e = some r) :
    s.updEntry e f = s.setEntry e (some (f r)) := by
  rw [State.updEntry, h]
  rfl

theorem mem_waitingEntries {s : State} {e : Nat} {r : Entry} :
    (e, r) ∈ s.waitingEntries ↔ e ∈ s.prt.order ∧ s.entry e = some r ∧ r.state = .waiting := by
  rw [State.waitingEntries, List.mem_filterMap]
  constructor
  · rintro ⟨f, hf, hr⟩
    split at hr
    · next q hq =>
      split at hr
      · next waits =>
        cases hr
        exact ⟨hf, hq, beq_iff_eq.1 waits⟩
      · cases hr
    · cases hr
  · rintro ⟨he, hr, waits⟩
    refine ⟨e, he, ?_⟩
    rw [hr]
    exact if_pos (beq_iff_eq.2 waits)

/-- Entries of one queue order, of which those that wait in `t` waited in `s`, give `t` no entry waiting that `s` has not. -/
theorem waitingEntries_subset {s t : State} (order : ∀ e ∈ t.prt.order, e ∈ s.prt.order)
    (still : ∀ e r, t.entry e = some r → r.state = .waiting → s.entry e = some r) : t.waitingEntries ⊆ s.waitingEntries := by
  rintro ⟨e, r⟩ h
  obtain ⟨he, hr, waits⟩ := mem_waitingEntries.1 h
  exact mem_waitingEntries.2 ⟨order e he, still e r hr waits, waits⟩

/-- One entry's record written with a state that does not wait. -/
theorem waitingEntries_setEntry_subset {s t : State} {e : Nat} {q : Option Entry} (h32 : e < 32)
    (entries : t.prt.entries = tset s.prt.entries e q) (order : ∀ f ∈ t.prt.order, f ∈ s.prt.order)
    (still : ∀ r ∈ q, r.state ≠ .waiting) : t.waitingEntries ⊆ s.waitingEntries := by
  have entry (f : Nat) : t.entry f = (s.setEntry e q).entry f := by rw [State.entry, entries]; rfl
  refine waitingEntries_subset order fun f r hr waits => ?_
  rw [entry] at hr
  by_cases he : f = e
  · subst he
    rw [entry_setEntry_self s f q h32] at hr
    exact absurd waits (still r hr)
  · rwa [entry_setEntry_ne s e f q he] at hr

/-! ## The arbiter's choice (R155) -/

section MoreUrgent

variable {x a : Nat × Entry}

/-- The entry taken is the first of those with the lowest priority number. -/
theorem foldl_moreUrgent_spec (x : Nat × Entry) (l : List (Nat × Entry)) :
    ∃ before after, x :: l = before ++ l.foldl moreUrgent x :: after ∧
      (∀ q ∈ before, (l.foldl moreUrgent x).2.priority < q.2.priority) ∧
      ∀ q ∈ after, (l.foldl moreUrgent x).2.priority ≤ q.2.priority := by
  induction l generalizing x with
  | nil => exact ⟨[], [], rfl, nofun, nofun⟩
  | cons y l ih =>
    obtain ⟨before, after, split, less, rest⟩ := ih (moreUrgent x y)
    rw [List.foldl_cons]
    generalize l.foldl moreUrgent (moreUrgent x y) = m at *
    by_cases urgent : y.2.priority < x.2.priority
    · rw [moreUrgent, if_pos urgent] at split
      have least : m.2.priority ≤ y.2.priority := by
        cases before with
        | nil => cases split; exact le_rfl
        | cons z before => cases split; exact (less _ List.mem_cons_self).le
      refine ⟨x :: before, after, by rw [split, List.cons_append], fun q hq => ?_, rest⟩
      rcases List.mem_cons.1 hq with rfl | hq
      exacts [least.trans_lt urgent, less q hq]
    · rw [moreUrgent, if_neg urgent] at split
      cases before with
      | nil =>
        cases split
        refine ⟨[], y :: l, rfl, nofun, fun q hq => ?_⟩
        rcases List.mem_cons.1 hq with rfl | hq
        exacts [Nat.le_of_not_lt urgent, rest q hq]
      | cons z before =>
        cases split
        refine ⟨x :: y :: before, after, rfl, fun q hq => ?_, rest⟩
        have first := less x List.mem_cons_self
        rcases List.mem_cons.1 hq with rfl | hq
        · exact first
        rcases List.mem_cons.1 hq with rfl | hq
        · exact first.trans_le (Nat.le_of_not_lt urgent)
        · exact less q (List.mem_cons_of_mem _ hq)

theorem foldl_moreUrgent_mem (x : Nat × Entry) (l : List (Nat × Entry)) : l.foldl moreUrgent x ∈ x :: l := by
  obtain ⟨before, after, split, -⟩ := foldl_moreUrgent_spec x l
  rw [split]
  simp

theorem foldl_moreUrgent_of_le {l : List (Nat × Entry)} (h : ∀ q ∈ l, a.2.priority ≤ q.2.priority) :
    l.foldl moreUrgent a = a := by
  induction l with
  | nil => rfl
  | cons y l ih =>
    rw [List.forall_mem_cons] at h
    rw [List.foldl_cons, moreUrgent, if_neg (Nat.not_lt.2 h.1), ih h.2]

end MoreUrgent

theorem arbiterPick_none_iff (s : State) : s.arbiterPick = none ↔ s.waitingEntries = [] := by
  unfold State.arbiterPick
  split <;> simp_all

theorem arbiterPick_spec {s : State} {e : Nat} (h : s.arbiterPick = some e) :
    ∃ r before after, s.waitingEntries = before ++ (e, r) :: after ∧
      (∀ q ∈ before, r.priority < q.2.priority) ∧ ∀ q ∈ after, r.priority ≤ q.2.priority := by
  unfold State.arbiterPick at h
  split at h
  · cases h
  · next x l hw =>
    cases h
    obtain ⟨before, after, split, less, rest⟩ := foldl_moreUrgent_spec x l
    exact ⟨_, before, after, hw.trans split, less, rest⟩

/-- An entry before which every other that waits is less urgent, and behind which none is more urgent, is taken. -/
theorem arbiterPick_of_split {s : State} {a : Nat × Entry} {before after : List (Nat × Entry)}
    (h : s.waitingEntries = before ++ a :: after) (less : ∀ q ∈ before, a.2.priority < q.2.priority)
    (rest : ∀ q ∈ after, a.2.priority ≤ q.2.priority) : s.arbiterPick = some a.1 := by
  rw [State.arbiterPick, h]
  cases before with
  | nil => exact congrArg (some ·.1) (foldl_moreUrgent_of_le rest)
  | cons x before =>
    have first : moreUrgent (before.foldl moreUrgent x) a = a := if_pos (less _ (foldl_moreUrgent_mem x before))
    show some ((before ++ a :: after).foldl moreUrgent x).1 = some a.1
    rw [List.foldl_append, List.foldl_cons, first, foldl_moreUrgent_of_le rest]

/-- What the arbiter takes waits, and nothing that waits is more urgent (R155). -/
theorem arbiterPick_least {s : State} {e : Nat} {r : Entry} (h : s.arbiterPick = some e) (hr : s.entry e = some r) :
    (e, r) ∈ s.waitingEntries ∧ ∀ w ∈ s.waitingEntries, r.priority ≤ w.2.priority := by
  obtain ⟨q, before, after, split, less, rest⟩ := arbiterPick_spec h
  have here : (e, q) ∈ s.waitingEntries := by rw [split]; simp
  obtain ⟨-, hq, -⟩ := mem_waitingEntries.1 here
  cases hr.symm.trans hq
  refine ⟨here, fun w hw => ?_⟩
  rw [split, List.mem_append, List.mem_cons] at hw
  rcases hw with hw | rfl | hw
  exacts [(less w hw).le, le_rfl, rest w hw]

/-- Entry `e` with its number, where it waits. -/
def State.waits (s : State) (e : Nat) : Option (Nat × Entry) :=
  match s.entry e with
  | some r => if r.state == .waiting then some (e, r) else none
  | none => none

theorem waits_some {s : State} {e : Nat} {w : Nat × Entry} (h : s.waits e = some w) : w.1 = e ∧ s.entry e = some w.2 := by
  unfold State.waits at h
  split at h
  · next r hr =>
    split at h
    · cases h
      exact ⟨rfl, hr⟩
    · cases h
  · cases h

/-- An entry's record written leaves the choice while it is less urgent than the entry taken (R155). -/
theorem arbiterPick_setEntry {s t : State} {e f : Nat} {q v : Entry} (h : s.arbiterPick = some f) (hq : s.entry f = some q)
    (hne : f ≠ e) (entries : t.prt.entries = tset s.prt.entries e (some v)) (order : t.prt.order = s.prt.order)
    (urgent : q.priority < v.priority) : t.arbiterPick = some f := by
  have entry_ne {g : Nat} (hg : g ≠ e) : t.entry g = s.entry g := by
    rw [State.entry, entries, tget_tset_ne _ _ _ _ _ hg.symm]
    rfl
  have waits_ne {g : Nat} (hg : g ≠ e) : t.waits g = s.waits g := by rw [State.waits, entry_ne hg, State.waits]
  have entry_e {w : Entry} (hw : t.entry e = some w) : w = v := by
    have h32 := entry_lt hw
    rw [State.entry, entries, tget_tset_self _ _ _ _ h32] at hw
    exact (Option.some.inj hw).symm
  have written {l : List Nat} {w : Nat × Entry} (hw : w ∈ l.filterMap t.waits) : w.2 = v ∨ w ∈ l.filterMap s.waits := by
    obtain ⟨g, hg, here⟩ := List.mem_filterMap.1 hw
    by_cases he : g = e
    · exact .inl (entry_e (he ▸ (waits_some here).2))
    · exact .inr (List.mem_filterMap.2 ⟨g, hg, waits_ne he ▸ here⟩)
  obtain ⟨r, before, after, split, less, rest⟩ := arbiterPick_spec h
  obtain ⟨l, tail, horder, rfl, taken⟩ := List.filterMap_eq_append_iff.1 (show s.prt.order.filterMap s.waits = _ from split)
  obtain ⟨m, g, k, rfl, none, here, rfl⟩ := List.filterMap_eq_cons_iff.1 taken
  obtain ⟨rfl, hr⟩ := waits_some here
  obtain rfl : r = q := Option.some.inj (hr.symm.trans hq)
  have now : t.waitingEntries = (l ++ m).filterMap t.waits ++ (f, r) :: k.filterMap t.waits := by
    show t.prt.order.filterMap t.waits = _
    rw [order, horder, ← List.append_assoc, List.filterMap_append, List.filterMap_cons_some ((waits_ne hne).trans here)]
  have quiet : m.filterMap s.waits = [] := List.filterMap_eq_nil_iff.2 none
  refine arbiterPick_of_split now (fun w hw => ?_) fun w hw => ?_
  · rcases written hw with rfl | hw
    · exact urgent
    · rw [List.filterMap_append, quiet, List.append_nil] at hw
      exact less w hw
  · rcases written hw with rfl | hw
    exacts [urgent.le, rest w hw]

/-! ## Print readers (R10) -/

theorem acquire_print {s : State} {p : Nat} (hr : (s.page p).state.readable = true)
    (hd : (s.page p).document.isSome = true) (hn : (s.page p).prints = 0) :
    s.acquire .print p = (s.setPage p { s.page p with prints := 1 }, some { page := p, gen := s.pmm.generation }) := by
  simp [State.acquire, hr, hd, PageRec.readersOf, ReaderKind.limit, PageRec.setReaders, hn]

/-- A page with its document outlives its print reader. -/
theorem release_print {s : State} {ref : PageRef} (hc : s.current ref = true)
    (hd : (s.page ref.page).document.isSome = true) (h0 : 0 < (s.page ref.page).prints) :
    s.release .print ref = s.setPage ref.page { s.page ref.page with prints := (s.page ref.page).prints - 1 } := by
  have held : (s.page ref.page).document.isNone = false := by rw [← Option.not_isSome, hd]; rfl
  simp [State.release, hc, PageRec.readersOf, PageRec.setReaders, h0, held]

theorem release_prt (s : State) (k : ReaderKind) (ref : PageRef) : (s.release k ref).prt = s.prt := by
  unfold State.release
  dsimp only
  split
  · split
    · rw [(freePage_onlyFrees _ _).frame]
      rfl
    · rfl
  · rfl

/-! ## The start of a page (R156) -/

/-- The page that a print of entry `r` starts on record `p`. -/
def State.printPage (s : State) (r : Entry) (p : Nat) : PrintPage :=
  { document := r.document, index := r.next, ref := { page := p, gen := s.pmm.generation }, headWidth := s.prt.headWidth
    total := (s.page p).outputLines }

/-- The state once entry `e`, that reads `r`, prints the page of record `p` (R156). -/
def State.pageStarted (s : State) (e : Nat) (r : Entry) (p : Nat) : State :=
  ((s.setPage p { s.page p with prints := 1 }).setEntry e (some { r with state := .printing })).updPrt fun u =>
    { u with engine := .printing, phase := .lines, current := some e, page := some (s.printPage r p) }

theorem outputLines_pos {g : PageRec} (h : 0 < g.lineCount) : 0 < g.outputLines := by
  unfold PageRec.outputLines
  split <;> omega

/-- Entry `e`, that reads `r`, can print the page of record `p`, which has lines. -/
structure State.CanPrint (s : State) (e : Nat) (r : Entry) (p : Nat) : Prop where
  entry : s.entry e = some r
  page : s.docPage r.document r.next = some p
  readable : (s.page p).state.readable = true
  document : (s.page p).document.isSome = true
  unread : (s.page p).prints = 0
  lines : 0 < (s.page p).lineCount

theorem startPage_starts {s : State} {e : Nat} {r : Entry} {p : Nat} (h : s.CanPrint e r p) :
    s.startPage e = s.pageStarted e r p := by
  have record : (s.setPage p { s.page p with prints := 1 }).page p = { s.page p with prints := 1 } :=
    page_setPage_self s p _ (lt_of_readable h.readable)
  have lines := outputLines_pos h.lines
  have total : ({ s.page p with prints := 1 } : PageRec).outputLines = (s.page p).outputLines := rfl
  have entry : (s.setPage p { s.page p with prints := 1 }).entry e = some r := h.entry
  unfold State.startPage
  rw [h.entry]
  dsimp only
  rw [h.page]
  dsimp only
  rw [acquire_print h.readable h.document h.unread]
  dsimp only
  rw [record, total, if_neg lines.ne', updEntry_eq _ entry, decide_eq_true lines]
  rfl

theorem pageStarted_entry {s : State} {e : Nat} {r : Entry} (p : Nat) (h : s.entry e = some r) :
    (s.pageStarted e r p).entry e = some { r with state := .printing } :=
  entry_setEntry_self (s.setPage p _) e _ (entry_lt h)

theorem pageStarted_entry_ne (s : State) {e f : Nat} (r : Entry) (p : Nat) (h : f ≠ e) :
    (s.pageStarted e r p).entry f = s.entry f := entry_setEntry_ne (s.setPage p _) e f _ h

theorem pageStarted_page {s : State} {p : Nat} (e : Nat) (r : Entry) (h : p < 256) :
    (s.pageStarted e r p).page p = { s.page p with prints := 1 } := page_setPage_self s p _ h

/-- The entry started waits no more. -/
theorem pageStarted_waiting {s : State} {e : Nat} {r : Entry} (p : Nat) (h : s.entry e = some r) :
    (s.pageStarted e r p).waitingEntries ⊆ s.waitingEntries := by
  refine waitingEntries_setEntry_subset (e := e) (q := some { r with state := .printing }) (entry_lt h) rfl
    (fun _ => id) fun q hq => ?_
  cases hq
  nofun

end Sys2Proof.Machine
end

section
/-!
PROOFS. PRINT_CONFIG (O56). The head width is written by PRINT_CONFIG and the hard reset alone: a page started captures it,
and the calls that a soft reset ends change lines and the charge unit only.
-/

namespace Sys2Proof.Machine

/-! ## PRINT_CONFIG (R162) -/

theorem headWidthOk_iff (w : Nat) : headWidthOk w = true ↔ 512 ≤ w ∧ w ≤ 2048 ∧ w % 32 = 0 := by
  simp [headWidthOk, and_assoc]

theorem configPrint_sets {s : State} {w : Nat} (tag : Nat) (h : headWidthOk w = true) :
    s.configPrint tag w = (s.updPrt fun p => { p with headWidth := w }).reply tag 23 .ok := if_pos h

theorem configPrint_badField {s : State} {w : Nat} (tag : Nat) (h : ¬headWidthOk w = true) :
    s.configPrint tag w = s.reply tag 23 .badField := if_neg h

/-- A page started captures the head width in force (R156). -/
theorem startPage_headWidth {s : State} {e : Nat} {pp : PrintPage} (h : (s.startPage e).prt.page = some pp)
    (none : s.prt.page = none) : pp.headWidth = s.prt.headWidth := by
  have acquired {p : Nat} {u : State} {ref : Option PageRef} (ha : s.acquire .print p = (u, ref)) : u.prt = s.prt := by
    unfold State.acquire at ha
    dsimp only at ha
    split at ha
    · cases ha
      rfl
    · cases ha
      rfl
  unfold State.startPage at h
  split at h
  · rw [none] at h
    cases h
  · split at h
    · cases h
    · split at h
      · cases h
      · next ha =>
        have width := congrArg Prt.headWidth (acquired ha)
        dsimp only at h
        split at h
        · rw [State.report, release_prt] at h
          cases h
          exact width
        · cases h
          exact width

/-! ## The resets (R163, R191, R192) -/

theorem completeRecord_chargesOnly (s : State) (n : LineNo) : ChargesOnly n s (s.completeRecord n) := by
  have setChg (q : Chg) : ChargesOnly n s { s with chg := q } := ⟨rfl, fun _ _ => rfl⟩
  have counts (u : State) (k : Nat) (p : Option Nat) (f : Nat → Nat) : ChargesOnly n u (u.countCall k p f) :=
    ⟨by rw [countCall_frame], fun m _ => by rw [countCall_frame]; rfl⟩
  have desk (u : State) (k : Nat) (f : Desk → Desk) : ChargesOnly n u (u.updDesk k f) := ⟨rfl, fun _ _ => rfl⟩
  unfold State.completeRecord
  dsimp only
  split
  · split
    exacts [((setChg _).trans (counts ..)).trans ((desk ..).trans (desk ..)), ((setChg _).trans (desk ..)).trans (desk ..)]
  · split
    exacts [((setChg _).trans (counts ..)).trans (desk ..), (setChg _).trans (desk ..)]

theorem stopPhase_chargesOnly (s : State) (n : LineNo) : ChargesOnly n s (s.stopPhase n) := by
  unfold State.stopPhase
  split
  exacts [⟨rfl, fun _ _ => rfl⟩, (ChargesOnly.updLine s _).trans (.updLine _ _)]

/-- A call ended by a soft reset changes its line and the charge unit (R94, R182). -/
theorem softRelease_chargesOnly (s : State) (n : LineNo) : ChargesOnly n s (s.softRelease n) := by
  unfold State.softRelease
  dsimp only
  split
  · rw [markClock_eq]
    exact ((((ChargesOnly.updLine s _).trans (.updLine _ _)).trans (stopPhase_chargesOnly _ n)).trans (.chargeRelease _)).trans
      (completeRecord_chargesOnly _ n)
  · exact ⟨rfl, fun _ _ => rfl⟩

theorem softBlocks_prt (s : State) : s.softBlocks.prt = s.prt.softReset := by
  have calls : (allLines.foldl State.softRelease s).prt = s.prt :=
    List.foldlRecOn (motive := fun t : State => t.prt = s.prt) allLines _ rfl fun t ht n _ => by
      rw [(softRelease_chargesOnly t n).frame]
      exact ht
  exact congrArg Prt.softReset calls

theorem softReset_prt (s : State) (tag : Nat) : (s.softReset tag).prt = s.prt.softReset := by
  have stays (t : State) (n : LineNo) : (t.softLineState n).prt = t.prt := by
    unfold State.softLineState
    split
    exacts [rfl, raise_prt ..]
  rw [State.softReset, raise_prt]
  exact List.foldlRecOn (motive := fun t : State => t.prt = s.prt.softReset) allLines _ (softBlocks_prt s)
    fun t ht n _ => (stays t n).trans ht

/-- Settles O56. -/
theorem printConfigSetsTheNextPagesWidth : Obligations.PrintConfigSetsTheNextPagesWidth := by
  refine ⟨fun s tag w h => ⟨fun bad => ?_, fun low high step => ?_⟩, fun s e pp => startPage_headWidth,
    fun s cause => ?_, fun s tag h => ?_⟩
  · have refused : ¬headWidthOk w = true := by rw [headWidthOk_iff]; omega
    exact commandArgs_onlyAnswered (f := fun w s => s.configPrint tag w) h (configPrint_badField (s := s.heeded) tag refused)
  · exact commandArgs_onlyAnswered (u := s.updPrt fun p => { p with headWidth := w }) (f := fun w s => s.configPrint tag w) h
      (configPrint_sets (s := s.heeded) tag ((headWidthOk_iff w).2 ⟨low, high, step⟩))
  · refine ⟨_, exec_hardReset cause s, ?_⟩
    rw [(finish_nothingButChoice _ (hardReset_reports s cause)).prt, State.hardReset, raise_prt]
    rfl
  · have kept : (s.heeded.softReset tag).finish.prt = s.prt.softReset :=
      (finish_nothingButChoice _ (softReset_reports s.heeded tag)).prt.trans (softReset_prt s.heeded tag)
    have next : exec (.softReset tag (.fields ())) s = .next (s.heeded.softReset tag).finish :=
      commandArgs_fields s tag 34 () (fun _ s => s.softReset tag) h
    exact ⟨_, next, by rw [kept]; rfl⟩

end Sys2Proof.Machine
end

section
/-!
PROOFS. Entries made and cancelled, output lines, paper and the arbiter (O57, its claims but for CUT_DONE). Each operation of
the engine's port has an equation per outcome; an outcome that rests the engine owes the arbiter's choice.
-/

namespace Sys2Proof.Machine

/-! ## PRINT_DOC (R150, R151) -/

section PrintDoc

variable {s : State} {d e : Nat}

/-- A BLOCKED entry for document `d` queued in the free record `e`, and the print hold raised (R150). -/
def State.entryQueued (s : State) (src : EntrySource) (d copies priority e : Nat) : State :=
  ((s.setEntry e (some (s.blockedEntry src d copies priority))).updPrt fun q =>
    { q with order := q.order ++ [e], counter := wrap16 q.counter }).setDoc d
      { s.doc d with printHold := (s.doc d).printHold + 1 }

/-- The entry of an OPEN document whose first page is not final is BLOCKED (R150). -/
theorem createEntry_queues (src : EntrySource) (copies priority : Nat) (waits : s.finalPage d 1 = false)
    (ho : (s.doc d).state = .opened) (he : s.freeEntry = some e) :
    s.createEntry d src copies priority = (s.entryQueued src d copies priority e, some e) := by
  have opened : ((s.doc d).state == .closed) = false := by rw [ho]; rfl
  rw [State.createEntry, he]
  dsimp only
  rw [waits, opened]
  rfl

theorem printDoc_queues {n pr : Nat} (tag : Nat) (hd : d < 64) (hp : pr ≤ 3) (waits : s.finalPage d 1 = false)
    (ho : (s.doc d).state = .opened) (he : s.freeEntry = some e) :
    s.printDoc tag { document := d, copies := n, priority := pr } =
      (s.entryQueued .board d (clampNat n 1 9) pr e).reply tag 21 (okCode (clampedField n 1 9)) (clampedField n 1 9)
        (.entry e s.prt.counter) := by
  have fields : ¬(Config.docs ≤ d ∨ 3 < pr) := by simp only [Config.docs]; omega
  have used : s.docInUse d = true := by rw [State.docInUse, ho]; rfl
  have opened : ¬((s.doc d).state = .closed ∧ (s.doc d).pages = []) := by rw [ho]; nofun
  rw [State.printDoc, if_neg fields, if_neg (by rw [used]; nofun), if_neg opened]
  dsimp only
  rw [createEntry_queues .board _ pr waits ho he]
  rfl

end PrintDoc

/-! ## PRINT_CANCEL of an entry not being printed (R161) -/

theorem removeEntry_entry {s : State} {e : Nat} (h : e < 32) : (s.removeEntry e).entry e = none :=
  entry_setEntry_self s e none h

theorem removeEntry_entry_ne (s : State) {e f : Nat} (h : f ≠ e) : (s.removeEntry e).entry f = s.entry f :=
  entry_setEntry_ne s e f none h

theorem printCancel_inUse {s : State} {e : Nat} {r : Entry} (tag : Nat) (h : s.entry e = some r) :
    s.printCancel tag e = (s.cancelEntry e r).reply tag 22 .ok 0 (.printCancelled r.printed (r.copies - r.remaining)) := by
  rw [State.printCancel, if_neg (Nat.not_le.2 (entry_lt h)), h]

/-- An OPEN document outlives its print hold. -/
theorem cancelEntry_waiting {s : State} {e : Nat} {r : Entry} (hc : s.prt.current ≠ some e)
    (ho : (s.doc r.document).state = .opened) (hd : r.document < 64) :
    s.cancelEntry e r = (s.removeEntry e).setDoc r.document
      { s.doc r.document with printHold := (s.doc r.document).printHold - 1 } := by
  rw [State.cancelEntry, if_neg hc]
  refine freeTest_of_not_freeable (not_freeable_of_opened ?_)
  rw [doc_setDoc_self _ _ _ hd]
  exact ho

theorem printEntriesAreMadeAndCancelled : Claims.PrintEntriesAreMadeAndCancelled := by
  refine ⟨fun s tag d n pr e h hd hp ho waits he => ?_, fun s tag e r h h32 hr hc ho hd => ?_⟩
  · obtain ⟨t, next, answered, -, -, same⟩ := commandArgs_onlyAnswered (f := fun x s => s.printDoc tag x)
      (u := s.entryQueued .board d (clampNat n 1 9) pr e) h (printDoc_queues (s := s.heeded) tag hd hp waits ho he)
    refine ⟨t, next, ?_, ?_, ?_, ?_, fun f hf => ?_, answered⟩
    · exact (entry_congr same.prt e).trans (entry_setEntry_self s e _ (freeEntry_lt he))
    · rw [same.prt]; rfl
    · rw [same.prt]; rfl
    · exact (same.doc d).trans (doc_setDoc_self _ d _ hd)
    · exact (entry_congr same.prt f).trans (entry_setEntry_ne s e f _ hf)
  · have cancels : s.heeded.printCancel tag e =
        ((s.removeEntry e).setDoc r.document
          { s.doc r.document with printHold := (s.doc r.document).printHold - 1 }).heeded.reply tag 22 .ok 0
            (.printCancelled r.printed (r.copies - r.remaining)) := by
      rw [printCancel_inUse (s := s.heeded) tag hr, cancelEntry_waiting (s := s.heeded) hc ho hd]
      rfl
    obtain ⟨t, next, answered, -, -, same⟩ := commandArgs_onlyAnswered (f := fun x s => s.printCancel tag x) h cancels
    refine ⟨t, next, ?_, ?_, ?_, answered, fun f hf => ?_⟩
    · exact (entry_congr same.prt e).trans (removeEntry_entry h32)
    · rw [same.prt]; rfl
    · exact (same.doc _).trans (doc_setDoc_self _ _ _ hd)
    · exact (entry_congr same.prt f).trans (removeEntry_entry_ne s hf)

/-! ## Output lines (R157, R158) -/

/-- The page with its next output line in the slot due (R158). -/
def State.lineDecoded (s : State) (pp : PrintPage) : PrintPage :=
  { pp.setSlot pp.decoded (some (s.outputLine pp pp.decoded)) with decoded := pp.decoded + 1 }

/-- The state once the line of the slot due has been taken (R158). -/
def State.slotTaken (s : State) (pp : PrintPage) : State :=
  s.updPrt fun p => { p with
    page := some { pp.setSlot pp.taken none with taken := pp.taken + 1 }
    phase := if pp.taken + 1 = pp.total then .cut else .lines
    cutRequest := p.cutRequest || decide (pp.taken + 1 = pp.total) }

/-- The state once the last output line of the page has been decoded (R157). -/
def State.pageDecoded (s : State) (e : Nat) (r : Entry) (pp : PrintPage) : State :=
  ((s.setPage pp.ref.page { s.page pp.ref.page with prints := (s.page pp.ref.page).prints - 1 }).setEntry e
    (some { r with replaced := sat16 (r.replaced + replacedCount (s.printLines pp)) })).updPrt fun p =>
      { p with page := some { s.lineDecoded pp with reader := false } }

theorem setSlot_reader (pp : PrintPage) (i : Nat) (x : Option PixelLine) : (pp.setSlot i x).reader = pp.reader := by
  unfold PrintPage.setSlot
  split <;> rfl

section Lines

variable {s : State} {e : Nat} {pp : PrintPage} (hg : s.prt.engine = .printing) (hf : s.prt.phase = .lines)
  (hp : s.prt.page = some pp)
include hg hf hp

theorem offered_eq : s.offered = if s.prt.ready then pp.slot pp.taken else none := by
  rw [State.offered, hg, hf, hp]

theorem takePrintLine_takes {l : PixelLine} (ready : s.prt.ready = true) (full : pp.slot pp.taken = some l) :
    s.takePrintLine = s.slotTaken pp := by
  have offers : s.offered = some l := by rw [offered_eq hg hf hp, if_pos ready, full]
  have total : (pp.setSlot pp.taken none).total = pp.total := by unfold PrintPage.setSlot; split <;> rfl
  rw [State.takePrintLine, offers, hp]
  dsimp only
  rw [total]
  by_cases last : pp.taken + 1 = pp.total
  · simp [State.slotTaken, State.updPrt, last, total]
  · simp [State.slotTaken, State.updPrt, last, total, hf]

theorem takePrintLine_ignored (h : s.prt.ready = false ∨ pp.slot pp.taken = none) : s.takePrintLine = s := by
  have offers : s.offered = none := by
    rw [offered_eq hg hf hp]
    rcases h with h | h <;> simp [h]
  rw [State.takePrintLine, offers]

variable (hc : s.prt.current = some e)
include hc

theorem decodePrintLine_waits (full : pp.slot pp.decoded ≠ none) : s.decodePrintLine = s := by
  rw [State.decodePrintLine, hg, hf, hc, hp]
  exact if_neg fun h => full h.2

theorem decodePrintLine_fills (more : pp.decoded + 1 < pp.total) (empty : pp.slot pp.decoded = none) :
    s.decodePrintLine = s.updPrt fun p => { p with page := some (s.lineDecoded pp) } := by
  rw [State.decodePrintLine, hg, hf, hc, hp]
  dsimp only
  rw [if_pos ⟨Nat.lt_of_succ_lt more, empty⟩, decide_eq_false more.ne, if_neg Bool.false_ne_true, Bool.not_false,
    Bool.and_true, State.lineDecoded, ← setSlot_reader pp pp.decoded (some (s.outputLine pp pp.decoded))]

/-- The last output line gives the reader back and hands over the page's replaced lines (R157). -/
theorem decodePrintLine_last {r : Entry} (last : pp.decoded + 1 = pp.total) (empty : pp.slot pp.decoded = none)
    (hr : s.entry e = some r) (current : s.current pp.ref = true) (held : (s.page pp.ref.page).document.isSome = true)
    (reads : 0 < (s.page pp.ref.page).prints) :
    s.decodePrintLine = s.pageDecoded e r pp := by
  rw [State.decodePrintLine, hg, hf, hc, hp]
  dsimp only
  rw [if_pos ⟨by omega, empty⟩, decide_eq_true last, if_pos rfl, Bool.not_true, Bool.and_false]
  refine (congrArg (State.updEntry · e _) (release_print ?_ ?_ ?_)).trans (updEntry_eq _ (r := r) ?_)
  exacts [current, held, reads, hr]

end Lines

theorem printLinesPassTheSlots : Claims.PrintLinesPassTheSlots := by
  intro s e pp h hg hf hc hp
  refine ⟨fun more empty => ?_, fun r last empty hr h32 current h256 held reads => ?_, fun full => ?_,
    fun l ready full => ?_, fun none => ?_, fun v => ?_⟩
  · exact heed_nothingButChoice (f := State.decodePrintLine)
      (u := s.updPrt fun p => { p with page := some (s.lineDecoded pp) }) h
      (decodePrintLine_fills (s := s.quieted) hg hf hp hc more empty)
  · obtain ⟨t, next, c⟩ := heed_next h
      (decodePrintLine_last (s := s.quieted) hg hf hp hc last empty hr current held reads) rfl
    refine ⟨t, next, ?_, ?_, ?_, ?_, ?_, c.repliesOwed⟩
    · rw [c.prt]; rfl
    · exact (c.page _).trans (page_setPage_self s.quieted _ _ h256)
    · exact (entry_congr c.prt e).trans (entry_setEntry_self (s.quieted.setPage _ _) e _ h32)
    · rw [c.prt]; exact hg
    · rw [c.prt]; exact hf
  · exact heed_nothingButChoice h (decodePrintLine_waits (s := s.quieted) hg hf hp hc full)
  · exact heed_nothingButChoice (f := State.takePrintLine) (u := s.slotTaken pp) h
      (takePrintLine_takes (s := s.quieted) hg hf hp ready full)
  · exact heed_nothingButChoice h (takePrintLine_ignored (s := s.quieted) hg hf hp none)
  · exact pin_nothingButChoice (f := fun s => s) (set := (·.updPrt fun p => { p with ready := v }))
      (u := s.updPrt fun p => { p with ready := v }) h rfl

/-! ## The arbiter (R155) -/

theorem arbiterTakesTheMostUrgent : Claims.ArbiterTakesTheMostUrgent := fun s =>
  ⟨fun _ _ => mem_waitingEntries, arbiterPick_none_iff s, fun _ => arbiterPick_spec⟩

/-! ## Paper (R154, R160) -/

section Paper

variable {s : State}

theorem paperChange_idle_out (h : s.prt.engine = .idle) :
    s.paperChange false = (s.updPrt fun p => { p with paper := false, engine := .held }).raise (.paper .held none) := by
  have engine : (s.updPrt fun p => { p with paper := false }).prt.engine = .idle := h
  rw [State.paperChange, engine]
  rfl

theorem paperChange_held_in (h : s.prt.engine = .held) :
    s.paperChange true = (s.updPrt fun p => { p with paper := true, engine := .idle }).report .arbiter := by
  have engine : (s.updPrt fun p => { p with paper := true }).prt.engine = .held := h
  rw [State.paperChange, engine]
  rfl

theorem paperChange_feeding_out (h : s.prt.engine = .printing) (hf : s.prt.phase = .lines) :
    s.paperChange false = (s.updPrt fun p => { p with paper := false }).abandonPage := by
  have engine : (s.updPrt fun p => { p with paper := false }).prt.engine = .printing := h
  have phase : (s.updPrt fun p => { p with paper := false }).prt.phase = .lines := hf
  rw [State.paperChange, engine]
  dsimp only
  rw [phase]
  rfl

/-- Paper that returns to a held engine owes the arbiter's choice (R154). -/
theorem exec_paperIn (h : s.inReset = false) (hg : s.prt.engine = .held) : exec (.paperPresentChange true) s =
    .next ((s.quieted.updPrt fun p => { p with paper := true, engine := .idle }).report .arbiter).finish := by
  rw [exec_paperPresentChange, pin_of_heeds s _ _ h]
  exact congrArg (fun v : State => Host.Outcome.next v.finish)
    (paperChange_held_in (s := s.quieted.updPrt fun p => { p with paper := true }) hg)

/-- What an event leaves of a state from which one notice has been raised. -/
theorem NothingButChoice.of_raise {s t : State} {b : NoticeBody} (c : NothingButChoice (s.raise b) t) :
    t.prt = s.prt ∧ t.pmm.pages = s.pmm.pages ∧ t.flagged b.kind = true ∧ t.repliesOwed = s.repliesOwed := by
  refine ⟨c.prt.trans (raise_prt ..), ?_, (c.flagged _).trans (flagged_raise s b 0), c.repliesOwed.trans (repliesOwed_raise ..)⟩
  rw [c.same.1, raise_pmm]

theorem page_congr {s t : State} (h : t.pmm.pages = s.pmm.pages) (p : Nat) : t.page p = s.page p := by
  rw [State.page, h]
  rfl

variable {e : Nat} {r : Entry} {pp : PrintPage}

theorem dropReader_given (hp : s.prt.page = some pp) (h : pp.reader = false) : s.dropReader = s := by
  rw [State.dropReader, hp]
  dsimp only
  rw [h]
  rfl

theorem dropReader_held (hp : s.prt.page = some pp) (h : pp.reader = true) (current : s.current pp.ref = true)
    (held : (s.page pp.ref.page).document.isSome = true) (reads : 0 < (s.page pp.ref.page).prints) :
    s.dropReader = s.setPage pp.ref.page { s.page pp.ref.page with prints := (s.page pp.ref.page).prints - 1 } := by
  rw [State.dropReader, hp]
  dsimp only
  rw [if_pos h, release_print current held reads]

theorem dropReader_prt (s : State) : s.dropReader.prt = s.prt := by
  unfold State.dropReader
  split
  · split
    exacts [release_prt .., rfl]
  · rfl

/-- Entry `e`, that reads `r`, waits again with its page abandoned (R160). -/
def State.pageAbandoned (s : State) (e : Nat) (r : Entry) (pp : PrintPage) : State :=
  (s.dropReader.setEntry e (some { r with
    state := .waiting, replaced := r.withoutReplaced (!pp.reader) (replacedCount (s.printLines pp)) })).updPrt fun p =>
      { p with engine := .held, current := none, page := none }

theorem abandonPage_eq (hc : s.prt.current = some e) (hp : s.prt.page = some pp) (hr : s.entry e = some r) :
    s.abandonPage = (s.pageAbandoned e r pp).raise (.paper .held (some (e, pp.document, pp.index))) := by
  have entry : s.dropReader.entry e = some r := (entry_congr (dropReader_prt s) e).trans hr
  rw [State.abandonPage, hc, hp]
  dsimp only
  rw [updEntry_eq _ entry]
  rfl

/-- Paper out while a page is fed (R160). -/
theorem paperOut_abandons {u : State} (h : s.inReset = false) (hg : s.prt.engine = .printing) (hf : s.prt.phase = .lines)
    (hc : s.prt.current = some e) (hp : s.prt.page = some pp) (hr : s.entry e = some r)
    (drops : (s.quieted.updPrt fun p => { p with paper := false }).dropReader = u) (quiet : u.reports = []) :
    ∃ t, exec (.paperPresentChange false) s = .next t ∧ t.prt.engine = .held ∧ t.prt.page = none ∧
      t.prt.current = none ∧ t.prt.cutRequest = s.prt.cutRequest ∧
      t.entry e = some { r with
        state := .waiting, replaced := r.withoutReplaced (!pp.reader) (replacedCount (s.printLines pp)) } ∧
      t.pmm.pages = u.pmm.pages ∧ t.flagged .paper = true ∧ t.repliesOwed = u.repliesOwed := by
  let q := s.quieted.updPrt fun p => { p with paper := false }
  have abandons : q.paperChange false = (q.pageAbandoned e r pp).raise (.paper .held (some (e, pp.document, pp.index))) :=
    (paperChange_feeding_out (s := q) hg hf).trans (abandonPage_eq (s := q) hc hp hr)
  have reports : (q.pageAbandoned e r pp).reports = [] := (congrArg State.reports drops).trans quiet
  obtain ⟨t, next, c⟩ := pin_next (s := s) (set := (·.updPrt fun p => { p with paper := false }))
    (f := fun s => s.paperChange false) h abandons ((raise_reports ..).trans reports)
  obtain ⟨prt, pages, flagged, replies⟩ := c.of_raise
  have cut : q.dropReader.prt.cutRequest = s.prt.cutRequest := by rw [dropReader_prt]; rfl
  refine ⟨t, next, ?_, ?_, ?_, ?_, ?_, ?_, flagged, ?_⟩
  · rw [prt]; rfl
  · rw [prt]; rfl
  · rw [prt]; rfl
  · rw [prt]; exact cut
  · exact (entry_congr prt e).trans (entry_setEntry_self q.dropReader e _ (entry_lt hr))
  · exact pages.trans (congrArg (·.pmm.pages) drops)
  · exact replies.trans (congrArg State.repliesOwed drops : q.dropReader.repliesOwed = u.repliesOwed)

end Paper

theorem choiceStartsAPage : Claims.ChoiceStartsAPage := by
  intro s e p r h hg pick hr h32 hp h256 readable held unread lines
  let u := s.quieted.updPrt fun p => { p with paper := true, engine := .idle }
  have prints : u.CanPrint e r p := ⟨hr, hp, readable, held, unread, lines⟩
  have chosen : (u.report .arbiter).quieted.arbiterChoice = u.pageStarted e r p :=
    (arbiterChoice_starts (s := u) rfl pick).trans (startPage_starts prints)
  have c := finish_arbiter (s := u.report .arbiter) rfl chosen rfl
  refine ⟨_, exec_paperIn h hg, ?_, ?_, ?_, ?_, ?_, ?_, fun w hw => ?_, c.repliesOwed, c.noticesOwed⟩
  · rw [c.prt]; rfl
  · rw [c.prt]; rfl
  · rw [c.prt]; rfl
  · exact (entry_congr c.prt e).trans (pageStarted_entry p prints.entry)
  · rw [c.prt]; rfl
  · exact (c.page p).trans (pageStarted_page e r h256)
  · rw [waitingEntries_congr c.prt] at hw
    exact (arbiterPick_least pick hr).2 w (pageStarted_waiting p prints.entry hw)

theorem paperHoldsTheEngine : Claims.PaperHoldsTheEngine := by
  refine ⟨fun s h hg => ?_, fun s h hg none => ?_, fun s e r pp h hg hf hc hp hr h32 given => ?_,
    fun s e r pp h hg hf hc hp hr h32 reader current h256 held reads => ?_⟩
  · obtain ⟨t, next, c⟩ := pin_next (s := s) (set := (·.updPrt fun p => { p with paper := false }))
      (f := fun s => s.paperChange false) h
      (paperChange_idle_out (s := s.quieted.updPrt fun p => { p with paper := false }) hg) (raise_reports ..)
    obtain ⟨prt, pages, flagged, replies⟩ := c.of_raise
    exact ⟨t, next, prt, flagged, replies, pages⟩
  · let u := s.quieted.updPrt fun p => { p with paper := true, engine := .idle }
    have c := finish_arbiter (s := u.report .arbiter) rfl (arbiterChoice_none (s := u) none) rfl
    exact ⟨_, exec_paperIn h hg, c⟩
  · obtain ⟨t, next, engine, page, current, -, entry, -, flagged, replies⟩ := paperOut_abandons h hg hf hc hp hr
      (dropReader_given (s := s.quieted.updPrt _) hp given) rfl
    rw [given] at entry
    refine ⟨t, next, engine, page, current, entry.trans ?_, flagged, replies⟩
    simp [Entry.withoutReplaced]
  · obtain ⟨t, next, engine, page, none, cut, entry, pages, flagged, replies⟩ := paperOut_abandons h hg hf hc hp hr
      (dropReader_held (s := s.quieted.updPrt _) hp reader current held reads) rfl
    rw [reader] at entry
    exact ⟨t, next, engine, page, none, cut, entry,
      (page_congr pages _).trans (page_setPage_self (s.quieted.updPrt _) _ _ h256), flagged, replies⟩

end Sys2Proof.Machine
end

section
/-!
PROOFS. CUT_DONE (O57). A page's boundary is its entry past the page (`Entry.pastPage`), settled by what its next page and
the paper allow: the engine rests, which owes the arbiter's choice where paper is present, or goes on with a page.
-/

namespace Sys2Proof.Machine

/-! ## The engine rests (R159, R161) -/

/-- The print unit with no page printed and its engine in the state `g`. -/
def Prt.rests (p : Prt) (g : EngineState) : Prt := { p with engine := g, phase := .lines, current := none, page := none }

section Rests

variable {s : State}

theorem restEngine_idle (notice : Bool) (h : s.prt.paper = true) :
    s.restEngine notice = (s.updPrt (·.rests .idle)).report .arbiter := by
  unfold State.restEngine
  exact if_pos h

theorem restEngine_held (h : s.prt.paper = false) : s.restEngine false = s.updPrt (·.rests .held) := by
  unfold State.restEngine
  exact if_neg (by rw [State.updPrt, h]; nofun)

theorem restEngine_notice (h : s.prt.paper = false) :
    s.restEngine true = (s.updPrt (·.rests .held)).raise (.paper .held none) := by
  unfold State.restEngine
  exact if_neg (by rw [State.updPrt, h]; nofun)

end Rests

/-! ## The boundary settled (R159) -/

theorem finalPage_congr {s t : State} (h : t.pmm = s.pmm) (d i : Nat) : t.finalPage d i = s.finalPage d i := by
  simp only [State.finalPage, State.docPage, State.doc, State.page, h]

section Settle

variable {s : State} {e : Nat} {v : Entry} (hv : s.entry e = some v)
include hv

theorem settleBoundary_blocks (final : s.finalPage v.document v.next = false) :
    s.settleBoundary e = (s.setEntry e (some { v with state := .blocked })).restEngine true := by
  rw [State.settleBoundary, hv]
  dsimp only
  rw [final]
  rfl

theorem settleBoundary_yields (final : s.finalPage v.document v.next = true)
    (urgent : ∃ w ∈ s.waitingEntries, w.2.priority < v.priority) :
    s.settleBoundary e = (s.setEntry e (some { v with state := .waiting })).restEngine true := by
  have any : (s.waitingEntries.any fun w => decide (w.2.priority < v.priority)) = true := by
    simpa only [List.any_eq_true, decide_eq_true_eq] using urgent
  rw [State.settleBoundary, hv]
  dsimp only
  rw [final, any]
  rfl

theorem settleBoundary_goesOn (final : s.finalPage v.document v.next = true)
    (first : ∀ w ∈ s.waitingEntries, v.priority ≤ w.2.priority) (paper : s.prt.paper = true) :
    s.settleBoundary e = s.startPage e := by
  have any : (s.waitingEntries.any fun w => decide (w.2.priority < v.priority)) = false := by
    simpa only [List.any_eq_false, decide_eq_true_eq, Nat.not_lt] using first
  rw [State.settleBoundary, hv]
  dsimp only
  rw [final, any, paper]
  rfl

/-- With paper absent the entry gives the engine up whatever waits. -/
theorem settleBoundary_paperOut (paper : s.prt.paper = false) :
    s.settleBoundary e =
      (s.setEntry e (some { v with state := if s.finalPage v.document v.next then .waiting else .blocked })).restEngine
        true := by
  rw [State.settleBoundary, hv]
  dsimp only
  rw [paper]
  cases s.finalPage v.document v.next
  · rfl
  · split
    · contradiction
    · split <;> rfl

end Settle

/-! ## The boundary reached (R152, R159) -/

/-- Entry `e` at the boundary of its page, reading `v`: the cut is done and no page is printed. -/
def State.atBoundary (s : State) (e : Nat) (v : Entry) : State :=
  (s.setEntry e (some v)).updPrt fun p => { p with cutRequest := false, page := none }

/-- Entry `e`, reading `w`, leaves the engine in the state `g` after the cut. -/
def State.cutRests (s : State) (e : Nat) (w : Entry) (g : EngineState) : State :=
  (s.setEntry e (some w)).updPrt fun p => { p.rests g with cutRequest := false }

/-- An entry with its page printed, before its copy's end is judged (R159). -/
def Entry.counted (r : Entry) : Entry := { r with printed := min (r.printed + 1) 65535, next := r.next + 1 }

/-- Whether an entry's copy has ended (R152). -/
def Entry.past (r : Entry) : Bool :=
  match r.finalCount with
  | some n => decide (n < r.next)
  | none => false

/-- An entry at page 1 of its next copy (R152). -/
def Entry.nextCopy (r : Entry) : Entry := { r with remaining := r.remaining - 1, next := 1 }

/-- Whether a copy of the entry is left to begin (R152). -/
def Entry.copiesOn (r : Entry) : Prop := 1 < r.remaining ∧ r.finalCount ≠ some 0

theorem pastPage_some {r v : Entry} (h : r.pastPage = some v) : r.counted.past = false ∧ v = r.counted ∨
    r.counted.past = true ∧ r.counted.copiesOn ∧ v = r.counted.nextCopy := by
  unfold Entry.pastPage at h
  dsimp only at h
  split at h
  · next n hn =>
    have past : r.counted.past = decide (n < r.next + 1) := by
      rw [Entry.past, show r.counted.finalCount = some n from hn]
      rfl
    split at h
    · next within => exact .inl ⟨past.trans (decide_eq_false (by omega)), (Option.some.inj h).symm⟩
    · split at h
      · next beyond again =>
        refine .inr ⟨past.trans (decide_eq_true (by omega)), ⟨again.1, ?_⟩, (Option.some.inj h).symm⟩
        rw [show r.counted.finalCount = some n from hn]
        exact fun zero => again.2 (Option.some.inj zero)
      · cases h
  · next hn =>
    refine .inl ⟨?_, (Option.some.inj h).symm⟩
    rw [Entry.past, show r.counted.finalCount = none from hn]

theorem pastPage_none {r : Entry} (h : r.pastPage = none) : r.counted.past = true ∧ ¬r.counted.copiesOn := by
  unfold Entry.pastPage at h
  dsimp only at h
  split at h
  · next n hn =>
    split at h
    · cases h
    · split at h
      · cases h
      · next beyond last =>
        have count : r.counted.finalCount = some n := hn
        refine ⟨?_, fun on => last ⟨on.1, fun zero => on.2 (count.trans (congrArg some zero))⟩⟩
        rw [Entry.past, count]
        exact decide_eq_true (Nat.lt_of_not_le beyond)
  · cases h

theorem pastPage_kept {r v : Entry} (h : r.pastPage = some v) : v.priority = r.priority ∧ v.state = r.state := by
  rcases pastPage_some h with ⟨-, rfl⟩ | ⟨-, -, rfl⟩ <;> exact ⟨rfl, rfl⟩

section EndCopy

variable {s : State} {e : Nat} {r : Entry} (hr : s.entry e = some r)
include hr

theorem endCopy_again (g : EntryState) (h : r.copiesOn) :
    s.endCopy e g = (s.setEntry e (some { r.nextCopy with state := g }), true) := by
  rw [State.endCopy, hr]
  exact if_pos h

theorem endCopy_last (g : EntryState) (h : ¬r.copiesOn) : s.endCopy e g = (s.finishEntry e, false) := by
  rw [State.endCopy, hr]
  exact if_neg h

end EndCopy

/-- Entry `e`, that reads `r`, with its page counted and no page in print (R159). -/
def State.pageCounted (s : State) (e : Nat) (r : Entry) : State :=
  (s.setEntry e (some r.counted)).updPrt fun p => { p with page := none }

section Boundary

variable {s : State} {e : Nat} {r v : Entry}

theorem atBoundary_entry (v : Entry) (h : e < 32) : (s.atBoundary e v).entry e = some v := entry_setEntry_self s e _ h

theorem cutRests_entry (w : Entry) (g : EngineState) (h : e < 32) : (s.cutRests e w g).entry e = some w :=
  entry_setEntry_self s e _ h

theorem cutRests_entry_ne (w : Entry) (g : EngineState) {f : Nat} (h : f ≠ e) : (s.cutRests e w g).entry f = s.entry f :=
  entry_setEntry_ne s e f _ h

theorem atBoundary_rests (s : State) (e : Nat) (v w : Entry) (g : EngineState) :
    ((s.atBoundary e v).setEntry e (some w)).updPrt (·.rests g) = s.cutRests e w g := by
  simp only [State.atBoundary, State.cutRests, State.setEntry, State.updPrt, tset_tset]
  rfl

theorem atBoundary_idle (v w : Entry) (paper : s.prt.paper = true) :
    ((s.atBoundary e v).setEntry e (some w)).restEngine true = (s.cutRests e w .idle).report .arbiter := by
  rw [restEngine_idle true (show ((s.atBoundary e v).setEntry e (some w)).prt.paper = true from paper), atBoundary_rests]

theorem atBoundary_held (v w : Entry) (paper : s.prt.paper = false) :
    ((s.atBoundary e v).setEntry e (some w)).restEngine true = (s.cutRests e w .held).raise (.paper .held none) := by
  rw [restEngine_notice (show ((s.atBoundary e v).setEntry e (some w)).prt.paper = false from paper), atBoundary_rests]

variable (hc : s.prt.current = some e) (hr : s.entry e = some r)
include hc hr

/-- The entry counted, with no page in print, before its copy's end is judged. -/
theorem pageBoundary_eq : s.pageBoundary =
    if r.counted.past then
      let x := (s.pageCounted e r).endCopy e .printing
      if x.2 then x.1.settleBoundary e else x.1.restEngine true
    else (s.pageCounted e r).settleBoundary e := by
  rw [State.pageBoundary, hc]
  dsimp only
  rw [hr]
  refine if_congr Iff.rfl ?_ rfl
  split
  · next ends =>
    rw [show (s.pageCounted e r).endCopy e .printing = _ from ends]
    rfl
  · next ends =>
    rw [show (s.pageCounted e r).endCopy e .printing = _ from ends]
    rfl

/-- An entry whose copy goes on, or is followed by another, is settled past its page; one that was PRINTING is so still. -/
theorem pageBoundary_past (hv : r.pastPage = some v) : ∃ g, (r.state = .printing → g = .printing) ∧
    s.pageBoundary =
      ((s.setEntry e (some { v with state := g })).updPrt fun p => { p with page := none }).settleBoundary e := by
  have entry : (s.pageCounted e r).entry e = some r.counted := entry_setEntry_self s e _ (entry_lt hr)
  rw [pageBoundary_eq hc hr]
  rcases pastPage_some hv with ⟨within, rfl⟩ | ⟨past, again, rfl⟩
  · rw [within, if_neg Bool.false_ne_true]
    exact ⟨r.state, id, rfl⟩
  · rw [past, if_pos rfl, endCopy_again entry .printing again]
    refine ⟨.printing, fun _ => rfl, congrArg (State.settleBoundary · e) ?_⟩
    simp only [State.pageCounted, State.setEntry, State.updPrt, tset_tset]

/-- An entry past the last page of its last copy is finished (R152). -/
theorem pageBoundary_finishes (hv : r.pastPage = none) :
    s.pageBoundary = ((s.pageCounted e r).finishEntry e).restEngine true := by
  have entry : (s.pageCounted e r).entry e = some r.counted := entry_setEntry_self s e _ (entry_lt hr)
  obtain ⟨past, last⟩ := pastPage_none hv
  rw [pageBoundary_eq hc hr, past, if_pos rfl, endCopy_last entry .printing last]
  rfl

end Boundary

/-! ## CUT_DONE -/

/-- The state once the cut is done (R158). -/
def State.cutTaken (s : State) : State := s.updPrt fun p => { p with cutRequest := false }

section Cut

variable {s : State} {e : Nat} {r v : Entry} (hg : s.prt.engine = .printing) (hf : s.prt.phase = .cut)
include hg hf

theorem cutFinished_unowned (hc : s.prt.current = none) : s.cutFinished = s.cutTaken.restEngine false := by
  have owner : s.cutTaken.prt.current = none := hc
  rw [State.cutFinished, hg, hf]
  show (match s.cutTaken.prt.current with
    | some _ => s.cutTaken.pageBoundary
    | none => s.cutTaken.restEngine false) = _
  rw [owner]

theorem cutFinished_owned (hc : s.prt.current = some e) : s.cutFinished = s.cutTaken.pageBoundary := by
  have owner : s.cutTaken.prt.current = some e := hc
  rw [State.cutFinished, hg, hf]
  show (match s.cutTaken.prt.current with
    | some _ => s.cutTaken.pageBoundary
    | none => s.cutTaken.restEngine false) = _
  rw [owner]

variable (hc : s.prt.current = some e) (hr : s.entry e = some r)
include hc hr

theorem cutFinished_past (hv : r.pastPage = some v) : ∃ g, (r.state = .printing → g = .printing) ∧
    s.cutFinished = (s.atBoundary e { v with state := g }).settleBoundary e := by
  obtain ⟨g, still, boundary⟩ := pageBoundary_past (s := s.cutTaken) hc hr hv
  exact ⟨g, still, (cutFinished_owned hg hf hc).trans boundary⟩

theorem cutFinished_blocks (hv : r.pastPage = some v) (final : s.finalPage v.document v.next = false)
    (paper : s.prt.paper = true) :
    s.cutFinished = (s.cutRests e { v with state := .blocked } .idle).report .arbiter := by
  obtain ⟨g, -, boundary⟩ := cutFinished_past hg hf hc hr hv
  let q : Entry := { v with state := g }
  have settled := settleBoundary_blocks (s := s.atBoundary e q) (v := q) (atBoundary_entry q (entry_lt hr)) final
  exact boundary.trans (settled.trans (atBoundary_idle q { v with state := .blocked } paper))

theorem cutFinished_paperOut (hv : r.pastPage = some v) (paper : s.prt.paper = false) :
    s.cutFinished =
      (s.cutRests e { v with state := if s.finalPage v.document v.next then .waiting else .blocked } .held).raise
        (.paper .held none) := by
  obtain ⟨g, -, boundary⟩ := cutFinished_past hg hf hc hr hv
  let q : Entry := { v with state := g }
  have settled := settleBoundary_paperOut (s := s.atBoundary e q) (v := q) (atBoundary_entry q (entry_lt hr)) paper
  exact boundary.trans (settled.trans (atBoundary_held q _ paper))

section Printing

variable (printing : r.state = .printing) (hv : r.pastPage = some v)
include printing hv

/-- An entry that is PRINTING at its boundary adds nothing to those that wait. -/
theorem cutFinished_printing : s.cutFinished = (s.atBoundary e v).settleBoundary e := by
  obtain ⟨g, still, boundary⟩ := cutFinished_past hg hf hc hr hv
  have same : { v with state := g } = v := by rw [still printing, ← (pastPage_kept hv).2.trans printing]
  rwa [same] at boundary

omit hg hf hc in
theorem atBoundary_waiting : (s.atBoundary e v).waitingEntries ⊆ s.waitingEntries := by
  refine waitingEntries_setEntry_subset (q := some v) (entry_lt hr) rfl (fun _ => id) fun q hq => ?_
  cases hq
  rw [(pastPage_kept hv).2, printing]
  nofun

variable (final : s.finalPage v.document v.next = true) (paper : s.prt.paper = true)
include final paper

theorem cutFinished_goesOn (first : ∀ w ∈ s.waitingEntries, r.priority ≤ w.2.priority) :
    s.cutFinished = (s.atBoundary e v).startPage e := by
  rw [cutFinished_printing hg hf hc hr printing hv]
  refine settleBoundary_goesOn (atBoundary_entry v (entry_lt hr)) final (fun w hw => ?_) paper
  rw [(pastPage_kept hv).1]
  exact first w (atBoundary_waiting hr printing hv hw)

theorem cutFinished_yields {f : Nat} {q : Entry} (pick : s.arbiterPick = some f) (hq : s.entry f = some q)
    (urgent : q.priority < r.priority) :
    s.cutFinished = (s.cutRests e { v with state := .waiting } .idle).report .arbiter := by
  have waits : (f, q) ∈ (s.atBoundary e v).waitingEntries := by
    obtain ⟨queued, -, state⟩ := mem_waitingEntries.1 (arbiterPick_least pick hq).1
    have other : f ≠ e := by
      rintro rfl
      cases hq.symm.trans hr
      exact absurd urgent (lt_irrefl _)
    exact mem_waitingEntries.2 ⟨queued, (entry_setEntry_ne s e f _ other).trans hq, state⟩
  rw [cutFinished_printing hg hf hc hr printing hv,
    settleBoundary_yields (atBoundary_entry v (entry_lt hr)) final ⟨_, waits, by rwa [(pastPage_kept hv).1]⟩]
  exact atBoundary_idle v { v with state := .waiting } paper

end Printing

end Cut

theorem cutEndsThePage : Claims.CutEndsThePage := by
  refine ⟨fun s e r v h hg hf hc hr h32 hv => ⟨fun final printing none paper => ?_, fun paper => ?_⟩,
    fun s h hg hf hc waits => ?_⟩
  · let u := s.quieted.cutRests e { v with state := .blocked } .idle
    have still : u.waitingEntries = [] := by
      refine List.subset_nil.1 (none ▸ waitingEntries_setEntry_subset (s := s) (q := some { v with state := .blocked }) h32 rfl
        (fun _ => id) fun q hq => ?_)
      cases hq
      nofun
    have c := finish_arbiter (s := u.report .arbiter) rfl (arbiterChoice_none (s := u) still) rfl
    refine ⟨_, heed_gives h (cutFinished_blocks (s := s.quieted) hg hf hc hr hv final paper), ?_, ?_, ?_, ?_, ?_, ?_, ?_,
      c.repliesOwed, c.noticesOwed⟩
    iterate 6 rw [c.prt]; rfl
    exact (entry_congr c.prt e).trans (cutRests_entry _ _ h32)
  · let w : Entry := { v with state := if s.finalPage v.document v.next then .waiting else .blocked }
    let u := s.quieted.cutRests e w .held
    obtain ⟨t, next, c⟩ := heed_next h (cutFinished_paperOut (s := s.quieted) hg hf hc hr hv paper) (raise_reports u _ 0)
    obtain ⟨prt, -, flagged, replies⟩ := c.of_raise
    refine ⟨t, next, ?_, ?_, ?_, ?_, ?_, ?_, ?_, fun f hf => ?_, flagged, fun on room => ?_, replies⟩
    iterate 6 rw [prt]; rfl
    · exact (entry_congr prt e).trans (cutRests_entry w .held h32)
    · exact (entry_congr prt f).trans (cutRests_entry_ne w .held hf)
    · exact c.noticesOwed.trans (noticesOwed_raise (s := u) (.paper .held none) 0 on room)
  · have rests := cutFinished_unowned (s := s.quieted) hg hf hc
    have left (g : EngineState) : s.cutTaken.updPrt (·.rests g) = { s with prt := { s.prt with
        cutRequest := false, engine := g, phase := .lines, page := none } } := by
      simp [State.cutTaken, State.updPrt, Prt.rests, hc]
    cases paper : s.prt.paper with
    | true =>
      let u := s.quieted.cutTaken.updPrt (·.rests .idle)
      have c := finish_arbiter (s := u.report .arbiter) rfl (arbiterChoice_none (s := u) (waits paper)) rfl
      refine ⟨_, heed_gives h (rests.trans (restEngine_idle false paper)), ?_⟩
      rw [if_pos rfl, ← left]
      exact c
    | false =>
      rw [if_neg Bool.false_ne_true, ← left]
      exact heed_nothingButChoice h (rests.trans (restEngine_held paper))

/-! ## CUT_DONE with a page to go on with (R152, R155, R159) -/

/-- From `s` the print unit goes on with entry `f`, that reads `q`: `u` is the state in which its page is started. -/
structure GoesOnWith (s u : State) (f : Nat) (q : Entry) : Prop where
  pmm : u.pmm = s.pmm
  bli : u.bli = s.bli
  reports : u.reports = []
  cutRequest : u.prt.cutRequest = false
  order : u.prt.order = s.prt.order
  headWidth : u.prt.headWidth = s.prt.headWidth
  entry : u.entry f = some q
  first : ∀ w ∈ u.waitingEntries, q.priority ≤ w.2.priority

section GoesOn

variable {s u : State} {f p : Nat} {q : Entry}

theorem GoesOnWith.canPrint (h : GoesOnWith s u f q) (hp : s.docPage q.document q.next = some p)
    (readable : (s.page p).state.readable = true) (held : (s.page p).document.isSome = true)
    (unread : (s.page p).prints = 0) (lines : 0 < (s.page p).lineCount) : u.CanPrint f q p := by
  have page : u.page p = s.page p := page_congr (congrArg Pmm.pages h.pmm) p
  refine ⟨h.entry, ?_, ?_, ?_, ?_, ?_⟩
  · rw [← hp, State.docPage, State.doc, h.pmm]
    rfl
  all_goals rw [page]; assumption

end GoesOn

theorem cutGoesOnOrYields : Claims.CutGoesOnOrYields := by
  intro s e f p r v q h hg hf hc hr h32 printing hv final paper next hp h256 readable held unread lines
  obtain ⟨u, t, runs, on, c, left⟩ : ∃ u t, exec .cutDone s = .next t ∧ GoesOnWith s u f q ∧
      NothingButChoice (u.pageStarted f q p) t ∧ (f ≠ e → u.entry e = some { v with state := .waiting }) := by
    rcases next with ⟨rfl, rfl, first⟩ | ⟨pick, hq, f32, urgent⟩
    · let u := s.quieted.atBoundary f q
      have on : GoesOnWith s u f q := ⟨rfl, rfl, rfl, rfl, rfl, rfl, atBoundary_entry q h32, fun w hw => by
        rw [(pastPage_kept hv).1]
        exact first w (atBoundary_waiting (s := s.quieted) hr printing hv hw)⟩
      obtain ⟨t, runs, c⟩ := heed_next h ((cutFinished_goesOn (s := s.quieted) hg hf hc hr printing hv final paper first).trans
        (startPage_starts (on.canPrint hp readable held unread lines))) rfl
      exact ⟨u, t, runs, on, c, fun ne => absurd rfl ne⟩
    · have other : f ≠ e := by
        rintro rfl
        cases hq.symm.trans hr
        exact absurd urgent (lt_irrefl _)
      let w : Entry := { v with state := .waiting }
      let u := s.quieted.cutRests e w .idle
      have entry : u.entry f = some q := (cutRests_entry_ne w .idle other).trans hq
      have chosen : u.arbiterPick = some f :=
        arbiterPick_setEntry (s := s) (v := w) pick hq other rfl rfl (urgent.trans_eq (pastPage_kept hv).1.symm)
      have on : GoesOnWith s u f q := ⟨rfl, rfl, rfl, rfl, rfl, rfl, entry, (arbiterPick_least chosen entry).2⟩
      have starts : u.arbiterChoice = u.pageStarted f q p :=
        (arbiterChoice_starts rfl chosen).trans (startPage_starts (on.canPrint hp readable held unread lines))
      exact ⟨u, _, heed_gives h (cutFinished_yields (s := s.quieted) hg hf hc hr printing hv final paper pick hq urgent), on,
        finish_arbiter (s := u.report .arbiter) rfl starts rfl, fun _ => cutRests_entry w .idle h32⟩
  have page : u.page p = s.page p := page_congr (congrArg Pmm.pages on.pmm) p
  refine ⟨t, runs, ?_, ?_, ?_, ?_, ?_, fun ne => ?_, ?_, ?_, ?_, fun w hw => ?_, ?_⟩
  · rw [c.prt]; exact on.cutRequest
  · rw [c.prt]; rfl
  · rw [c.prt]; rfl
  · rw [c.prt]; rfl
  · exact (entry_congr c.prt f).trans (pageStarted_entry p on.entry)
  · exact (entry_congr c.prt e).trans ((pageStarted_entry_ne u q p ne.symm).trans (left ne))
  · rw [c.prt]; exact on.order
  · rw [c.prt]
    show some (u.printPage q p) = _
    rw [State.printPage, on.pmm, on.headWidth, page]
    rfl
  · rw [c.page, pageStarted_page f q h256, page]
  · rw [waitingEntries_congr c.prt] at hw
    exact on.first w (pageStarted_waiting p on.entry hw)
  · exact c.repliesOwed.trans (repliesOwed_congr on.bli)

/-- Settles O57. -/
theorem printingPassesPages : Obligations.PrintingPassesPages :=
  ⟨printEntriesAreMadeAndCancelled, printLinesPassTheSlots, arbiterTakesTheMostUrgent, choiceStartsAPage,
    paperHoldsTheEngine, cutEndsThePage, cutGoesOnOrYields⟩

end Sys2Proof.Machine
end

section
/-!
PROOFS. The end of print entries (O58). An entry is finished in one way whoever ends its last copy: `EntryFinished` says what
that leaves of the queue, the document, the link and the reports. The reports of a close and of a final page are worked off
over a queue of one entry.
-/

namespace Sys2Proof.Machine

/-! ## The print hold lowered (R14, R16) -/

section PrintHold

variable {s : State} {d : Nat} (h : s.freedByHolds d)
include h

theorem lowerPrintHold_onlyFrees : OnlyFrees s (s.lowerPrintHold d) := by
  unfold State.lowerPrintHold
  refine (setDoc_onlyFrees s d _).trans (freeTest_onlyFrees ?_)
  by_cases hd : d < 64
  · exact freedByHolds_setDoc s d _ hd rfl rfl h
  · rwa [setDoc_of_out hd]

theorem lowerPrintHold_leaves : (s.lowerPrintHold d).doc d = (s.doc d).printHoldLowered := by
  by_cases hd : d < 64
  · exact lowerPrintHold_doc s d hd h
  · rw [doc_of_out hd, doc_of_out hd]
    rfl

/-- A document that is not freed keeps its pages as they are. -/
theorem lowerPrintHold_kept (stays : (s.doc d).printHoldLowered.state ≠ .free) :
    s.lowerPrintHold d = s.setDoc d { s.doc d with printHold := (s.doc d).printHold - 1 } := by
  have hd : d < 64 := by
    by_contra out
    rw [doc_of_out out] at stays
    exact stays rfl
  refine freeTest_of_not_freeable (Bool.eq_false_of_not_eq_true fun frees => stays ?_)
  rw [← lowerPrintHold_leaves h, State.lowerPrintHold, freeTest_of_freeable frees, freeDoc_doc _ d hd]

end PrintHold

/-! ## An entry finished (R152) -/

/-- PRINT_DONE of entry `r` at place `e` (R152). -/
def Entry.doneNotice (r : Entry) (e : Nat) : NoticeBody :=
  .printDone e r.seq r.source r.document r.copies r.printed r.replaced

/-- From `s` to `t` entry `r`, at place `e`, has been finished (R152): its record and its place in the queue are free, the
print hold is lowered, PRINT_DONE is raised, and nothing is owed beside but freed memory. -/
structure EntryFinished (s t : State) (e : Nat) (r : Entry) : Prop where
  frame : t = { s with
    pmm := t.pmm, bli := t.bli, reports := t.reports
    prt := { s.prt with entries := tset s.prt.entries e none, order := s.prt.order.erase e } }
  doc : t.doc r.document = (s.doc r.document).printHoldLowered
  link : t.bli = (s.raise (r.doneNotice e)).bli
  pendingScan : t.pmm.pendingScan = s.pmm.pendingScan
  reports : ∀ q ∈ t.reports, q ∈ s.reports ∨ q = .memoryFreed

theorem finishEntry_finishes {s : State} {e : Nat} {r : Entry} (hr : s.entry e = some r) (hf : s.freedByHolds r.document) :
    EntryFinished s (s.finishEntry e) e r := by
  let lowered := s.lowerPrintHold r.document
  let raised := lowered.raise (r.doneNotice e)
  have frees : OnlyFrees s lowered := lowerPrintHold_onlyFrees hf
  have frame : raised = { s with pmm := lowered.pmm, bli := raised.bli, reports := lowered.reports } :=
    (raise_frame lowered _ 0).trans (congrArg (fun u : State => { u with bli := raised.bli }) frees.frame)
  have finishes : s.finishEntry e = raised.removeEntry e := by
    rw [State.finishEntry, hr]
    rfl
  have bli : lowered.bli = s.bli := (congrArg State.bli frees.frame).trans rfl
  have now : lowered.now = s.now := (congrArg State.now frees.frame).trans rfl
  have link : raised.bli = (s.raise (r.doneNotice e)).bli := raise_bli_congr bli now _
  rw [finishes, frame]
  exact {
    frame := rfl
    doc := lowerPrintHold_leaves hf
    link := link
    pendingScan := ((Beside.refl s).lowerPrintHold).pendingScan
    reports := frees.reports }

namespace EntryFinished

variable {s t : State} {e : Nat} {r : Entry} (h : EntryFinished s t e r)
include h

theorem prt : t.prt = { s.prt with entries := tset s.prt.entries e none, order := s.prt.order.erase e } :=
  (congrArg State.prt h.frame).trans rfl

theorem now : t.now = s.now := (congrArg State.now h.frame).trans rfl

theorem raisesOnly : RaisesOnly s t := by
  rw [RaisesOnly, h.link]
  exact raise_raisesOnly s _ 0

theorem flagged : t.flagged .printDone = true := (flagged_congr h.link _).trans (flagged_raise s (r.doneNotice e) 0)

theorem noticesOwed (on : s.bli.enabled .printDone = true) (room : s.bli.notices.length < 32) :
    t.noticesOwed = s.noticesOwed ++ [{ tag := 0, body := r.doneNotice e, time := s.now }] :=
  (noticesOwed_congr h.link).trans (noticesOwed_raise (r.doneNotice e) 0 on room)

end EntryFinished

/-! ## CUT_DONE after the last page (R152, R159) -/

theorem finishedEntryIsRemoved : Claims.FinishedEntryIsRemoved := by
  intro s e r h hg hf hc hr h32 hv printing freed scan idle
  let u := s.quieted.cutTaken.pageCounted e r
  let v := u.finishEntry e
  have entry : u.entry e = some r.counted := entry_setEntry_self s e _ h32
  have done : EntryFinished u v e r.counted := finishEntry_finishes entry freed
  have runs : s.quieted.cutFinished = v.restEngine true :=
    (cutFinished_owned (s := s.quieted) hg hf hc).trans (pageBoundary_finishes (s := s.quieted.cutTaken) hc hr hv)
  have paper_eq : v.prt.paper = s.prt.paper := by rw [done.prt]; rfl
  have memory (q : Report) (hq : q ∈ v.reports) : q = .memoryFreed ∧ v.pmm.pendingScan = none :=
    ⟨(done.reports q hq).resolve_left List.not_mem_nil, done.pendingScan.trans scan⟩
  have prt (g : EngineState) : v.prt.rests g = { s.prt with
      entries := tset s.prt.entries e none, order := s.prt.order.erase e, cutRequest := false, engine := g
      phase := .lines, current := none, page := none } := by
    rw [done.prt]
    simp only [u, State.quieted, State.cutTaken, State.pageCounted, State.updPrt, State.setEntry, Prt.rests, tset_tset]
  obtain ⟨t, next, tprt, tdoc, flagged, notices, replies⟩ : ∃ t, exec .cutDone s = .next t ∧
      t.prt = v.prt.rests (if s.prt.paper then .idle else .held) ∧ (∀ d, t.doc d = v.doc d) ∧
      t.flagged .printDone = true ∧ (s.bli.enabled .printDone = true → s.bli.enabled .paper = true →
        s.bli.notices.length + 2 ≤ 32 → t.noticesOwed = v.noticesOwed ++
          if s.prt.paper then [] else [{ tag := 0, time := s.now, body := .paper .held none }]) ∧
      t.repliesOwed = v.repliesOwed := by
    cases paper : s.prt.paper with
    | true =>
      let x := (v.updPrt (·.rests .idle)).report .arbiter
      have waits : x.waitingEntries = [] := by
        refine List.subset_nil.1 (idle paper ▸ waitingEntries_setEntry_subset (s := s) (e := e) (q := none) h32
          (congrArg Prt.entries (prt .idle)) (fun f hf => ?_) nofun)
        exact List.mem_of_mem_erase ((congrArg Prt.order (prt .idle)) ▸ hf)
      have asks : x.asksNoPrint := fun q hq => by
        rcases List.mem_append.1 hq with hq | hq
        · exact .inl (memory q hq)
        · exact .inr ⟨List.mem_singleton.1 hq, .inr waits⟩
      have c := asks.finish
      exact ⟨_, heed_gives h (runs.trans (restEngine_idle true (paper_eq.trans paper))), c.prt, c.doc,
        (c.flagged _).trans done.flagged, fun _ _ _ => c.noticesOwed.trans (List.append_nil _).symm, c.repliesOwed⟩
    | false =>
      let w := v.updPrt (·.rests .held)
      let x := w.raise (.paper .held none)
      have asks : x.asksNoPrint := fun q hq => by
        rw [raise_pmm]
        exact .inl (memory q (by rwa [raise_reports] at hq))
      have c := asks.finish
      refine ⟨_, heed_gives h (runs.trans (restEngine_notice (paper_eq.trans paper))), c.prt.trans (raise_prt ..), fun d => ?_,
        (c.flagged _).trans (flagged_raise_of_flagged _ 0 done.flagged), fun dones papers room => ?_,
        c.repliesOwed.trans (repliesOwed_raise w _ 0)⟩
      · rw [c.doc, State.doc, raise_pmm]
        rfl
      · have on : w.bli.enabled .paper = true := by
          rw [show w.bli = (u.raise (r.counted.doneNotice e)).bli from done.link, raise_enabled]
          exact papers
        have few : w.bli.notices.length + 1 ≤ 32 := by
          rw [show w.bli = (u.raise (r.counted.doneNotice e)).bli from done.link]
          exact raise_length u _ (n := 1) room
        rw [c.noticesOwed, noticesOwed_raise (s := w) (.paper .held none) 0 on few,
          show w.now = s.now from done.now]
        rfl
  rw [prt] at tprt
  refine ⟨t, next, ?_, ?_, ?_, ?_, ?_, ?_, ?_, fun f hf => ?_, ?_, flagged, fun dones papers room => ?_, ?_⟩
  iterate 5 rw [tprt]
  · rw [State.entry, tprt, tget_tset_self _ _ _ _ h32]
  · rw [tprt]
  · rw [State.entry, tprt, tget_tset_ne _ _ _ _ _ (Ne.symm hf)]
    rfl
  · exact (tdoc _).trans done.doc
  · rw [notices dones papers room, done.noticesOwed dones (show s.bli.notices.length < 32 by omega), List.append_assoc]
    rfl
  · exact replies.trans done.raisesOnly.repliesOwed

/-! ## The close report (R152, R153) -/

theorem setEntry_reply (s : State) (e : Nat) (x : Option Entry) (tag code : Nat) (r : ResultCode) (c : Nat) (b : ReplyBody) :
    (s.reply tag code r c b).setEntry e x = (s.setEntry e x).reply tag code r c b := by
  unfold State.reply State.setEntry
  dsimp only
  split <;> rfl

theorem jobDocClosed_idle {s : State} (d n : Nat) (h : s.dsp.order = []) : s.jobDocClosed d n = s := by
  simp [State.jobDocClosed, State.jobsNaming, h]

section Close

variable {s : State} {d e n : Nat} {r : Entry}

/-- A document that a print holds is closed and reported (R15, R153). -/
theorem closeDoc_printHeld (hd : d < 64) (ho : (s.doc d).state = .opened) (freed : s.freedByHolds d)
    (held : 0 < (s.doc d).printHold) :
    s.closeDoc d = (s.setDoc d { s.doc d with state := .closed }).report (.docClosed d (s.doc d).pages.length) := by
  have kept : (s.setDoc d { s.doc d with state := .closed }).freeable d = false := by
    refine Bool.eq_false_of_not_eq_true fun frees => held.ne' ?_
    obtain ⟨-, -, -, none⟩ := (freeable_of_holds _ d (freedByHolds_setDoc s d { s.doc d with state := .closed } hd rfl rfl
      freed)).1 frees
    rwa [doc_setDoc_self s d _ hd] at none
  unfold State.closeDoc
  rw [if_pos (beq_iff_eq.2 ho), if_neg (Bool.eq_false_iff.1 kept), if_pos (.inr held)]

/-- DOC_CLOSE of a document that a print holds and no job waits for: its reply, then the close report for the print
entries. -/
theorem exec_docClose_printHeld (tag : Nat) (h : s.inReset = false) (hd : d < 64) (ho : (s.doc d).state = .opened)
    (hf : (s.doc d).filler = .none) (freed : s.freedByHolds d) (held : 0 < (s.doc d).printHold) (jobs : s.dsp.order = []) :
    let q := (s.setDoc d { s.doc d with state := .closed }).heeded.reply tag 3 .ok
    ∃ a : State, exec (.docClose tag (.fields d)) s = .next a.finish ∧ a.reports = [.docClosed d (s.doc d).pages.length] ∧
      a.quieted.handle (.docClosed d (s.doc d).pages.length) = q.printDocClosed d (s.doc d).pages.length := by
  intro q
  let v := (s.heeded.setDoc d { s.doc d with state := .closed }).report (.docClosed d (s.doc d).pages.length)
  have opened : (s.heeded.doc d).state = .opened := ho
  have accepted : s.heeded.docRefusal d = none := docRefusal_none hd (by rw [opened]; nofun)
  have closes : s.heeded.closeByBoard tag d = v.reply tag 3 .ok :=
    (closeByBoard_unfilled tag accepted ho hf).trans
      (congrArg (·.reply tag 3 .ok) (closeDoc_printHeld (s := s.heeded) hd ho freed held))
  have quiet : (v.reply tag 3 .ok).quieted = q := reply_setReports v [] tag 3 .ok 0 .none
  refine ⟨_, commandArgs_gives (tag := tag) (code := 3) (f := fun d s => s.closeByBoard tag d) h closes, reply_reports .., ?_⟩
  rw [quiet]
  exact congrArg (State.printDocClosed · d _) (jobDocClosed_idle d _ (by rw [reply_dsp]; exact jobs))

/-- The entry with the page count of its document's close (R153). -/
def Entry.closedAt (r : Entry) (n : Nat) : Entry := { r with finalCount := some n }

variable (order : s.prt.order = [e]) (hr : s.entry e = some r) (hd : r.document = d) (hn : r.finalCount = none)
include order hr hd hn

/-- The one entry takes the count; a BLOCKED one past it has its copy ended (R152, R153). -/
theorem printDocClosed_one : s.printDocClosed d n =
    let u := s.setEntry e (some (r.closedAt n))
    if r.state = .blocked ∧ n < r.next then
      let x := u.endCopy e .waiting
      if x.2 then x.1.report .arbiter else x.1
    else u := by
  rw [State.printDocClosed, order, List.foldl_cons, List.foldl_nil, hr]
  subst hd
  dsimp only
  rw [hn, if_pos (by simp)]
  refine if_congr (by simp) ?_ rfl
  split
  · next ends =>
    rw [show (s.setEntry e (some (r.closedAt n))).endCopy e .waiting = _ from ends]
    rfl
  · next ends =>
    rw [show (s.setEntry e (some (r.closedAt n))).endCopy e .waiting = _ from ends]
    rfl

theorem printDocClosed_counts (stays : r.state ≠ .blocked ∨ r.next ≤ n) :
    s.printDocClosed d n = s.setEntry e (some (r.closedAt n)) :=
  (printDocClosed_one order hr hd hn).trans (if_neg fun ⟨blocked, past⟩ =>
    stays.elim (fun other => other blocked) fun within => past.not_ge within)

variable (blocked : r.state = .blocked) (past : n < r.next)
include blocked past

theorem printDocClosed_copies (more : 1 < r.remaining) (pages : n ≠ 0) :
    s.printDocClosed d n = (s.setEntry e (some { (r.closedAt n).nextCopy with state := .waiting })).report .arbiter := by
  have entry := entry_setEntry_self s e (some (r.closedAt n)) (entry_lt hr)
  have again : (r.closedAt n).copiesOn := ⟨more, fun none => pages (Option.some.inj none)⟩
  rw [printDocClosed_one order hr hd hn]
  dsimp only
  rw [if_pos ⟨blocked, past⟩, endCopy_again entry .waiting again, if_pos rfl, setEntry_setEntry]

theorem printDocClosed_finishes (last : r.remaining ≤ 1 ∨ n = 0) :
    s.printDocClosed d n = (s.setEntry e (some (r.closedAt n))).finishEntry e := by
  have entry := entry_setEntry_self s e (some (r.closedAt n)) (entry_lt hr)
  have ends : ¬(r.closedAt n).copiesOn := fun ⟨more, pages⟩ =>
    last.elim (fun few => few.not_gt more) fun none => pages (congrArg some none)
  rw [printDocClosed_one order hr hd hn]
  dsimp only
  rw [if_pos ⟨blocked, past⟩, endCopy_last entry .waiting ends, if_neg Bool.false_ne_true]

end Close

/-- A command answered, whose reports are worked off, changes nothing else. -/
theorem heeded_reply_quieted (u : State) (tag code : Nat) (r : ResultCode) (c : Nat) (b : ReplyBody) :
    OnlyAnswered u (u.heeded.reply tag code r c b).quieted.finish (u.replyNow tag code r c b) := by
  rw [show (u.heeded.reply tag code r c b).quieted = u.heeded.reply tag code r c b from reply_setReports u.heeded [] ..]
  exact heeded_reply_onlyAnswered u tag code r c b

theorem asksNoPrint_of_quiet {s : State} (quiet : s.reports = []) : s.asksNoPrint := by
  intro f hf
  rw [quiet] at hf
  cases hf

/-- A choice owed to a busy engine is idle (R155). -/
theorem asksNoPrint_arbiter {s : State} (quiet : s.reports = []) (busy : s.prt.engine ≠ .idle) :
    (s.report .arbiter).asksNoPrint := by
  intro f hf
  rw [State.report, quiet] at hf
  exact .inr ⟨List.mem_singleton.1 hf, .inl busy⟩

theorem freedByHolds_congr {s t : State} {d : Nat} (h : t.pmm = s.pmm) (freed : s.freedByHolds d) : t.freedByHolds d := by
  simpa only [State.freedByHolds, State.doc, State.page, h] using freed

theorem closeReportEndsCopies : Claims.CloseReportEndsCopies := by
  intro s tag d e r h hd h32 ho hf held jobs order hr doc unknown freed n
  let w := s.setDoc d { s.doc d with state := .closed }
  let q := w.heeded.reply tag 3 .ok
  obtain ⟨a, runs, owed, handled⟩ := exec_docClose_printHeld tag h hd ho hf freed held jobs
  have prt : q.prt = s.prt := reply_prt ..
  have qorder : q.prt.order = [e] := by rw [prt, order]
  have qentry : q.entry e = some r := (entry_congr prt e).trans hr
  have written (x : Option Entry) : q.setEntry e x = (w.setEntry e x).heeded.reply tag 3 .ok := setEntry_reply w.heeded ..
  have ends {x : State} (hx : q.printDocClosed d n = x) (asks : x.asksNoPrint) :
      exec (.docClose tag (.fields d)) s = .next x.quieted.finish := by
    have handles := handled.trans hx
    rw [runs, finish_of_handled owed (handles ▸ asks.idle), handles]
  refine ⟨fun stays => ?_, fun blocked past more pages engine => ?_, fun blocked past last scan => ?_⟩
  · have counts := (printDocClosed_counts qorder qentry doc unknown stays).trans (written _)
    exact ⟨_, ends counts (asksNoPrint_of_quiet (reply_reports ..)), heeded_reply_quieted _ tag 3 .ok 0 .none⟩
  · let v : Entry := { (r.closedAt n).nextCopy with state := .waiting }
    have copies : q.printDocClosed d n = ((w.setEntry e (some v)).heeded.reply tag 3 .ok).report .arbiter :=
      (printDocClosed_copies qorder qentry doc unknown blocked past more pages).trans
        (congrArg (State.report · .arbiter) (written _))
    have busy : ((w.setEntry e (some v)).heeded.reply tag 3 .ok).prt.engine ≠ .idle := by
      rw [reply_prt]
      exact engine
    exact ⟨_, ends copies (asksNoPrint_arbiter (reply_reports ..) busy),
      heeded_reply_quieted (w.setEntry e (some v)) tag 3 .ok 0 .none⟩
  · let v := r.closedAt n
    let y := q.setEntry e (some v)
    let x := y.finishEntry e
    have ypmm : y.pmm = w.pmm := reply_pmm ..
    have freed : y.freedByHolds v.document := freedByHolds_congr ypmm (doc ▸ freedByHolds_setDoc s d _ hd rfl rfl freed)
    have done : EntryFinished y x e v := finishEntry_finishes (entry_setEntry_self q e _ h32) freed
    have asks : x.asksNoPrint := fun f hf => by
      refine .inl ⟨(done.reports f hf).resolve_left ?_, ?_⟩
      · rw [show y.reports = [] from reply_reports ..]
        nofun
      · rw [done.pendingScan, ypmm]
        exact scan
    have c : NothingButChoice x x.quieted.finish := (finish_nothingButChoice x.quieted rfl).of_quieted
    obtain ⟨notices, queue, mask⟩ := reply_notices w.heeded tag 3 .ok 0 .none
    have now : q.now = s.now := (congrArg State.now (reply_frame w.heeded tag 3 .ok 0 .none)).trans rfl
    refine ⟨_, ends (printDocClosed_finishes qorder qentry doc unknown blocked past last) asks, ?_, ?_, ?_, ?_,
      fun on room => ?_, ?_⟩
    · rw [entry_congr c.prt, State.entry, done.prt, tget_tset_self _ _ _ _ h32]
    · rw [c.prt, done.prt, show y.prt.order = [e] from qorder, List.erase_cons_head]
    · subst doc
      rw [c.doc]
      refine done.doc.trans (congrArg DocRec.printHoldLowered ?_)
      rw [State.doc, ypmm]
      exact doc_setDoc_self s _ _ hd
    · exact (c.flagged _).trans done.flagged
    · have kept : y.bli.enabled .printDone = true := by
        rw [Bli.enabled, show y.bli.mask = s.bli.mask from mask]
        exact on
      have few : y.bli.notices.length < 32 := by
        rw [show y.bli.notices = s.bli.notices from queue]
        exact room
      rw [c.noticesOwed, done.noticesOwed kept few, show y.noticesOwed = s.noticesOwed from notices,
        show y.now = s.now from now, ← doc]
      rfl
    · exact ((reply_answers (s := s) (u := w.heeded) rfl tag 3 .ok 0 .none).raisesOnly done.raisesOnly).choice c

/-! ## PRINT_CANCEL of the entry being printed (R161) -/

/-- The reader of the page being printed, where still held, is given back and its page stays (R10, R161). -/
theorem dropReader_lowers {s : State} {pp : PrintPage} (hp : s.prt.page = some pp)
    (held : pp.reader = true → (s.page pp.ref.page).document.isSome = true) : LowersReaders s s.dropReader := by
  cases reads : pp.reader with
  | false =>
    rw [dropReader_given hp reads]
    exact ⟨rfl, fun _ => rfl⟩
  | true =>
    have drops : s.dropReader = s.release .print pp.ref := by
      rw [State.dropReader, hp]
      exact if_pos reads
    rw [drops]
    exact release_lowers .print fun _ => held reads

theorem LowersReaders.freedByHolds {s t : State} {d : Nat} (h : LowersReaders s t) (freed : s.freedByHolds d) :
    t.freedByHolds d := by
  have doc : t.doc d = s.doc d := by rw [h.frame]; rfl
  simpa only [State.freedByHolds, doc, h.state] using freed

/-- The state once entry `e` has left the engine (R161): its print hold is still to be lowered. -/
def State.printStopped (s : State) (e : Nat) : State := s.dropReader.cutShort.removeEntry e

theorem printStopped_prt (s : State) (e : Nat) : (s.printStopped e).prt = { s.prt with
    phase := .cut, cutRequest := true, current := none, page := none
    entries := tset s.prt.entries e none, order := s.prt.order.erase e } := by
  rw [← dropReader_prt s]
  rfl

theorem cancelEntry_printing {s : State} {e : Nat} (r : Entry) (hc : s.prt.current = some e) :
    s.cancelEntry e r = (s.printStopped e).lowerPrintHold r.document := by
  rw [State.cancelEntry, if_pos hc]
  rfl

theorem printedEntryIsCancelled : Claims.PrintedEntryIsCancelled := by
  intro s tag e r pp h h32 hr hg hc hp scan freed readable
  let d := r.document
  let y := s.heeded.printStopped e
  let v := y.lowerPrintHold d
  let a := v.reply tag 22 .ok 0 (.printCancelled r.printed (r.copies - r.remaining))
  have low : LowersReaders s.heeded s.heeded.dropReader :=
    dropReader_lowers (s := s.heeded) hp fun reads => (readable reads).2.2.1
  have stopped : y.freedByHolds d := low.freedByHolds (s := s.heeded) freed
  have frees : OnlyFrees y v := lowerPrintHold_onlyFrees stopped
  have runs : s.heeded.printCancel tag e = a :=
    (printCancel_inUse (s := s.heeded) tag hr).trans (congrArg (State.reply · tag 22 .ok 0 _) (cancelEntry_printing r hc))
  have doc : y.doc d = s.doc d := (congrArg (State.doc · d) low.frame).trans rfl
  have prt : v.prt = y.prt := (congrArg State.prt frees.frame).trans rfl
  have bli : v.bli = s.heeded.bli := (congrArg State.bli frees.frame).trans ((congrArg State.bli low.frame).trans rfl)
  have yreports : y.reports = [] := (congrArg State.reports low.frame).trans rfl
  have yscan : y.pmm.pendingScan = none := (congrArg (·.pmm.pendingScan) low.frame).trans scan
  have asks : a.asksNoPrint := fun f hf => by
    rw [reply_reports] at hf
    refine .inl ⟨(frees.reports f hf).resolve_left ?_, ?_⟩
    · rw [yreports]
      nofun
    · rw [reply_pmm, ((Beside.refl y).lowerPrintHold).pendingScan, yscan]
  have c := asks.finish
  have tprt : a.finish.prt = _ := c.prt.trans ((reply_prt ..).trans (prt.trans (printStopped_prt s.heeded e)))
  refine ⟨_, commandArgs_gives (tag := tag) (code := 22) (f := fun x s => s.printCancel tag x) h runs,
    ?_, ?_, ?_, ?_, ?_, ?_, ?_, fun f hf => ?_, ?_,
    fun reads stays => ?_, ?_, ?_⟩
  · rw [tprt]; exact hg
  iterate 4 rw [tprt]
  · rw [State.entry, tprt, tget_tset_self _ _ _ _ h32]
  · rw [tprt]; rfl
  · rw [State.entry, tprt, tget_tset_ne _ _ _ _ _ (Ne.symm hf)]; rfl
  · rw [c.doc, State.doc, reply_pmm]
    exact (lowerPrintHold_leaves stopped).trans (congrArg DocRec.printHoldLowered doc)
  · obtain ⟨current, h256, document, held⟩ := readable reads
    have kept : v = y.setDoc d { y.doc d with printHold := (y.doc d).printHold - 1 } :=
      lowerPrintHold_kept stopped (by rwa [doc])
    rw [c.page, State.page, reply_pmm, kept]
    refine (congrArg (State.page · pp.ref.page) (dropReader_held (s := s.heeded) hp reads current document held)).trans ?_
    exact page_setPage_self s.heeded _ _ h256
  · rw [c.noticesOwed, (reply_notices v ..).1, noticesOwed_congr bli]
    rfl
  · exact (reply_answers bli tag 22 .ok 0 _).choice c

/-! ## The report of a final page (R8, R153) -/

/-- Of one entry queued that is BLOCKED, the page it waits for wakes it (R153). -/
theorem printPageFinal_one {s : State} {d i e : Nat} {r : Entry} (order : s.prt.order = [e]) (hr : s.entry e = some r)
    (blocked : r.state = .blocked) : s.printPageFinal d i =
      if r.document = d ∧ r.next = i then (s.setEntry e (some { r with state := .waiting })).report .arbiter else s := by
  rw [State.printPageFinal, order, List.foldl_cons, List.foldl_nil, hr]
  exact if_congr (by simp [blocked]) rfl rfl

theorem finalPageWakesItsEntry : Claims.FinalPageWakesItsEntry := by
  intro s tag e r j b h hm hj hb hh bits lines current filling document h64 h256 order h32 hr blocked busy
  let d := b.document
  let i := (s.page j.ref.page).index
  let u := s.heeded.boardPageCompleted j d
  let a := u.reply tag 12 .ok 0 (.boardEnd i j.lineCount (s.page j.ref.page).byteCount)
  let v : Entry := { r with state := if r.document = d ∧ r.next = i then .waiting else .blocked }
  have ends : s.heeded.endBoardPage tag false = a :=
    (endBoardPage_completes (s := s.heeded) tag hm hj hb lines).trans
      (completeBoardPage_done tag (s := s.heeded) hj current filling document h256 (tryHeld_none hh) (padPage_aligned bits))
  have prt : a.quieted.prt = s.prt := reply_prt ..
  have entry : a.quieted.entry e = some r := (entry_congr prt e).trans hr
  have engine : a.quieted.prt.engine = s.prt.engine := congrArg Prt.engine prt
  have woken := printPageFinal_one (d := d) (i := i) (prt ▸ order) entry blocked
  obtain ⟨x, handles, asks, wakes⟩ : ∃ x, a.quieted.handle (.pageFinal d i) = x ∧ x.asksNoPrint ∧
      x.quieted = a.quieted.setEntry e (some v) := by
    by_cases waits : r.document = d ∧ r.next = i
    · refine ⟨_, woken.trans (if_pos waits), asksNoPrint_arbiter rfl fun idle => busy (engine.symm.trans idle), ?_⟩
      simp only [v, if_pos waits]
      rfl
    · refine ⟨_, woken.trans (if_neg waits), asksNoPrint_of_quiet rfl, ?_⟩
      have same : v = r := by simp only [v, if_neg waits, ← blocked]
      rw [same, setEntry_of_entry entry]
      rfl
  have owed : a.reports = [.pageFinal d i] := reply_reports ..
  have finishes : a.finish = (a.quieted.setEntry e (some v)).finish := by
    rw [finish_of_handled owed (handles ▸ asks.idle), handles, wakes]
  have c : NothingButChoice (a.quieted.setEntry e (some v)) a.finish :=
    finishes ▸ finish_nothingButChoice (a.quieted.setEntry e (some v)) rfl
  have answered : Answered s a _ := reply_answers (s := s) (u := u) rfl tag 12 .ok 0 _
  have alike : RaisesOnly a (a.quieted.setEntry e (some v)) := rfl
  have page : a.finish.page j.ref.page = (s.page j.ref.page).completed j.lineCount := by
    rw [c.page, State.page, show (a.quieted.setEntry e (some v)).pmm = u.pmm from reply_pmm ..]
    exact page_setPage_self s.heeded _ _ h256
  refine ⟨_, commandArgs_gives (tag := tag) (code := 12) (f := fun x s => s.endBoardPage tag x) h ends, ?_, ?_, ?_, ?_, ?_⟩
  · exact (entry_congr c.prt e).trans (entry_setEntry_self a.quieted e _ h32)
  · rw [page]; rfl
  · rw [page]; rfl
  · rw [c.prt]
    exact engine
  · exact (answered.raisesOnly alike).choice c

/-- Settles O58. -/
theorem printEntriesEnd : Obligations.PrintEntriesEnd :=
  ⟨finishedEntryIsRemoved, closeReportEndsCopies, printedEntryIsCancelled, finalPageWakesItsEntry⟩

end Sys2Proof.Machine
end
